-- ==== Sys2Proof/Word.lean ====
section
/-! DEFINITION. The words of the message link (Chapter 11): a byte, and the two wider sizes that the Size columns of the
spec's tables use. Quantities of the part itself are whole numbers (Section 0.6.4) and are Nat or Int, not words. -/

namespace Sys2Proof

/-- One byte of a frame (Table 11-1). -/
abbrev Byte := BitVec 8

/-- A two-byte field. -/
abbrev U16 := BitVec 16

/-- A four-byte field; the time counter is one (Section 10). -/
abbrev U32 := BitVec 32

end Sys2Proof
end

