-- ==== Sys2Proof/Config.lean ====
section
/-! DEFINITION. What the spec fixes once for every part (times, limits and thresholds stated in the rules), and the free
values: constants with no body that stand for a value the spec does not state. -/

namespace Sys2Proof.Config

/-- R1: the control interval of a group, in ms. -/
def controlInterval : Nat := 10
/-- R73: the tracker window, in ms. -/
def trackerWindow : Nat := 50
/-- R5: places in the Order Table. -/
def maxOrders : Nat := 8
/-- R162: places in the Fault Table. -/
def maxFaults : Nat := 16
/-- R75, R133: debounce time while no TIMING record is present, in ms. -/
def defaultDebounce : Nat := 100
/-- R137: two-hand window while no TIMING record is present, in ms. -/
def defaultTwoHand : Nat := 100
/-- R140: release time while no TIMING record is present, in ms. -/
def defaultRelease : Nat := 2000
/-- R65: the stuck timer, in ms. -/
def stuckTime : Nat := 1000
/-- R66: how near its target a pumped phase is taken to have arrived when PSW becomes active, in µm. -/
def pressureNear : Nat := 20000
/-- R122: the shortest on time of a measured period, in µs. -/
def minMeasuredOn : Nat := 100
/-- R122: the low readings that raise COIL_OPEN. -/
def lowLimit : Nat := 3
/-- R127: the wait after a proving drive, in ms. -/
def provingGap : Nat := 20
/-- R127: the length of a proving drive, in ms. -/
def provingDrive : Nat := 5
/-- R156: the current below which a lamp is OPEN, in mA. -/
def lampOpen : Nat := 50
/-- R183: the gap timer, in ms. -/
def frameGap : Nat := 5
/-- R184: places of the request buffer. -/
def maxPlaces : Nat := 2
/-- Table 11-1: the sync byte. -/
def syncByte : Byte := 0xC3#8
/-- Table 0-5: full valve opening and full share, in permille. -/
def full : Nat := 1000

/-- FREE VALUE (assumption 3). The dead-time that a release starts on a pair whose even member has no CHANNEL record: R117
starts the timer, and no rule gives its length. It lies in the 0 to 500 ms that Table 6-8 gives the timer. -/
opaque absentDeadTime : Nat → Fin 501

/-- FREE VALUE (assumption 4). The target held by the phase entry of a TILT_TO LEVEL order before its phase start: R3 fixes
it there and no rule gives it before. It lies in the range of Table 1-2, counted from its lower end −100,000. -/
opaque unfixedTarget : Nat → Fin 3100001

end Sys2Proof.Config
end

