-- ==== Sys2Proof/Syntax.lean ====
section
/-! DEFINITION. The names of the equipment (Section 0.3), the contents of every request as it arrives on the link
(Chapters 1, 2, 4 to 8, 10 and 11), and the commands of the part: one constructor of Instr for each row of the table of
operations and events. -/

namespace Sys2Proof

/-! ### Equipment (Tables 0-1 to 0-4) -/

/-- Table 0-1. -/
inductive Group where
  | lift | kerb | road
deriving DecidableEq, Repr

/-- The two shutter sides, each with its latch channel and latch sense. -/
inductive Side where
  | kerb | road
deriving DecidableEq, Repr

/-- Table 0-2. -/
inductive Axis where
  | lk | lr | tl | sk | sr
deriving DecidableEq, Repr

/-- A drive channel by its number in Table 0-3. -/
abbrev Channel := Fin 12

/-- A proportional drive channel, 0 to 9. -/
abbrev PropChannel := Fin 10

/-- A coupled pair P0 to P4; its even member is channel 2p, its odd member 2p + 1. -/
abbrev PairNo := Fin 5

/-- Table 0-4, the lamp pairs. -/
inductive LampPair where
  | rear | side | flag
deriving DecidableEq, Repr

/-- Table 0-4, the lamps: A is the kerb-side lamp of its pair, B the road-side one. -/
inductive Lamp where
  | a (p : LampPair)
  | b (p : LampPair)
deriving DecidableEq, Repr

/-- The sixteen debounced lines of R133: H1 to H4, G1 to G8, LS-K and LS-R, PSW and PRS (counted from 0). -/
inductive Line where
  | h (i : Fin 4)
  | g (i : Fin 8)
  | latchSense (d : Side)
  | psw
  | prs
deriving DecidableEq, Repr

/-! ### Requests as received (raw fields, in the order and at the sizes of their tables) -/

/-- Table 10-2. -/
structure EquipmentReq where
  lift : Byte
  kerb : Byte
  road : Byte
deriving DecidableEq, Repr

/-- Table 4-1. -/
structure AxisReq where
  axis : Byte
  n : U16
  num : U16
  den : U16
  home : U32
  softLower : U32
  softUpper : U32
  arrival : U32
  homeWindow : U32
  driftLimit : U32
  openPos : U32
  closedWindow : U32
  stowWindow : U32
deriving DecidableEq, Repr

/-- Table 6-1. -/
structure ChannelReq where
  channel : Byte
  period : U16
  lo : U16
  hi : U16
  width : U16
  dead : U16
  openThr : U16
  shortThr : U16
deriving DecidableEq, Repr

/-- Table 3-1. -/
structure FlowReq where
  capacity : Byte
  cold : Byte
  threshold : U16
  liftUp : Byte
  tilt : Byte
  shutterUp : Byte
  start : U16
  runOn : U16
deriving DecidableEq, Repr

/-- Table 5-1; the six time limits are one field. -/
structure ProfileReq where
  profile : Byte
  creep : U16
  normal : U16
  fast : U16
  fMin : U16
  kApp : U16
  ramp : U16
  stop : U16
  stallSpeed : U32
  stallTime : U16
  settle : U16
  limits : Vector Byte 6
  kSync : U16
  cMax : U16
  deadband : U16
  skewWarn : U32
  skewStop : U32
  bed : U32
  level : U32
  tiltPerTenth : U16
deriving DecidableEq, Repr

/-- Table 10-3. -/
structure TimingReq where
  hold : U16
  block : U16
  twoHand : U16
  debounce : Byte
  release : U16
  status : U16
  latchCheck : U16
deriving DecidableEq, Repr

/-- Table 7-3: the eight minimum bindings, then six stop input slots (an input and a polarity each). -/
structure PolicyReq where
  bindings : Vector Byte 8
  slots : Vector (Byte × Byte) 6
deriving DecidableEq, Repr

/-- Table 2-4. -/
structure TermReq where
  kind : Byte
  negated : Byte
  item : Byte
  value : U32
  upper : U32
deriving DecidableEq, Repr

/-- Table 2-3. -/
structure InterlockReq where
  entry : Byte
  subject : Byte
  loss : Byte
  count : Byte
  terms : List TermReq
deriving DecidableEq, Repr

/-- Table 8-3. -/
structure LampsReq where
  modes : Vector Byte 3
  discrete : Vector Byte 3
deriving DecidableEq, Repr

/-- Table 8-1: each step is its lit flag and its duration. -/
structure PatternReq where
  pattern : Byte
  repeats : Byte
  count : Byte
  steps : List (Byte × Byte)
deriving DecidableEq, Repr

/-- One claim of Table 8-4. -/
structure SceneClaimReq where
  claim : Byte
  pattern : Byte
  invert : Byte
deriving DecidableEq, Repr

/-- Table 8-4. -/
structure SceneReq where
  scene : Byte
  priority : Byte
  claims : Vector SceneClaimReq 3
deriving DecidableEq, Repr

/-- Tables 1-4 and 11-4. -/
structure SubmitReq where
  kind : Byte
  side : Byte
  form : Byte
  target : U32
  speed : Byte
  bindKind : Byte
  bindInput : Byte
  limit : Byte
deriving DecidableEq, Repr

/-- Table 11-6a. -/
structure VehicleReq where
  brake : Byte
  speed : U16
  oil : U16
  pitch : U16
  roll : U16
  night : Byte
deriving DecidableEq, Repr

/-- Table 8-6. -/
structure OverrideReq where
  pair : Byte
  action : Byte
  pattern : Byte
  invert : Byte
  duration : U16
deriving DecidableEq, Repr

/-! ### Commands -/

/-- One constructor for each row of opcode_table.json. A request carries the TAG its frame carries (Table 11-1) and its
payload's fields; an event carries what names the thing it happens to, and the measured current or level where the event
is a measurement or a change of level. -/
inductive Instr where
  -- supply (R177 to R180)
  | powerOnReset
  | enableTakenLow
  | enableTakenHigh
  | lineBreak
  | standbyEntry
  -- link (R182 to R188)
  | frameGapTimeout
  | framingError
  | frameComplete
  | checkMismatch
  | requestHandedOn
  | frameSent
  -- fitment requests (R173 to R176)
  | fitEquipment (tag : Byte) (r : EquipmentReq)
  | fitAxis (tag : Byte) (r : AxisReq)
  | fitChannel (tag : Byte) (r : ChannelReq)
  | fitFlow (tag : Byte) (r : FlowReq)
  | fitProfile (tag : Byte) (r : ProfileReq)
  | fitTiming (tag : Byte) (r : TimingReq)
  | fitPolicy (tag : Byte) (r : PolicyReq)
  | fitInterlock (tag : Byte) (r : InterlockReq)
  | fitLamps (tag : Byte) (r : LampsReq)
  | fitPattern (tag : Byte) (r : PatternReq)
  | fitScene (tag : Byte) (r : SceneReq)
  | fitRead (tag : Byte) (kind : Byte) (index : Byte)
  | fitLock (tag : Byte)
  -- order requests (R8 to R14, R33)
  | submit (tag : Byte) (r : SubmitReq)
  | cancel (tag : Byte) (number : U16)
  | retire (tag : Byte) (number : U16)
  | queryOrder (tag : Byte) (number : U16)
  | queryTable (tag : Byte)
  -- the other requests
  | vehicle (tag : Byte) (r : VehicleReq)
  | queryAxes (tag : Byte)
  | queryStatus (tag : Byte) (sec : Byte)
  | queryFaults (tag : Byte)
  | clearFaults (tag : Byte)
  | groupReset (tag : Byte) (group : Byte)
  | stopReset (tag : Byte)
  | prove (tag : Byte)
  | queryProve (tag : Byte)
  | beaconOverride (tag : Byte) (r : OverrideReq)
  | setOutput (tag : Byte) (line : Byte) (value : Byte)
  | standby (tag : Byte)
  -- orders and motion
  | controlInterval (g : Group)
  | blockWindowExpiry (g : Group)
  | holdWindowExpiry (g : Group)
  | settleTimerExpiry (g : Group)
  | latchCheckTimerExpiry (g : Group)
  | timeLimitReached (g : Group)
  -- vehicle status and pump
  | statusTimerExpiry
  | startTimerExpiry
  | runOnTimerExpiry
  | stuckTimerExpiry
  -- axis trackers
  | pulseCounted (a : Axis) (forward : Bool)
  | trackerWindowEnd (a : Axis)
  | homeSwitchRawChange (a : Axis) (level : Bool)
  | homeSwitchDebounceExpiry (a : Axis)
  -- operator inputs and emergency stop
  | inputRawChange (l : Line) (level : Bool)
  | inputDebounceExpiry (l : Line)
  | twoHandWindowExpiry (t : Fin 2)
  | loopOpening
  | loopClosing
  | releaseTimerExpiry
  -- drive (measured currents in mA)
  | periodBoundary (c : PropChannel)
  | deadTimeExpiry (p : PairNo)
  | pulseTimerExpiry (d : Side)
  | latchCoilCheck (d : Side) (current : Nat)
  | coilMeasurement (c : PropChannel) (current : Nat)
  | coilShortDetected (c : Channel)
  | provingDriveStart
  | provingDriveEnd (current : Nat)
  -- beacons (measured currents in mA)
  | stepTimerExpiry (p : LampPair)
  | overrideTimerExpiry (p : LampPair)
  | lampMeasurement (l : Lamp) (current : Nat)
  | lampShortDetected (l : Lamp)
  -- faults
  | resettingTimerExpiry (g : Group)
  -- the receive line
  | byteReceived (b : Byte)
  | receiveLineReturnedHigh
deriving DecidableEq, Repr

end Sys2Proof
end

