-- ==== Sys2Proof/WellFormed.lean ====
section
/-! DEFINITION. Which commands can be spelled on the line: a request with a list must hold as many entries as its count
field says. A longer or shorter one is a payload whose length does not agree with its count (R185), which the part answers
LENGTH; exec gives it that meaning too. -/

namespace Sys2Proof

/-- R185: the length of an INTERLOCK payload agrees with its term count. -/
def InterlockReq.lengthOk (r : InterlockReq) : Bool := r.terms.length == r.count.toNat

/-- R145, R185: the length of a PATTERN payload agrees with its step count. -/
def PatternReq.lengthOk (r : PatternReq) : Bool := r.steps.length == r.count.toNat

/-- A command whose list fields agree with their counts. -/
def Instr.wellFormed : Instr → Bool
  | .fitInterlock _ r => r.lengthOk
  | .fitPattern _ r => r.lengthOk
  | .powerOnReset | .enableTakenLow | .enableTakenHigh | .lineBreak | .standbyEntry | .frameGapTimeout | .framingError
  | .frameComplete | .checkMismatch | .requestHandedOn | .frameSent | .fitEquipment _ _ | .fitAxis _ _ | .fitChannel _ _
  | .fitFlow _ _ | .fitProfile _ _ | .fitTiming _ _ | .fitPolicy _ _ | .fitLamps _ _ | .fitScene _ _ | .fitRead _ _ _
  | .fitLock _ | .submit _ _ | .cancel _ _ | .retire _ _ | .queryOrder _ _ | .queryTable _ | .vehicle _ _ | .queryAxes _
  | .queryStatus _ _ | .queryFaults _ | .clearFaults _ | .groupReset _ _ | .stopReset _ | .prove _ | .queryProve _
  | .beaconOverride _ _ | .setOutput _ _ _ | .standby _ | .controlInterval _ | .blockWindowExpiry _ | .holdWindowExpiry _
  | .settleTimerExpiry _ | .latchCheckTimerExpiry _ | .timeLimitReached _ | .statusTimerExpiry | .startTimerExpiry
  | .runOnTimerExpiry | .stuckTimerExpiry | .pulseCounted _ _ | .trackerWindowEnd _ | .homeSwitchRawChange _ _
  | .homeSwitchDebounceExpiry _ | .inputRawChange _ _ | .inputDebounceExpiry _ | .twoHandWindowExpiry _ | .loopOpening
  | .loopClosing | .releaseTimerExpiry | .periodBoundary _ | .deadTimeExpiry _ | .pulseTimerExpiry _ | .latchCoilCheck _ _
  | .coilMeasurement _ _ | .coilShortDetected _ | .provingDriveStart | .provingDriveEnd _ | .stepTimerExpiry _
  | .overrideTimerExpiry _ | .lampMeasurement _ _ | .lampShortDetected _ | .resettingTimerExpiry _ | .byteReceived _
  | .receiveLineReturnedHigh => true

end Sys2Proof
end

