-- ==== Sys2Proof/Decode.lean ====
section
/-! DEFINITION. The command that a word spells by the bits of opcode_table.json. No row of that table gives bits (its
commands are frames on a serial line, changes of lines and expiries of timers), so no word spells one. The reading of a
request from the payload of its frame is in Machine/Operands.lean. -/

namespace Sys2Proof

/-- No row of the table has bits: every word is refused. -/
def decodeTableWord (_nbits _w : Nat) : Option Instr := none

end Sys2Proof
end

