-- ==== Sys2Proof/Machine/State.lean ====
section
/-! DEFINITION. The state of the part as plain data: one structure for each block of Section 0.4, holding every piece of
state the block's chapter lists, the queue of waiting commands, and State.reset, the values after power-on reset. -/

namespace Sys2Proof.Machine

/-- A timer: none when stopped, otherwise the time left in ms. A timer that has run down holds 0 until its expiry is
taken. -/
abbrev Timer := Option Nat

/-! ### Fitment records (Chapter 10) -/

/-- Table 10-2. -/
structure EquipmentRec where
  lift : Bool
  kerb : Bool
  road : Bool
deriving DecidableEq, Repr

/-- Table 4-1. -/
structure AxisRec where
  n : Nat
  num : Nat
  den : Nat
  home : Int
  softLower : Int
  softUpper : Int
  arrival : Nat
  homeWindow : Nat
  driftLimit : Nat
  openPos : Int
  closedWindow : Nat
  stowWindow : Nat
deriving DecidableEq, Repr

/-- Table 6-1. -/
structure ChannelRec where
  period : Nat
  lo : Nat
  hi : Nat
  width : Nat
  dead : Nat
  openThr : Nat
  shortThr : Nat
deriving DecidableEq, Repr

/-- Table 3-1. -/
structure FlowRec where
  capacity : Nat
  cold : Nat
  threshold : Int
  liftUp : Nat
  tilt : Nat
  shutterUp : Nat
  start : Nat
  runOn : Nat
deriving DecidableEq, Repr

/-- The three PROFILE records of Section 5.1. -/
inductive Profile where
  | lift | tilt | shutter
deriving DecidableEq, Repr

/-- Table 5-1. -/
structure ProfileRec where
  creep : Nat
  normal : Nat
  fast : Nat
  fMin : Nat
  kApp : Nat
  ramp : Nat
  stop : Nat
  stallSpeed : Nat
  stallTime : Nat
  settle : Nat
  limits : Vector Nat 6
  kSync : Nat
  cMax : Nat
  deadband : Nat
  skewWarn : Nat
  skewStop : Nat
  bed : Int
  level : Int
  tiltPerTenth : Int
deriving DecidableEq, Repr

/-- Table 10-3. -/
structure TimingRec where
  hold : Nat
  block : Nat
  twoHand : Nat
  debounce : Nat
  release : Nat
  status : Nat
  latchCheck : Nat
deriving DecidableEq, Repr

/-- A stop input slot of Table 7-3: the input, none when unused, and the level at which it stops the group. -/
structure StopSlot where
  input : Option (Fin 8)
  stopsOn : Bool
deriving DecidableEq, Repr

/-- The binding kinds, in rank order (R11). -/
inductive BindKind where
  | none | edge | level | twoHand
deriving DecidableEq, Repr

/-- Table 7-3; slots 2g and 2g + 1 belong to group g. -/
structure PolicyRec where
  bindings : Vector BindKind 8
  slots : Vector StopSlot 6
deriving DecidableEq, Repr

/-- The movement classes of Table 2-3. -/
inductive MoveClass where
  | liftUp | liftDown | tiltOut | tiltIn | kerbOpen | kerbClose | roadOpen | roadClose
deriving DecidableEq, Repr

/-- Table 2-3, the loss action. -/
inductive LossAction where
  | stopWait | stopFail
deriving DecidableEq, Repr

/-- Table 2-4, the term kinds. -/
inductive TermKind where
  | brakeApplied | speedZero | statusFresh | night | rollWithin | pitchWithin | axisIn | axisReferenced | groupIdle
  | input | lampsHealthy | proven
deriving DecidableEq, Repr

/-- Table 2-4, what a term names. -/
inductive Item where
  | axis (a : Axis)
  | group (g : Group)
  | input (i : Fin 8)
  | pair (p : LampPair)
  | none
deriving DecidableEq, Repr

/-- Table 2-4. -/
structure Term where
  kind : TermKind
  negated : Bool
  item : Item
  value : Int
  upper : Int
deriving DecidableEq, Repr

/-- Table 2-3; subject none stands for ANY. The entry number is the place. -/
structure InterlockRec where
  subject : Option MoveClass
  loss : LossAction
  terms : List Term
deriving DecidableEq, Repr

/-- Table 8-3, the pair modes. -/
inductive PairMode where
  | mirror | alternate | single
deriving DecidableEq, Repr

/-- Table 8-3. -/
structure LampsRec where
  modes : Vector PairMode 3
  discrete : Vector Bool 3
deriving DecidableEq, Repr

/-- One step of Table 8-1; the duration is in units of 10 ms. -/
structure PatStep where
  lit : Bool
  dur : Nat
deriving DecidableEq, Repr

/-- Table 8-1. -/
structure PatternRec where
  repeats : Nat
  steps : List PatStep
deriving DecidableEq, Repr

/-- One claim of Table 8-4. -/
structure SceneClaim where
  claim : Bool
  pattern : Nat
  invert : Bool
deriving DecidableEq, Repr

/-- Table 8-4. -/
structure SceneRec where
  priority : Nat
  claims : Vector SceneClaim 3
deriving DecidableEq, Repr

/-- The Fitment Store's places (Table 10-1), none when absent, and the fitment state. Interlock place i holds entry
i + 1, pattern place i pattern i + 1, scene place i scene i + 1. -/
structure Fitment where
  locked : Bool
  equipment : Option EquipmentRec
  axes : Vector (Option AxisRec) 5
  channels : Vector (Option ChannelRec) 12
  flow : Option FlowRec
  profiles : Vector (Option ProfileRec) 3
  timing : Option TimingRec
  policy : Option PolicyRec
  interlocks : Vector (Option InterlockRec) 24
  lamps : Option LampsRec
  patterns : Vector (Option PatternRec) 8
  scenes : Vector (Option SceneRec) 8
deriving DecidableEq, Repr

/-! ### Supply (Chapter 10) -/

/-- Table 10-7. -/
inductive Supply where
  | run | held | standby
deriving DecidableEq, Repr

/-- Table 10-8a, the last reset. -/
inductive ResetCause where
  | powerOn | enable | lineBreak | standbyExit
deriving DecidableEq, Repr

/-- R180: where an accepted STANDBY request stands: none accepted; accepted with its reply not wholly sent; its reply
sent, the entry due. -/
inductive StandbyPhase where
  | none | accepted | replied
deriving DecidableEq, Repr

/-- The Fitment Store's supply side. -/
structure SupplyState where
  mode : Supply
  enable : Bool
  awaitFirst : Bool
  time : U32
  lastReset : ResetCause
  standby : StandbyPhase
deriving DecidableEq, Repr

/-! ### The message link (Chapter 11) -/

/-- A frame less its sync byte, LEN and check, which follow from these (Table 11-1). -/
structure Frame where
  kind : Byte
  tag : Byte
  payload : List Byte
deriving DecidableEq, Repr

/-- R183: the receiver's states. -/
inductive RxState where
  | hunt | length | body | check
deriving DecidableEq, Repr

/-- A place of the request buffer: the request taken, and whether its reply has been produced (R184, R185). -/
structure Place where
  frame : Frame
  answered : Bool
deriving DecidableEq, Repr

/-- A reply produced: its frame, whether it frees a place of the request buffer when sent, and whether it is the DONE of an
accepted STANDBY. -/
structure OutReply where
  frame : Frame
  freesPlace : Bool
  entersStandby : Bool
deriving DecidableEq, Repr

/-- What the transmitter is sending (R187). -/
inductive Sending where
  | reply (r : OutReply)
  | notice (f : Frame)
deriving DecidableEq, Repr

/-- The Link Interface. rxLen, rxBody and rxCheck are the frame being assembled: its LEN byte, the bytes of KIND, TAG and
PAYLOAD collected, and the check bytes collected. -/
structure Link where
  rx : RxState
  gap : Timer
  rxLen : Byte
  rxBody : List Byte
  rxCheck : List Byte
  breakReported : Bool
  places : List Place
  replies : List OutReply
  tx : Option Sending
  pendStop : Bool
  pendFault : Bool
  pendOrder : Bool
deriving DecidableEq, Repr

/-! ### Orders (Chapter 1) -/

/-- Table 1-1, the order kinds (OPEN and CLOSE as openShutter and closeShutter). -/
inductive OrderKind where
  | raiseTo | lowerTo | tiltTo | deploy | stow | home | openShutter | closeShutter
deriving DecidableEq, Repr

/-- The phase kinds of Section 1.1. -/
inductive PhaseKind where
  | pumped | gravity | pulse | check
deriving DecidableEq, Repr

/-- Table 1-2, how a phase arrives. -/
inductive Ending where
  | target | switch | pulseDone | sense
deriving DecidableEq, Repr

/-- Table 1-2. -/
structure Phase where
  kind : PhaseKind
  cls : Option MoveClass
  target : Int
  ending : Ending
  sync : Bool
deriving DecidableEq, Repr

/-- Table 1-4, the speed classes. -/
inductive SpeedClass where
  | creep | normal | fast
deriving DecidableEq, Repr

/-- The bindings of Table 1-3; hold inputs and two-hand sets are counted from 0. -/
inductive Binding where
  | none
  | edge (h : Fin 4)
  | level (h : Fin 4)
  | twoHand (t : Fin 2)
deriving DecidableEq, Repr

/-- Table 1-6. -/
inductive OrderState where
  | queued | blocked | holdWait | claiming | moving | stopping | paused | settling | ended
deriving DecidableEq, Repr

/-- Table 1-3, the stop outcomes (END as finish). -/
inductive StopOutcome where
  | arrived | block | pause | finish
deriving DecidableEq, Repr

/-- Table 1-7, the results. -/
inductive OrderResult where
  | completed | cancelled | aborted | failed
deriving DecidableEq, Repr

/-- Table 1-7, the reasons, in the order of R190. -/
inductive Reason where
  | estop | groupReset | inhibited | interlock | interlockLost | holdTimeout | timeout | skew | stall | limit
  | obstructed | coil | pump | latch
deriving DecidableEq, Repr

/-- Table 1-3, the order record. endRank is the model's own field: it orders the ends of records for R7, equal for records
that ended in one event. -/
structure Order where
  number : Nat
  group : Group
  kind : OrderKind
  target : Option Int
  level : Bool
  clamped : Bool
  speed : SpeedClass
  binding : Binding
  limit : Option Nat
  phases : List Phase
  index : Nat
  state : OrderState
  outcome : Option StopOutcome
  pendResult : Option OrderResult
  pendReason : Option Reason
  startedEdge : Bool
  movingTime : Nat
  uncompensated : Bool
  blocking : Nat
  submittedAt : U32
  endedAt : Option U32
  result : Option OrderResult
  reason : Option Reason
  residual : Option Int
  noticed : Bool
  endRank : Nat
deriving DecidableEq, Repr

/-- The control timers of a group's active order, and the time left to the group's next control interval (R1). -/
structure GroupCtl where
  block : Timer
  hold : Timer
  settle : Timer
  latchCheck : Timer
  interval : Nat
deriving DecidableEq, Repr

/-- The Motion Sequencer. orders is the Order Table in submission order; a group's active pointer is the one order of the
group outside QUEUED and ENDED (State.active?). -/
structure Sequencer where
  orders : List Order
  nextNumber : Nat
  endRank : Nat
  ctl : Vector GroupCtl 3
deriving DecidableEq, Repr

/-! ### Vehicle status (Chapter 2) -/

/-- Table 2-1, the parking brake. -/
inductive Brake where
  | applied | released | unknown
deriving DecidableEq, Repr

/-- Table 2-1 and the status timer. -/
structure Vehicle where
  brake : Brake
  speed : Nat
  oil : Int
  pitch : Int
  roll : Int
  night : Bool
  fresh : Bool
  acceptedAt : Option U32
  timer : Timer
deriving DecidableEq, Repr

/-! ### The power pack (Chapter 3) -/

/-- Table 3-3. -/
inductive PumpState where
  | off | starting | running | runOn
deriving DecidableEq, Repr

/-- Table 3-2; amount and share are none until the claim is granted. -/
structure Claim where
  group : Group
  order : Nat
  demand : Nat
  amount : Option Nat
  share : Option Nat
  ready : Bool
deriving DecidableEq, Repr

/-- The Flow Arbiter: the pump machine and its timers, the capacity in force K and whether it was computed as C_cold, the
waiting list and the granted set. The PUMP output is on when the pump is not OFF. -/
structure Flow where
  pump : PumpState
  start : Timer
  runOn : Timer
  stuck : Timer
  capacity : Nat
  cold : Bool
  waiting : List Claim
  granted : List Claim
deriving DecidableEq, Repr

/-! ### Axis Trackers (Chapter 4) -/

/-- Section 4.3, the motion sense. -/
inductive Sense where
  | towardHome | stationary | away
deriving DecidableEq, Repr

/-- One Axis Tracker; inside is the window presentation of TL, SK and SR (R74), rawHome the raw level of the home switch. -/
structure Tracker where
  pos : Int
  rem : Nat
  referenced : Bool
  net : Int
  windowLeft : Nat
  speed : Int
  sense : Sense
  rawHome : Bool
  home : Bool
  homeTimer : Timer
  parked : Option Int
  inside : Bool
deriving DecidableEq, Repr

/-! ### Motion Law (Chapter 5) -/

/-- R90, the skew supervision state. -/
inductive SkewState where
  | none | normal | warned
deriving DecidableEq, Repr

/-- R90, the run of a phase; demands lists each driven channel with the demand last sent to it. -/
structure Run where
  order : Nat
  index : Nat
  fCmd : Nat
  fBase : Nat
  share : Nat
  skewState : SkewState
  stall : Nat
  remaining : Nat
  skew : Int
  correction : Nat
  demands : List (Channel × Nat)
deriving DecidableEq, Repr

/-! ### Drive Unit (Chapter 6) -/

/-- Tables 6-3 and 6-6. -/
inductive ChanState where
  | idle | running | ending
deriving DecidableEq, Repr

/-- One channel machine; onTime is D of the current period, pulse and requester belong to a latch channel's pulse. -/
structure Chan where
  state : ChanState
  opening : Nat
  onTime : Nat
  buffer : Option Nat
  low : Nat
  pulse : Timer
  requester : Option Nat
deriving DecidableEq, Repr

/-- The two members of a coupled pair. -/
inductive Member where
  | even | odd
deriving DecidableEq, Repr

/-- Table 6-4. -/
structure Pair where
  dead : Timer
  resumable : Option Member
  waiting : Option (Member × Nat)
deriving DecidableEq, Repr

/-- Table 6-7, the overall result. -/
inductive ProveResult where
  | none | running | passed | failed | abandoned
deriving DecidableEq, Repr

/-- Table 6-7, a channel's result. -/
inductive ChanResult where
  | notTested | pass | open_ | short
deriving DecidableEq, Repr

/-- The proving record of Table 6-7, and where a running test stands: the next channel number to visit, the channel under
its proving drive, the time left of the drive, and the wait left after the last drive. -/
structure Prove where
  overall : ProveResult
  failures : Nat
  results : Vector ChanResult 12
  startedAt : Option U32
  endedAt : Option U32
  next : Nat
  driving : Option Channel
  drive : Timer
  gap : Timer
deriving DecidableEq, Repr

/-- The Drive Unit. -/
structure Drive where
  chans : Vector Chan 12
  pairs : Vector Pair 5
  prove : Prove
deriving DecidableEq, Repr

/-! ### Operator Input Unit (Chapter 7) -/

/-- A debounced line: its raw level, its debounced level and its stability timer (R133). -/
structure LineState where
  raw : Bool
  level : Bool
  timer : Timer
deriving DecidableEq, Repr

/-- Table 7-2. -/
inductive TwoHandState where
  | released | half | held | lockout
deriving DecidableEq, Repr

/-- A two-hand machine and its window. -/
structure TwoHand where
  state : TwoHandState
  window : Timer
deriving DecidableEq, Repr

/-- Table 7-4. -/
inductive EstopState where
  | clear | active | held | releasable
deriving DecidableEq, Repr

/-- The Operator Input Unit: the sixteen lines, the two-hand machines, the stop state of each group, the level of the
ESTOP loop (loopLine) and the level last taken (loopOpen), the emergency stop machine and its release timer. -/
structure Operator where
  lines : Vector LineState 16
  hands : Vector TwoHand 2
  obstructed : Vector Bool 3
  loopLine : Bool
  loopOpen : Bool
  estop : EstopState
  release : Timer
deriving DecidableEq, Repr

/-! ### Beacon Engine (Chapter 8) -/

/-- Table 8-2, what supplied a selection; a scene by its number 1 to 8. -/
inductive Source where
  | none
  | scene (n : Nat)
  | override
deriving DecidableEq, Repr

/-- Section 8.2, a selection and its source. -/
structure Selection where
  pattern : Nat
  invert : Bool
  source : Source
deriving DecidableEq, Repr

/-- Table 8-2, the condition of a player. -/
inductive PlayerCond where
  | playing | dark | finished
deriving DecidableEq, Repr

/-- Table 8-2. -/
structure Player where
  sel : Selection
  steps : List PatStep
  repeats : Nat
  cond : PlayerCond
  step : Nat
  cycle : Nat
  timer : Timer
  pending : Option Selection
deriving DecidableEq, Repr

/-- Section 8.5; timer none lasts until released. -/
structure Override where
  pattern : Nat
  invert : Bool
  timer : Timer
deriving DecidableEq, Repr

/-- Table 8-7. -/
inductive Health where
  | untested | healthy | open_ | shorted
deriving DecidableEq, Repr

/-- One lamp line's health and cut. -/
structure LampState where
  health : Health
  cut : Bool
deriving DecidableEq, Repr

/-- The Beacon Engine; active holds the conditions of scenes 1 to 8 at places 0 to 7, lamps the six lamps in the order of
Table 0-4, latches the discrete latch of each pair's lamp B. -/
structure Beacon where
  active : Vector Bool 8
  players : Vector Player 3
  overrides : Vector (Option Override) 3
  lamps : Vector LampState 6
  latches : Vector Bool 3
deriving DecidableEq, Repr

/-! ### Fault Table (Chapter 9) -/

/-- Table 9-2, the codes. -/
inductive FaultCode where
  | coilOpen | coilShort | pumpNoStart | pumpLost | pumpStuck | pressureRelief | skew | skewWarn | stall
  | referenceMismatch | drift | statusStale | lampOpen | lampShort | latchFault | provingFailed | estop
deriving DecidableEq, Repr

/-- Table 9-1, the subject. -/
inductive Subject where
  | none
  | axis (a : Axis)
  | channel (c : Channel)
  | group (g : Group)
  | lamp (l : Lamp)
deriving DecidableEq, Repr

/-- Table 9-1; the class follows from the code (Table 9-2). active is yes for ACTIVE, no for LATCHED. -/
structure Entry where
  code : FaultCode
  subject : Subject
  active : Bool
  firstSeen : U32
  lastSeen : U32
  count : Nat
deriving DecidableEq, Repr

/-- The four inhibit names (R165). -/
structure Inhibits where
  lift : Bool
  kerb : Bool
  road : Bool
  pumped : Bool
deriving DecidableEq, Repr

/-- The Fault Table; entries from the oldest; resetting holds each group's RESETTING timer, none when READY. -/
structure FaultTable where
  entries : List Entry
  overflow : Bool
  overflowInhibits : Inhibits
  flags : Inhibits
  resetting : Vector Timer 3
deriving DecidableEq, Repr

/-! ### The machine -/

/-- The state of the part. pending is the queue of waiting commands; free counts the free values used so far (assumption
2). -/
structure State where
  pending : List Instr
  supply : SupplyState
  fitment : Fitment
  link : Link
  seq : Sequencer
  vehicle : Vehicle
  flow : Flow
  trackers : Vector Tracker 5
  runs : Vector (Option Run) 3
  drive : Drive
  operator : Operator
  beacon : Beacon
  faults : FaultTable
  free : Nat
deriving DecidableEq, Repr

/-- The part has no fault of its own that stops it: every command is answered with a next state. -/
inductive Fault where
deriving DecidableEq, Repr

/-- Why a command has no meaning. -/
inductive Refusal where
  /-- Raised by exec alone, for a row whose meaning is not written yet (none is left). Safe: nothing can be proved of a
  command that is not modelled. -/
  | notModelled (mnemonic : String)
deriving DecidableEq, Repr

/-! ### Power-on values -/

/-- A blank scene (R150): it claims no pair, and its priority is 1. -/
def SceneRec.blank : SceneRec where
  priority := 1
  claims := Vector.replicate 3 ⟨false, 0, false⟩

/-- Power-on values of the fitment (R173): OPEN, every place absent. -/
def Fitment.reset : Fitment where
  locked := false
  equipment := none
  axes := Vector.replicate 5 none
  channels := Vector.replicate 12 none
  flow := none
  profiles := Vector.replicate 3 none
  timing := none
  policy := none
  interlocks := Vector.replicate 24 none
  lamps := none
  patterns := Vector.replicate 8 none
  scenes := Vector.replicate 8 none

/-- R179: HELD until ENABLE is first taken, the time counter 0. -/
def SupplyState.reset : SupplyState where
  mode := .held
  enable := false
  awaitFirst := true
  time := 0
  lastReset := .powerOn
  standby := .none

/-- R192. -/
def Link.reset : Link where
  rx := .hunt
  gap := none
  rxLen := 0
  rxBody := []
  rxCheck := []
  breakReported := false
  places := []
  replies := []
  tx := none
  pendStop := false
  pendFault := false
  pendOrder := false

/-- No control timer runs; a full control interval lies ahead. -/
def GroupCtl.reset : GroupCtl where
  block := none
  hold := none
  settle := none
  latchCheck := none
  interval := Config.controlInterval

/-- R5, R6. -/
def Sequencer.reset : Sequencer where
  orders := []
  nextNumber := 1
  endRank := 0
  ctl := Vector.replicate 3 GroupCtl.reset

/-- R42. -/
def Vehicle.reset : Vehicle where
  brake := .unknown
  speed := 0
  oil := 0
  pitch := 0
  roll := 0
  night := false
  fresh := false
  acceptedAt := none
  timer := none

/-- R68. -/
def Flow.reset : Flow where
  pump := .off
  start := none
  runOn := none
  stuck := none
  capacity := 0
  cold := false
  waiting := []
  granted := []

/-- R85; the home switch's debounce starts as if it had just changed (100 ms, no TIMING record). -/
def Tracker.reset : Tracker where
  pos := 0
  rem := 0
  referenced := false
  net := 0
  windowLeft := Config.trackerWindow
  speed := 0
  sense := .stationary
  rawHome := false
  home := false
  homeTimer := some Config.defaultDebounce
  parked := none
  inside := false

/-- R132, a channel. -/
def Chan.reset : Chan where
  state := .idle
  opening := 0
  onTime := 0
  buffer := none
  low := 0
  pulse := none
  requester := none

/-- R132, a pair. -/
def Pair.reset : Pair where
  dead := none
  resumable := none
  waiting := none

/-- R132, the proving record. -/
def Prove.reset : Prove where
  overall := .none
  failures := 0
  results := Vector.replicate 12 .notTested
  startedAt := none
  endedAt := none
  next := 0
  driving := none
  drive := none
  gap := none

/-- R132. -/
def Drive.reset : Drive where
  chans := Vector.replicate 12 Chan.reset
  pairs := Vector.replicate 5 Pair.reset
  prove := Prove.reset

/-- R135: a line's level is inactive and its stability timer starts as if a raw change had just been taken. -/
def LineState.reset : LineState where
  raw := false
  level := false
  timer := some Config.defaultDebounce

/-- R137. -/
def TwoHand.reset : TwoHand where
  state := .released
  window := none

/-- R135, R137, R138, R143, with the loop closed. -/
def Operator.reset : Operator where
  lines := Vector.replicate 16 LineState.reset
  hands := Vector.replicate 2 TwoHand.reset
  obstructed := Vector.replicate 3 false
  loopLine := false
  loopOpen := false
  estop := .clear
  release := none

/-- R161: pattern 0, DARK. -/
def Player.reset : Player where
  sel := ⟨0, false, .none⟩
  steps := []
  repeats := 0
  cond := .dark
  step := 0
  cycle := 1
  timer := none
  pending := none

/-- R161: IDLE, PLATFORM_OUT, KERB_OPEN and ROAD_OPEN are active. -/
def Beacon.reset : Beacon where
  active := #v[true, true, false, true, true, false, false, false]
  players := Vector.replicate 3 Player.reset
  overrides := Vector.replicate 3 none
  lamps := Vector.replicate 6 ⟨.untested, false⟩
  latches := Vector.replicate 3 false

/-- No inhibit. -/
def Inhibits.none : Inhibits := ⟨false, false, false, false⟩

/-- R172. -/
def FaultTable.reset : FaultTable where
  entries := []
  overflow := false
  overflowInhibits := Inhibits.none
  flags := Inhibits.none
  resetting := Vector.replicate 3 Option.none

/-- The part right after power-on reset (R179), its lines at the levels assumption 1 names. -/
def State.reset : State where
  pending := []
  supply := SupplyState.reset
  fitment := Fitment.reset
  link := Link.reset
  seq := Sequencer.reset
  vehicle := Vehicle.reset
  flow := Flow.reset
  trackers := Vector.replicate 5 Tracker.reset
  runs := Vector.replicate 3 Option.none
  drive := Drive.reset
  operator := Operator.reset
  beacon := Beacon.reset
  faults := FaultTable.reset
  free := 0

end Sys2Proof.Machine
end

