-- ==== Sys2Proof/Machine/Ops.lean ====
section
/-! DEFINITION. The named operations over the state that every block uses: where each named thing stands in its table, the
accessors and updates of State, the classes of the equipment (Tables 0-1 to 0-4, 2-2, 5-2), timers and clamping. -/

namespace Sys2Proof

/-! ### Places of named things -/

/-- Table 0-1 order. -/
def Group.idx : Group → Fin 3
  | .lift => 0 | .kerb => 1 | .road => 2

/-- All groups, in table order. -/
def Group.all : List Group := [.lift, .kerb, .road]

/-- The group of a shutter side. -/
def Side.group : Side → Group
  | .kerb => .kerb | .road => .road

/-- Table 0-3: the latch channel of a side. -/
def Side.latch : Side → Channel
  | .kerb => 10 | .road => 11

/-- Table 0-2: the shutter axis of a side. -/
def Side.axis : Side → Axis
  | .kerb => .sk | .road => .sr

/-- The shutter side of a group. -/
def Group.side? : Group → Option Side
  | .lift => none | .kerb => some .kerb | .road => some .road

/-- Table 0-2 order. -/
def Axis.idx : Axis → Fin 5
  | .lk => 0 | .lr => 1 | .tl => 2 | .sk => 3 | .sr => 4

/-- All axes, in table order. -/
def Axis.all : List Axis := [.lk, .lr, .tl, .sk, .sr]

/-- Table 0-1: the group of an axis. -/
def Axis.group : Axis → Group
  | .lk | .lr | .tl => .lift
  | .sk => .kerb
  | .sr => .road

/-- Table 0-1: the axes of a group. -/
def Group.axes : Group → List Axis
  | .lift => [.lk, .lr, .tl] | .kerb => [.sk] | .road => [.sr]

/-- Table 0-1: the channels of a group. -/
def Group.channels : Group → List Channel
  | .lift => [0, 1, 2, 3, 4, 5] | .kerb => [6, 7, 10] | .road => [8, 9, 11]

/-- Table 0-1: the group of a channel. -/
def channelGroup (c : Channel) : Group :=
  if c.val ≤ 5 then .lift else if c = 6 ∨ c = 7 ∨ c = 10 then .kerb else .road

/-- All channels, in channel order. -/
def allChannels : List Channel := [0, 1, 2, 3, 4, 5, 6, 7, 8, 9, 10, 11]

/-- Table 0-3: the pair of a proportional channel; a latch channel has none. -/
def channelPair (c : Channel) : Option PairNo :=
  if h : c.val < 10 then some ⟨c.val / 2, by omega⟩ else none

/-- Table 0-3: which member of its pair a channel is. -/
def channelMember (c : Channel) : Machine.Member := if c.val % 2 = 0 then .even else .odd

/-- The channel of a member of a pair. -/
def memberChannel (p : PairNo) : Machine.Member → Channel
  | .even => ⟨2 * p.val, by omega⟩
  | .odd => ⟨2 * p.val + 1, by omega⟩

/-- The other member of a pair. -/
def otherMember : Machine.Member → Machine.Member
  | .even => .odd | .odd => .even

/-- Table 0-4 order. -/
def LampPair.idx : LampPair → Fin 3
  | .rear => 0 | .side => 1 | .flag => 2

/-- All lamp pairs, in table order. -/
def LampPair.all : List LampPair := [.rear, .side, .flag]

/-- Table 0-4: the pair of a lamp. -/
def Lamp.pair : Lamp → LampPair
  | .a p => p | .b p => p

/-- RB-K 0 to PF-R 5 (R190). -/
def Lamp.idx : Lamp → Fin 6
  | .a .rear => 0 | .b .rear => 1 | .a .side => 2 | .b .side => 3 | .a .flag => 4 | .b .flag => 5

/-- All lamps, in the order of R160. -/
def Lamp.all : List Lamp := [.a .rear, .b .rear, .a .side, .b .side, .a .flag, .b .flag]

/-- R133: the place of a line among the sixteen. -/
def Line.idx : Line → Fin 16
  | .h i => ⟨i.val, by omega⟩
  | .g i => ⟨4 + i.val, by omega⟩
  | .latchSense .kerb => 12
  | .latchSense .road => 13
  | .psw => 14
  | .prs => 15

namespace Machine

/-- Table 5-1 order. -/
def Profile.idx : Profile → Fin 3
  | .lift => 0 | .tilt => 1 | .shutter => 2

/-! ### Tables, timers, numbers -/

/-- Every place of a table, changed alike. -/
def mapTable {α β : Type} {n : Nat} (f : α → β) (v : Vector α n) : Vector β n :=
  ⟨(v.toList.map f).toArray, by simp⟩

/-- One millisecond passes for a timer: a running one counts down to 0 and waits there for its expiry to be taken. -/
def Timer.tick (t : Timer) : Timer := t.map (· - 1)

/-- The time left on a timer as a status section reports it: 0 when stopped. -/
def Timer.left (t : Timer) : Nat := t.getD 0

/-- R3: the nearest value of a range. -/
def clampTo (lo hi x : Int) : Int := max lo (min hi x)

/-! ### Blocks -/

/-- The Axis Tracker of an axis. -/
def State.tracker (s : State) (a : Axis) : Tracker := s.trackers[a.idx]

/-- Changes one Axis Tracker. -/
def State.modTracker (s : State) (a : Axis) (f : Tracker → Tracker) : State :=
  { s with trackers := s.trackers.set a.idx (f (s.tracker a)) }

/-- The run of a group's phase. -/
def State.run? (s : State) (g : Group) : Option Run := s.runs[g.idx]

/-- Writes the run of a group's phase. -/
def State.setRun (s : State) (g : Group) (r : Option Run) : State := { s with runs := s.runs.set g.idx r }

/-- The control timers of a group. -/
def State.ctl (s : State) (g : Group) : GroupCtl := s.seq.ctl[g.idx]

/-- Changes the control timers of a group. -/
def State.modCtl (s : State) (g : Group) (f : GroupCtl → GroupCtl) : State :=
  { s with seq := { s.seq with ctl := s.seq.ctl.set g.idx (f (s.ctl g)) } }

/-- A channel machine. -/
def State.chan (s : State) (c : Channel) : Chan := s.drive.chans[c]

/-- Changes a channel machine. -/
def State.modChan (s : State) (c : Channel) (f : Chan → Chan) : State :=
  { s with drive := { s.drive with chans := s.drive.chans.set c (f (s.chan c)) } }

/-- A pair record. -/
def State.pair (s : State) (p : PairNo) : Pair := s.drive.pairs[p]

/-- Changes a pair record. -/
def State.modPair (s : State) (p : PairNo) (f : Pair → Pair) : State :=
  { s with drive := { s.drive with pairs := s.drive.pairs.set p (f (s.pair p)) } }

/-- Changes the proving record. -/
def State.modProve (s : State) (f : Prove → Prove) : State :=
  { s with drive := { s.drive with prove := f s.drive.prove } }

/-- A debounced line. -/
def State.line (s : State) (l : Line) : LineState := s.operator.lines[l.idx]

/-- Changes a debounced line. -/
def State.modLine (s : State) (l : Line) (f : LineState → LineState) : State :=
  { s with operator := { s.operator with lines := s.operator.lines.set l.idx (f (s.line l)) } }

/-- The debounced level of a line (R134). -/
def State.level (s : State) (l : Line) : Bool := (s.line l).level

/-- A two-hand machine. -/
def State.hand (s : State) (t : Fin 2) : TwoHand := s.operator.hands[t]

/-- Writes a two-hand machine. -/
def State.setHand (s : State) (t : Fin 2) (h : TwoHand) : State :=
  { s with operator := { s.operator with hands := s.operator.hands.set t h } }

/-- R139: the group is obstructed. -/
def State.isObstructed (s : State) (g : Group) : Bool := s.operator.obstructed[g.idx]

/-- The player of a lamp pair. -/
def State.player (s : State) (p : LampPair) : Player := s.beacon.players[p.idx]

/-- Writes the player of a lamp pair. -/
def State.setPlayer (s : State) (p : LampPair) (x : Player) : State :=
  { s with beacon := { s.beacon with players := s.beacon.players.set p.idx x } }

/-- The override of a lamp pair. -/
def State.override? (s : State) (p : LampPair) : Option Override := s.beacon.overrides[p.idx]

/-- Writes the override of a lamp pair. -/
def State.setOverride (s : State) (p : LampPair) (x : Option Override) : State :=
  { s with beacon := { s.beacon with overrides := s.beacon.overrides.set p.idx x } }

/-- One lamp line's health and cut. -/
def State.lamp (s : State) (l : Lamp) : LampState := s.beacon.lamps[l.idx]

/-- Writes one lamp line's health and cut. -/
def State.setLamp (s : State) (l : Lamp) (x : LampState) : State :=
  { s with beacon := { s.beacon with lamps := s.beacon.lamps.set l.idx x } }

/-- The discrete latch of a pair's lamp B. -/
def State.latch (s : State) (p : LampPair) : Bool := s.beacon.latches[p.idx]

/-- Writes the discrete latch of a pair's lamp B. -/
def State.setLatch (s : State) (p : LampPair) (x : Bool) : State :=
  { s with beacon := { s.beacon with latches := s.beacon.latches.set p.idx x } }

/-! ### Fitment places read by the blocks -/

/-- The AXIS record of an axis. -/
def State.axisRec? (s : State) (a : Axis) : Option AxisRec := s.fitment.axes[a.idx]

/-- The CHANNEL record of a channel. -/
def State.chanRec? (s : State) (c : Channel) : Option ChannelRec := s.fitment.channels[c]

/-- A PROFILE record. -/
def State.profile? (s : State) (p : Profile) : Option ProfileRec := s.fitment.profiles[p.idx]

/-- R11, R109: the group is fitted in the EQUIPMENT record. -/
def State.fitted (s : State) (g : Group) : Bool :=
  match s.fitment.equipment, g with
  | none, _ => false
  | some e, .lift => e.lift
  | some e, .kerb => e.kerb
  | some e, .road => e.road

/-- R75, R133: the debounce time in force. -/
def State.debounceTime (s : State) : Nat := (s.fitment.timing.map (·.debounce)).getD Config.defaultDebounce

/-- R137: the two-hand window in force. -/
def State.twoHandTime (s : State) : Nat := (s.fitment.timing.map (·.twoHand)).getD Config.defaultTwoHand

/-- R140: the release time in force. -/
def State.releaseTime (s : State) : Nat := (s.fitment.timing.map (·.release)).getD Config.defaultRelease

/-- A field of the TIMING record that is read in a locked fitment alone, where the record is present (R175). -/
def State.timing (s : State) (f : TimingRec → Nat) : Nat := (s.fitment.timing.map f).getD 0

/-- A field of a PROFILE record, read in a locked fitment alone, where the record is present (R88). -/
def State.profileField (s : State) (p : Profile) (f : ProfileRec → Nat) : Nat := ((s.profile? p).map f).getD 0

/-- A field of the FLOW record, read in a locked fitment alone, where the record is present (R175). -/
def State.flowField (s : State) (f : FlowRec → Nat) : Nat := (s.fitment.flow.map f).getD 0

/-- An axis's home value; 0 while its record is absent. -/
def State.home (s : State) (a : Axis) : Int := ((s.axisRec? a).map (·.home)).getD 0

/-- An axis's soft limits as lower and upper. -/
def State.softLimits (s : State) (a : Axis) : Int × Int :=
  ((s.axisRec? a).map fun r => (r.softLower, r.softUpper)).getD (0, 0)

/-- R3: the tighter of the LK and LR limits. -/
def State.liftLimits (s : State) : Int × Int :=
  (max (s.softLimits .lk).1 (s.softLimits .lr).1, min (s.softLimits .lk).2 (s.softLimits .lr).2)

/-! ### Orders -/

/-- Outside QUEUED and ENDED. -/
def OrderState.isActive : OrderState → Bool
  | .queued | .ended => false
  | .blocked | .holdWait | .claiming | .moving | .stopping | .paused | .settling => true

/-- The record that carries a number (R6: at most one does). -/
def State.order? (s : State) (n : Nat) : Option Order := s.seq.orders.find? (·.number == n)

/-- The order a group's active pointer names: the one outside QUEUED and ENDED. -/
def State.active? (s : State) (g : Group) : Option Order :=
  s.seq.orders.find? fun o => decide (o.group = g) && o.state.isActive

/-- R5: the oldest QUEUED record of a group. -/
def State.oldestQueued? (s : State) (g : Group) : Option Order :=
  s.seq.orders.find? fun o => decide (o.group = g) && decide (o.state = .queued)

/-- R5: a group is idle when it has no active order and no QUEUED record. -/
def State.groupIdle (s : State) (g : Group) : Bool := (s.active? g).isNone && (s.oldestQueued? g).isNone

/-- Changes the record that carries a number. -/
def State.modOrder (s : State) (n : Nat) (f : Order → Order) : State :=
  { s with seq := { s.seq with orders := s.seq.orders.map fun o => if o.number = n then f o else o } }

/-- The phase at an order's phase index. -/
def Order.phase? (o : Order) : Option Phase := o.phases[o.index]?

/-- The movement class of an order's current phase. -/
def Order.cls? (o : Order) : Option MoveClass := o.phase?.bind (·.cls)

/-- A PUMPED_MOVE or GRAVITY_MOVE phase. -/
def Phase.isMovement (p : Phase) : Bool :=
  match p.kind with
  | .pumped | .gravity => true
  | .pulse | .check => false

/-- The order's current phase is a movement phase. -/
def Order.inMovement (o : Order) : Bool := (o.phase?.map (·.isMovement)).getD false

/-- The order's current phase is of the kind given. -/
def Order.phaseIs (o : Order) (k : PhaseKind) : Bool := (o.phase?.map fun p => decide (p.kind = k)).getD false

/-- R27: the profile whose settle time ends a stop of the order's current phase. -/
def Order.settleProfile (o : Order) : Profile :=
  match o.cls? with
  | some .liftUp | some .liftDown => .lift
  | some .tiltOut | some .tiltIn => .tilt
  | some .kerbOpen | some .kerbClose | some .roadOpen | some .roadClose | none => .shutter

/-! ### Movement classes (Tables 2-2 and 5-2) -/

/-- The order in which the classes are listed in Table 2-3. -/
def MoveClass.all : List MoveClass :=
  [.liftUp, .liftDown, .tiltOut, .tiltIn, .kerbOpen, .kerbClose, .roadOpen, .roadClose]

/-- Table 5-2: the profile of a movement phase. -/
def MoveClass.profile : MoveClass → Profile
  | .liftUp | .liftDown => .lift
  | .tiltOut | .tiltIn => .tilt
  | .kerbOpen | .kerbClose | .roadOpen | .roadClose => .shutter

/-- Table 5-2: an increasing phase moves away from the home end. -/
def MoveClass.increasing : MoveClass → Bool
  | .liftUp | .tiltOut | .kerbOpen | .roadOpen => true
  | .liftDown | .tiltIn | .kerbClose | .roadClose => false

/-- Table 5-2: the driven channels of a movement phase. -/
def MoveClass.driven : MoveClass → List Channel
  | .liftUp => [0, 2] | .liftDown => [1, 3] | .tiltOut => [4] | .tiltIn => [5]
  | .kerbOpen => [6] | .kerbClose => [7] | .roadOpen => [8] | .roadClose => [9]

/-- Table 5-2: the supervised axes of a movement phase. -/
def MoveClass.axes : MoveClass → List Axis
  | .liftUp | .liftDown => [.lk, .lr]
  | .tiltOut | .tiltIn => [.tl]
  | .kerbOpen | .kerbClose => [.sk]
  | .roadOpen | .roadClose => [.sr]

/-- R125: the channels that an order's current phase drives: those of Table 5-2 for a movement phase, the latch channel of
its side for a PULSE phase. -/
def Order.drives (o : Order) : List Channel :=
  match o.phase? with
  | none => []
  | some p =>
    match p.kind with
    | .pumped | .gravity => (p.cls.map (·.driven)).getD []
    | .pulse => (o.group.side?.map fun d => [d.latch]).getD []
    | .check => []

/-! ### Reference positions (R93) -/

/-- R93: the floor mean of the two lift cylinders. -/
def State.liftMean (s : State) : Int := ((s.tracker .lk).pos + (s.tracker .lr).pos) / 2

/-- R93, Table 5-2: the reference position of a movement class; that of a lift phase is the mean. -/
def State.reference (s : State) (c : MoveClass) : Int :=
  match c with
  | .liftUp | .liftDown => s.liftMean
  | .tiltOut | .tiltIn => (s.tracker .tl).pos
  | .kerbOpen | .kerbClose => (s.tracker .sk).pos
  | .roadOpen | .roadClose => (s.tracker .sr).pos

/-- R100: the skew e, LK position less LR position. -/
def State.skew (s : State) : Int := (s.tracker .lk).pos - (s.tracker .lr).pos

/-! ### Link flags (R188) -/

/-- R188: makes the STOP notice pending. -/
def State.noticeStop (s : State) : State := { s with link := { s.link with pendStop := true } }

/-- R188: makes the FAULT notice pending. -/
def State.noticeFault (s : State) : State := { s with link := { s.link with pendFault := true } }

/-- R188: makes the ORDER notice pending. -/
def State.noticeOrder (s : State) : State := { s with link := { s.link with pendOrder := true } }

end Machine

end Sys2Proof
end

