-- ==== Sys2Proof/Machine/Flags.lean ====
section
/-! DEFINITION. The Fault Table and its inhibit flags (Chapter 9): the catalogue, raising, latching and removing entries,
the full table, and the flags recomputed from the entries. What a changed flag does to orders, claims and beacons is in
Machine/Sequencer.lean (reportFlags). -/

namespace Sys2Proof.Machine

/-! ### The catalogue (Table 9-2) -/

/-- Table 9-2: the class of a code is STOP. -/
def FaultCode.isStop : FaultCode → Bool
  | .coilOpen | .coilShort | .pumpNoStart | .pumpLost | .pumpStuck | .skew | .referenceMismatch | .latchFault | .estop => true
  | .pressureRelief | .skewWarn | .stall | .drift | .statusStale | .lampOpen | .lampShort | .provingFailed => false

/-- The inhibit that names a group. -/
def Inhibits.ofGroup : Group → Inhibits
  | .lift => ⟨true, false, false, false⟩
  | .kerb => ⟨false, true, false, false⟩
  | .road => ⟨false, false, true, false⟩

/-- The inhibit PUMPED. -/
def Inhibits.onlyPumped : Inhibits := ⟨false, false, false, true⟩

/-- Every name of either. -/
def Inhibits.union (a b : Inhibits) : Inhibits :=
  ⟨a.lift || b.lift, a.kerb || b.kerb, a.road || b.road, a.pumped || b.pumped⟩

/-- R151: any flag is set. -/
def Inhibits.any (a : Inhibits) : Bool := a.lift || a.kerb || a.road || a.pumped

/-- The flag of a group. -/
def Inhibits.group (a : Inhibits) : Group → Bool
  | .lift => a.lift | .kerb => a.kerb | .road => a.road

/-- R170: the group in which a subject lies; none for no subject and for lamps. -/
def Subject.group? : Subject → Option Group
  | .none => Option.none
  | .axis a => some a.group
  | .channel c => some (channelGroup c)
  | .group g => some g
  | .lamp _ => Option.none

/-- Table 9-2: the inhibit that a code with its subject sets. -/
def inhibitOf (code : FaultCode) (subject : Subject) : Inhibits :=
  match code with
  | .coilOpen | .coilShort | .skew | .referenceMismatch | .latchFault =>
    (subject.group?.map Inhibits.ofGroup).getD Inhibits.none
  | .pumpNoStart | .pumpLost | .pumpStuck => Inhibits.onlyPumped
  | .pressureRelief | .skewWarn | .stall | .drift | .statusStale | .lampOpen | .lampShort | .provingFailed | .estop =>
    Inhibits.none

/-- R165: what one entry contributes to the flags: a STOP entry its inhibit, in either state. -/
def Entry.inhibit (e : Entry) : Inhibits := if e.code.isStop then inhibitOf e.code e.subject else Inhibits.none

/-- R165: the flags that a list of entries and the overflow inhibits give. -/
def flagsOf (entries : List Entry) (overflow : Inhibits) : Inhibits :=
  entries.foldl (fun acc e => acc.union e.inhibit) overflow

/-- R12, Table 9-2: an entry that sets a group's inhibit admits an order kind: SKEW and a mismatch of LK or LR admit HOME,
LATCH_FAULT admits CLOSE of its own group. -/
def Entry.admits (e : Entry) (k : OrderKind) : Bool :=
  match e.code, e.subject, k with
  | .skew, _, .home => true
  | .referenceMismatch, .axis .lk, .home => true
  | .referenceMismatch, .axis .lr, .home => true
  | .latchFault, _, .closeShutter => true
  | _, _, _ => false

/-- R12, R165: the kind is a recovery kind for the group now: every entry that sets the group's flag admits it, and the
group's name is not among the overflow inhibits. -/
def FaultTable.admits (t : FaultTable) (g : Group) (k : OrderKind) : Bool :=
  !(t.overflowInhibits.group g) && t.entries.all fun e => !(e.inhibit.group g) || e.admits k

/-! ### Entries -/

/-- The entry has this code and this subject. -/
def Entry.is (e : Entry) (code : FaultCode) (subject : Subject) : Bool :=
  decide (e.code = code) && decide (e.subject = subject)

/-- R162: a recurrence of a LATCHED entry; an ACTIVE entry is unchanged. -/
def Entry.recur (now : U32) (e : Entry) : Entry :=
  if e.active then e else { e with active := true, count := min 255 (e.count + 1), lastSeen := now }

/-- R162: a new entry. -/
def Entry.fresh (code : FaultCode) (subject : Subject) (now : U32) : Entry :=
  { code := code, subject := subject, active := true, firstSeen := now, lastSeen := now, count := 1 }

/-- Recomputes the flags (R165). -/
def FaultTable.recompute (t : FaultTable) : FaultTable :=
  { t with flags := flagsOf t.entries t.overflowInhibits }

/-- R164: the place of the entry that a full table gives up: the oldest LATCHED WARN, else the oldest LATCHED STOP. -/
def victim? (entries : List Entry) : Option Nat :=
  (entries.findIdx? fun e => !e.active && !e.code.isStop).orElse fun _ => entries.findIdx? fun e => !e.active && e.code.isStop

/-- R162, R164: a raise. -/
def FaultTable.raise (t : FaultTable) (code : FaultCode) (subject : Subject) (now : U32) : FaultTable :=
  if t.entries.any (·.is code subject) then
    { t with entries := t.entries.map fun e => if e.is code subject then e.recur now else e }
  else if t.entries.length < Config.maxFaults then
    FaultTable.recompute { t with entries := t.entries ++ [Entry.fresh code subject now] }
  else
    match victim? t.entries with
    | some i => FaultTable.recompute { t with entries := t.entries.eraseIdx i ++ [Entry.fresh code subject now] }
    | none =>
      FaultTable.recompute
        { t with overflow := true, overflowInhibits := t.overflowInhibits.union (inhibitOf code subject) }

/-- R163: the end of a condition. -/
def FaultTable.latch (t : FaultTable) (code : FaultCode) (subject : Subject) : FaultTable :=
  { t with entries := t.entries.map fun e => if e.is code subject then { e with active := false } else e }

/-- Removes the entries that p picks, and recomputes the flags (R167). -/
def FaultTable.remove (t : FaultTable) (p : Entry → Bool) : FaultTable :=
  FaultTable.recompute { t with entries := t.entries.filter fun e => !p e }

/-- R171: the number of ACTIVE entries. -/
def FaultTable.activeCount (t : FaultTable) : Nat := (t.entries.filter (·.active)).length

/-- R171: the number of LATCHED entries. -/
def FaultTable.latchedCount (t : FaultTable) : Nat := (t.entries.filter fun e => !e.active).length

/-- R166: what a FAULT notice is about: which entries there are and in which state, the overflow flag and the flags. -/
def FaultTable.view (t : FaultTable) : List (FaultCode × Subject × Bool) × Bool × Inhibits :=
  (t.entries.map fun e => (e.code, e.subject, e.active), t.overflow, t.flags)

/-! ### On the state -/

/-- R162, R164: a raise would create an entry: none exists, and the list has room or an entry to give up. -/
def FaultTable.enters (t : FaultTable) (code : FaultCode) (subject : Subject) : Bool :=
  !t.entries.any (·.is code subject) &&
    (decide (t.entries.length < Config.maxFaults) || (victim? t.entries).isSome)

/-- A raise at the present time. The FAULT notice becomes pending when it creates an entry (R166); changes of state, of the
overflow flag and of the inhibit flags are judged at the end of the event (faultNotice). -/
def raise (code : FaultCode) (subject : Subject) (s : State) : State :=
  let t := s.faults.raise code subject s.supply.time
  let s' := { s with faults := t }
  if s.faults.enters code subject then s'.noticeFault else s'

/-- R163: the end of a condition. -/
def latch (code : FaultCode) (subject : Subject) (s : State) : State :=
  { s with faults := s.faults.latch code subject }

/-- R163: a condition that lasts no longer than the event that finds it: made ACTIVE and LATCHED in one event. -/
def raiseOnce (code : FaultCode) (subject : Subject) (s : State) : State := latch code subject (raise code subject s)

/-- R166, R167: removes the entries that p picks. -/
def removeFaults (p : Entry → Bool) (s : State) : State :=
  let s' := { s with faults := s.faults.remove p }
  if s.faults.entries.any p then s'.noticeFault else s'

/-- R166: at the end of an event, the FAULT notice is pending if the event left the entries, their states, the overflow flag
or a flag other than it found them. -/
def faultNotice (before after : State) : State :=
  if after.faults.view = before.faults.view then after else after.noticeFault

end Sys2Proof.Machine
end

