-- ==== Sys2Proof/Machine/Drive.lean ====
section
/-! DEFINITION. The Drive Unit's operations (Chapter 6): the valve map, the channel machine, coupled pairs and their dead-time,
release, latch pulses, and the course of a proving test. -/

namespace Sys2Proof.Machine

/-! ### Valve map (Section 6.2) -/

/-- R110: the opening that a demand of f permille gives. -/
def opening (r : ChannelRec) (f : Nat) : Nat := if f = 0 then 0 else r.lo + (f * (r.hi - r.lo) + 500) / 1000

/-- R111: the on time, in µs, of a period with opening o. -/
def onTime (r : ChannelRec) (o : Nat) : Nat := (o * r.period + 500) / 1000

/-- R111 for a channel: 0 while its record is absent, when nothing drives it (R109). -/
def State.onTimeOf (s : State) (c : Channel) (o : Nat) : Nat := ((s.chanRec? c).map fun r => onTime r o).getD 0

/-! ### Pairs (Section 6.4) -/

/-- R115: starts a pair's dead-time timer from its full time, with the resumable member given. The time is that of the even
member's CHANNEL record; where that record is absent it is a free value (assumption 3). -/
def startDead (p : PairNo) (m : Option Member) (s : State) : State :=
  match s.chanRec? (memberChannel p .even) with
  | some r => s.modPair p fun x => { x with dead := some r.dead, resumable := m }
  | none =>
    { s.modPair p fun x => { x with dead := some (Config.absentDeadTime s.free).val, resumable := m } with
      free := s.free + 1 }

/-- R112, R117: clears the pair's waiting command when it belongs to this member. -/
def clearWaiting (p : PairNo) (m : Member) (s : State) : State :=
  s.modPair p fun x => if x.waiting.map (·.1) = some m then { x with waiting := none } else x

/-- R115: holds a nonzero command as the pair's waiting command, replacing any it held. -/
def holdCommand (p : PairNo) (m : Member) (o : Nat) (s : State) : State :=
  s.modPair p fun x => { x with waiting := some (m, o) }

/-- R112: the opening takes effect, the channel is RUNNING and its first period starts. -/
def startChannel (c : Channel) (o : Nat) (s : State) : State :=
  s.modChan c fun x => { x with state := .running, opening := o, onTime := s.onTimeOf c o, buffer := none }

/-- R112, R115: a nonzero command to an IDLE member m of pair p. One that the resumable member takes at once discards a
waiting command of that member (assumption 41). -/
def commandIdle (p : PairNo) (m : Member) (o : Nat) (s : State) : State :=
  let c := memberChannel p m
  let x := s.pair p
  if (s.chan (memberChannel p (otherMember m))).state ≠ .idle then holdCommand p m o s
  else if x.dead.isSome then
    if x.resumable = some m ∧ x.waiting.map (·.1) ≠ some (otherMember m) then
      startChannel c o (s.modPair p fun _ => Pair.reset)
    else holdCommand p m o s
  else startChannel c o (clearWaiting p m s)

/-- R112 to R115: a command of opening o to member m of pair p. -/
def command (p : PairNo) (m : Member) (o : Nat) (s : State) : State :=
  let c := memberChannel p m
  match (s.chan c).state with
  | .idle => if o = 0 then clearWaiting p m s else commandIdle p m o s
  | .running =>
    if o = 0 then s.modChan c fun x => { x with state := .ending, buffer := some 0 }
    else clearWaiting p (otherMember m) (s.modChan c fun x => { x with buffer := some o })
  | .ending =>
    if o = 0 then s
    else clearWaiting p (otherMember m) (s.modChan c fun x => { x with state := .running, buffer := some o })

/-- R119, R132: the Drive Unit takes commands and pulse requests: the stop machine is CLEAR and the part is in RUN. -/
def State.driveTakes (s : State) : Bool := decide (s.operator.estop = .clear) && decide (s.supply.mode = .run)

/-- R110: takes a demand command for a channel; discarded while the Drive Unit takes none (R119). -/
def demandCommand (c : Channel) (f : Nat) (s : State) : State :=
  match s.driveTakes, s.chanRec? c, channelPair c with
  | true, some r, some p => command p (channelMember c) (opening r f) s
  | _, _, _ => s

/-! ### Ends of a channel's drive -/

/-- R114: the normal end of a proportional channel: IDLE, its pair's timer started, this member resumable. -/
def normalEnd (c : Channel) (s : State) : State :=
  let s := latch .coilOpen (.channel c) (s.modChan c fun _ => Chan.reset)
  match channelPair c with
  | some p => startDead p (some (channelMember c)) s
  | none => s

/-- R117: a release of a channel. -/
def release (c : Channel) (s : State) : State :=
  let s := latch .coilOpen (.channel c) (s.modChan c fun _ => Chan.reset)
  match channelPair c with
  | some p => startDead p none (clearWaiting p (channelMember c) s)
  | none => s

/-- Releases of several channels. -/
def releaseAll (cs : List Channel) (s : State) : State := cs.foldl (fun s c => release c s) s

/-- R113, R114: a period boundary of a proportional channel. -/
def boundary (c : Channel) (s : State) : State :=
  let x := s.chan c
  match x.state with
  | .idle => s
  | .running =>
    let o := x.buffer.getD x.opening
    s.modChan c fun x => { x with opening := o, onTime := s.onTimeOf c o, buffer := none }
  | .ending => normalEnd c s

/-- R116: the expiry of a pair's dead-time timer; nothing when the timer is stopped. -/
def deadExpiry (p : PairNo) (s : State) : State :=
  if (s.pair p).dead.isNone then s
  else
    let s := s.modPair p fun x => { x with dead := none, resumable := none }
    match (s.pair p).waiting with
    | none => s
    | some (m, o) =>
      if (s.chan (memberChannel p m)).state = .idle ∧ (s.chan (memberChannel p (otherMember m))).state = .idle then
        startChannel (memberChannel p m) o (s.modPair p fun x => { x with waiting := none })
      else s

/-! ### Latch pulses (Section 6.6) -/

/-- R120: a pulse request of an order for a side's latch channel; discarded while the Drive Unit takes none (R119). -/
def pulseRequest (d : Side) (order : Nat) (s : State) : State :=
  if s.driveTakes ∧ (s.chan d.latch).state = .idle then
    s.modChan d.latch fun x =>
      { x with state := .running, opening := Config.full, requester := some order,
               pulse := some (((s.chanRec? d.latch).map (·.width)).getD 0) }
  else s

/-! ### Proving test (Section 6.8) -/

/-- R127: the next fitted channel to visit, from channel number n on. -/
def State.nextVisit (s : State) (n : Nat) : Option Channel :=
  allChannels.find? fun c => decide (n ≤ c.val) && s.fitted (channelGroup c)

/-- R128, R129: the channels found OPEN or SHORT. -/
def Prove.found (x : Prove) : Nat :=
  (x.results.toList.filter fun r => decide (r = .open_) || decide (r = .short)).length

/-- R129: a running test is ABANDONED. -/
def abandonProve (s : State) : State :=
  if s.drive.prove.overall = .running then
    s.modProve fun x =>
      { x with overall := .abandoned, endedAt := some s.supply.time, failures := x.found, driving := none, drive := none,
               gap := none }
  else s

/-- A proving test is running. -/
def State.proving (s : State) : Bool := decide (s.drive.prove.overall = .running)

/-! ### Outputs -/

/-- The output of a channel is on at some moment of its present period, pulse or proving drive. A latch channel is on for
the whole of its pulse (R120); a proportional channel that is not IDLE is on for the on time of its period, which may be 0
(R111). -/
def State.outputOn (s : State) (c : Channel) : Bool :=
  decide (s.drive.prove.driving = some c) ||
    (decide ((s.chan c).state ≠ .idle) && (decide (10 ≤ c.val) || decide (0 < (s.chan c).onTime)))

end Sys2Proof.Machine
end

