-- ==== Sys2Proof/Machine/Flow.lean ====
section
/-! DEFINITION. The Flow Arbiter's operations (Chapter 3): the capacity in force, granting, withdrawal and the pump machine. What a
ready claim does to its order is in Machine/Sequencer.lean. -/

namespace Sys2Proof.Machine

/-- Changes the Flow Arbiter. -/
def State.modFlow (s : State) (f : Flow → Flow) : State := { s with flow := f s.flow }

/-- R56: the granted total T. -/
def grantedTotal (granted : List Claim) : Nat := (granted.map fun c => c.amount.getD 0).sum

/-- R56: what the head claim of demand d is granted, as amount and share, with capacity k and granted total t. -/
def grantOf (k t d : Nat) : Option (Nat × Nat) :=
  if d + t ≤ k then some (d, Config.full)
  else if k < d ∧ t = 0 then some (k, k * 1000 / d)
  else none

/-- R56: granting at the head of the waiting list: the granted set, the waiting list and the claims newly granted. -/
def grantFrom (k : Nat) (granted : List Claim) : List Claim → List Claim × List Claim × List Claim
  | [] => (granted, [], [])
  | c :: rest =>
    match grantOf k (grantedTotal granted) c.demand with
    | none => (granted, c :: rest, [])
    | some (g, sh) =>
      let c' := { c with amount := some g, share := some sh }
      let r := grantFrom k (granted ++ [c']) rest
      (r.1, r.2.1, c' :: r.2.2)

/-- The order and share of each claim. -/
def claimShares (cs : List Claim) : List (Nat × Nat) := cs.map fun c => (c.order, c.share.getD 0)

/-- R58, R60, R64: what a grant does to the pump: OFF starts it, RUN_ON returns to RUNNING; while it runs, claims granted
are ready. -/
def Flow.afterGrant (startTime : Nat) (fl : Flow) : Flow :=
  match fl.pump with
  | .off => { fl with pump := .starting, start := some startTime, stuck := none }
  | .starting => fl
  | .running => { fl with granted := fl.granted.map fun c => { c with ready := true } }
  | .runOn => { fl with pump := .running, runOn := none, granted := fl.granted.map fun c => { c with ready := true } }

/-- R56: granting is tried; answers also the orders whose claims became ready, with their shares. -/
def tryGrant (s : State) : State × List (Nat × Nat) :=
  if s.faults.flags.pumped then (s, [])
  else
    let r := grantFrom s.flow.capacity s.flow.granted s.flow.waiting
    let fl := { s.flow with granted := r.1, waiting := r.2.1 }
    if r.2.2.isEmpty then ({ s with flow := fl }, [])
    else
      let fl' := fl.afterGrant (s.flowField (·.start))
      ({ s with flow := fl' }, if fl'.pump = .running then claimShares r.2.2 else [])

/-- R65: the pump goes OFF: its timers stop, and the stuck timer starts when PRS is active. -/
def pumpOff (s : State) : State :=
  if s.flow.pump = .off then s
  else s.modFlow fun fl =>
    { fl with pump := .off, start := none, runOn := none, stuck := if s.level .prs then some Config.stuckTime else none }

/-- R61, R64: the pump goes to RUN_ON, or straight OFF with a run-on of 0. -/
def enterRunOn (s : State) : State :=
  let t := s.flowField (·.runOn)
  if t = 0 then pumpOff s else s.modFlow fun fl => { fl with pump := .runOn, start := none, runOn := some t }

/-- The claim of this order stands in a list. -/
def claimed (n : Nat) (cs : List Claim) : Bool := cs.any fun c => c.order == n

/-- R59: removes the claim of an order; nothing when it has none. Answers also the orders made ready. -/
def withdrawClaim (n : Nat) (s : State) : State × List (Nat × Nat) :=
  if claimed n s.flow.waiting || claimed n s.flow.granted then
    let r := tryGrant (s.modFlow fun fl =>
      { fl with waiting := fl.waiting.filter (·.order != n), granted := fl.granted.filter (·.order != n) })
    if claimed n s.flow.granted && r.1.flow.granted.isEmpty && decide (r.1.flow.pump = .running) then
      (enterRunOn r.1, r.2)
    else r
  else (s, [])

/-- R55: the demand of a pumped phase's class. -/
def State.claimDemand (s : State) (c : MoveClass) : Nat :=
  match c with
  | .liftUp | .liftDown => s.flowField (·.liftUp)
  | .tiltOut | .tiltIn => s.flowField (·.tilt)
  | .kerbOpen | .kerbClose | .roadOpen | .roadClose => s.flowField (·.shutterUp)

/-- R55: lodges a claim at the tail of the waiting list; not entered while the stop machine is not CLEAR. -/
def enterClaim (g : Group) (n : Nat) (c : MoveClass) (s : State) : State :=
  if s.operator.estop = .clear then
    s.modFlow fun fl =>
      { fl with waiting := fl.waiting ++
          [{ group := g, order := n, demand := s.claimDemand c, amount := none, share := none, ready := false }] }
  else s

/-- R54: the capacity in force and whether it is C_cold. -/
def State.capacityNow (s : State) : Nat × Bool :=
  if s.fitment.locked then
    match s.fitment.flow with
    | none => (0, false)
    | some r => if s.vehicle.fresh ∧ r.threshold ≤ s.vehicle.oil then (r.capacity, false) else (r.cold, true)
  else (0, false)

/-- R54: recomputes the capacity in force. -/
def recomputeCapacity (s : State) : State :=
  s.modFlow fun fl => { fl with capacity := s.capacityNow.1, cold := s.capacityNow.2 }

/-- R67, R68: the waiting list and the granted set are emptied and the pump goes OFF. -/
def emptyFlow (s : State) : State := pumpOff (s.modFlow fun fl => { fl with waiting := [], granted := [] })

end Sys2Proof.Machine
end

