-- ==== Sys2Proof/Machine/Interlock.lean ====
section
/-! DEFINITION. The Interlock Evaluator's question (Chapter 2): the value of a term, whether an entry holds, and the first entry that
fails for a movement class. -/

namespace Sys2Proof.Machine

/-- R47: both lamps of a MIRROR or ALTERNATE pair count, lamp A alone on a SINGLE pair. -/
def State.pairMode (s : State) (p : LampPair) : PairMode := (s.fitment.lamps.map fun r => r.modes[p.idx]).getD .mirror

/-- R47: LAMPS_HEALTHY of a pair. -/
def State.lampsHealthy (s : State) (p : LampPair) : Bool :=
  decide ((s.lamp (.a p)).health = .healthy) &&
    (decide (s.pairMode p = .single) || decide ((s.lamp (.b p)).health = .healthy))

/-- R47: no order of the group, other than the one being evaluated, is outside QUEUED and ENDED. -/
def State.idleBut (s : State) (g : Group) (self : Nat) : Bool :=
  s.seq.orders.all fun o => !(decide (o.group = g) && o.state.isActive && o.number != self)

/-- Table 2-5: the plain form of a term; none stands for UNDETERMINED. A term whose item does not suit its kind, which
FIT_LOCK does not pass (Table 10-5), has nothing to read and is UNDETERMINED. -/
def State.plainTerm (s : State) (self : Nat) (t : Term) : Option Bool :=
  let v := s.vehicle
  match t.kind, t.item with
  | .brakeApplied, _ =>
    if v.fresh then
      match v.brake with
      | .applied => some true
      | .released => some false
      | .unknown => none
    else none
  | .speedZero, _ => if v.fresh then some (decide (v.speed = 0)) else none
  | .statusFresh, _ => some v.fresh
  | .night, _ => some v.night
  | .rollWithin, _ => if v.fresh then some (decide (|v.roll| ≤ t.value)) else none
  | .pitchWithin, _ => if v.fresh then some (decide (|v.pitch| ≤ t.value)) else none
  | .axisIn, .axis a =>
    if (s.tracker a).referenced then
      some (decide (t.value ≤ (s.tracker a).pos) && decide ((s.tracker a).pos ≤ t.upper))
    else none
  | .axisReferenced, .axis a => some (s.tracker a).referenced
  | .groupIdle, .group g => some (s.idleBut g self)
  | .input, .input i => some (s.level (.g i))
  | .lampsHealthy, .pair p => some (s.lampsHealthy p)
  | .proven, _ => some (decide (s.drive.prove.overall = .passed))
  | .axisIn, _ | .axisReferenced, _ | .groupIdle, _ | .input, _ | .lampsHealthy, _ => none

/-- R45: a term counts as true; UNDETERMINED counts as false in both forms. -/
def State.termHolds (s : State) (self : Nat) (t : Term) : Bool :=
  match s.plainTerm self t with
  | none => false
  | some b => b != t.negated

/-- R45: an entry holds when every one of its terms counts as true. -/
def State.entryHolds (s : State) (self : Nat) (e : InterlockRec) : Bool := e.terms.all (s.termHolds self)

/-- R49: an entry governs a class when its subject is that class or ANY. -/
def InterlockRec.governs (e : InterlockRec) (c : MoveClass) : Bool := (e.subject.map fun x => decide (x = c)).getD true

/-- R49: the number of the first entry, in ascending entry number, that governs the class and fails; none when the class may
proceed. self is the order being evaluated. -/
def State.firstFailing (s : State) (self : Nat) (c : MoveClass) : Option Nat :=
  (s.fitment.interlocks.toList.findIdx? fun p =>
    match p with
    | none => false
    | some e => e.governs c && !s.entryHolds self e).map (· + 1)

/-- The loss action of an entry by its number (R52); STOP_WAIT for a blank place, which answers no question. -/
def State.lossAction (s : State) (n : Nat) : LossAction :=
  match (s.fitment.interlocks.toList[n - 1]?).join with
  | some e => e.loss
  | none => .stopWait

/-- R49, R50: the question for an order's present phase; a phase with no class is not gated (R43). -/
def State.askInterlock (s : State) (o : Order) : Option Nat :=
  match o.cls? with
  | none => none
  | some c => s.firstFailing o.number c

end Sys2Proof.Machine
end

