-- ==== Sys2Proof/Machine/Beacon.lean ====
section
/-! DEFINITION. The Beacon Engine's operations (Chapter 8): deriving a pair's selection, starting it, the scene conditions, and the
levels of the lamp lines. -/

namespace Sys2Proof.Machine

/-! ### Selection (Section 8.4) -/

/-- R150: scene n's entry (1 to 8), that of a blank scene where none has been written. -/
def State.sceneEntry (s : State) (n : Nat) : SceneRec := ((s.fitment.scenes.toList[n - 1]?).join).getD SceneRec.blank

/-- Scene n's priority and its claim on a pair, if it claims the pair. -/
def State.sceneClaim? (s : State) (n : Nat) (p : LampPair) : Option (Nat × SceneClaim) :=
  let r := s.sceneEntry n
  if r.claims[p.idx].claim then some (r.priority, r.claims[p.idx]) else none

/-- R151: scene n's condition as held. -/
def State.sceneActive (s : State) (n : Nat) : Bool := (s.beacon.active.toList[n - 1]?).getD false

/-- R152: the active scenes that claim the pair, in scene order, each with its priority. -/
def State.claimants (s : State) (p : LampPair) : List (Nat × Selection) :=
  [1, 2, 3, 4, 5, 6, 7, 8].filterMap fun n =>
    if s.sceneActive n then
      (s.sceneClaim? n p).map fun x => (x.1, { pattern := x.2.pattern, invert := x.2.invert, source := .scene n })
    else none

/-- R152: of claimants in scene order, the one of highest priority, the earlier of equals. -/
def bestClaim : List (Nat × Selection) → Option (Nat × Selection)
  | [] => none
  | x :: rest =>
    match bestClaim rest with
    | none => some x
    | some y => if x.1 < y.1 then some y else some x

/-- R152: the selection that the conditions, the override and the scene entries give a pair. -/
def State.derived (s : State) (p : LampPair) : Selection :=
  match s.sceneActive 8, s.sceneClaim? 8 p with
  | true, some x => { pattern := x.2.pattern, invert := x.2.invert, source := .scene 8 }
  | _, _ =>
    match s.override? p with
    | some v => { pattern := v.pattern, invert := v.invert, source := .override }
    | none =>
      match bestClaim (s.claimants p) with
      | some x => x.2
      | none => { pattern := 0, invert := false, source := .none }

/-- R145: the staged copy of a pattern by its number; none for 0 and for a blank pattern. -/
def State.pattern? (s : State) (n : Nat) : Option PatternRec :=
  if n = 0 then none else (s.fitment.patterns.toList[n - 1]?).join

/-- The duration in ms of step i of a list of steps. -/
def stepTime (steps : List PatStep) (i : Nat) : Nat := ((steps[i]?).map fun x => 10 * x.dur).getD 0

/-- R146: the player that has just started a selection. -/
def State.startedPlayer (s : State) (sel : Selection) : Player :=
  match s.pattern? sel.pattern with
  | none => { Player.reset with sel := sel }
  | some r =>
    { sel := sel, steps := r.steps, repeats := r.repeats, cond := .playing, step := 0, cycle := 1,
      timer := some (stepTime r.steps 0), pending := none }

/-- R148, R159: lamp B of the pair is a discrete line: the pair is SINGLE and the record assigns it. -/
def State.isDiscrete (s : State) (p : LampPair) : Bool :=
  match s.fitment.lamps with
  | none => false
  | some r => decide (r.modes[p.idx] = .single) && r.discrete[p.idx]

/-- R157: lifts a cut, the health becoming UNTESTED. -/
def liftCut (l : Lamp) (s : State) : State := if (s.lamp l).cut then s.setLamp l ⟨.untested, false⟩ else s

/-- R146, R157: the player starts a changed selection; cuts of the pair's lamps are lifted, but for a line that is discrete at
that moment (R159, assumption 42). -/
def startChanged (p : LampPair) (sel : Selection) (s : State) : State :=
  let s := s.setPlayer p (s.startedPlayer sel)
  let s := liftCut (.a p) s
  if s.isDiscrete p then s else liftCut (.b p) s

/-- R152, R153: re-derives a pair's selection. stopNow says that STOP has just become active. -/
def rederive (stopNow : Bool) (p : LampPair) (s : State) : State :=
  let sel := s.derived p
  let x := s.player p
  if sel.pattern = x.sel.pattern ∧ sel.invert = x.sel.invert then
    s.setPlayer p { x with sel := sel, pending := none }
  else if x.cond ≠ .playing ∨ (stopNow ∧ sel.source = .scene 8) then startChanged p sel s
  else s.setPlayer p { x with pending := some sel }

/-- R152: re-derives every pair's selection; only in RUN do the players play (R161). -/
def rederiveAll (stopNow : Bool) (s : State) : State :=
  if s.supply.mode = .run then LampPair.all.foldl (fun s p => rederive stopNow p s) s else s

/-- R151: a report of scene place i's condition (scene i + 1). A report that changes the condition re-derives every pair. -/
def reportScene (i : Fin 8) (v : Bool) (s : State) : State :=
  if s.beacon.active[i] = v then s
  else
    rederiveAll (decide (i = 7) && v) { s with beacon := { s.beacon with active := s.beacon.active.set i v } }

/-- Table 8-5: the group has an order in MOVING or STOPPING. -/
def State.groupMoves (s : State) (g : Group) : Bool :=
  s.seq.orders.any fun o => decide (o.group = g) && (decide (o.state = .moving) || decide (o.state = .stopping))

/-- Table 8-5: the Motion Sequencer's report of LIFT_MOVING and SHUTTER_MOVING. -/
def reportMoving (s : State) : State :=
  let s := reportScene 2 (s.groupMoves .lift) s
  reportScene 5 (s.groupMoves .kerb || s.groupMoves .road) s

/-- Table 8-5: the Fault Table's report of FAULT. -/
def reportFaultScene (s : State) : State := reportScene 6 s.faults.flags.any s

/-- Table 8-5: the Operator Input Unit's report of STOP. -/
def reportStopScene (s : State) : State := reportScene 7 (decide (s.operator.estop ≠ .clear)) s

/-- Table 8-5: the Axis Trackers' reports of PLATFORM_OUT, KERB_OPEN and ROAD_OPEN. -/
def reportWindows (s : State) : State :=
  let s := reportScene 1 (!(s.tracker .tl).inside) s
  let s := reportScene 3 (!(s.tracker .sk).inside) s
  reportScene 4 (!(s.tracker .sr).inside) s

/-! ### Steps of a player (Section 8.2) -/

/-- R147: the expiry of a PLAYING player's step timer; nothing when it runs none. The repeat count of a new cycle is the fresh
copy's (assumption 24), and a cycle above it ends FINISHED (assumption 44). -/
def stepExpiry (p : LampPair) (s : State) : State :=
  let x := s.player p
  if x.cond = .playing ∧ x.timer.isSome then
    match x.pending with
    | some sel => startChanged p sel s
    | none =>
      if x.step + 1 < x.steps.length then
        s.setPlayer p { x with step := x.step + 1, timer := some (stepTime x.steps (x.step + 1)) }
      else if x.repeats = 0 ∨ x.cycle < x.repeats then
        let copy := (s.pattern? x.sel.pattern).getD { repeats := x.repeats, steps := x.steps }
        s.setPlayer p
          { x with steps := copy.steps, repeats := copy.repeats, step := 0,
                   cycle := if copy.repeats = 0 then 1 else x.cycle + 1, timer := some (stepTime copy.steps 0) }
      else s.setPlayer p { x with cond := .finished, timer := none }
  else s

/-- R146: a FIT_PATTERN of pattern n restarts each DARK player that has selected it. -/
def adoptPattern (n : Nat) (s : State) : State :=
  LampPair.all.foldl
    (fun s p =>
      let x := s.player p
      if x.cond = .dark ∧ x.sel.pattern = n ∧ n ≠ 0 then s.setPlayer p (s.startedPlayer x.sel) else s) s

/-! ### Lamp lines (Section 8.3) -/

/-- R149: the effective lit of a pair's player; none gives both lamps off. -/
def Player.effectiveLit (x : Player) : Bool :=
  match x.cond with
  | .playing => ((x.steps[x.step]?).map fun st => st.lit != x.sel.invert).getD false
  | .dark | .finished => false

/-- R149: the level of a lamp. -/
def State.lampLevel (s : State) (l : Lamp) : Bool :=
  let x := s.player l.pair
  match s.pairMode l.pair, l with
  | .mirror, _ => x.effectiveLit
  | .alternate, .a _ => x.effectiveLit && decide (x.step % 2 = 0)
  | .alternate, .b _ => x.effectiveLit && decide (x.step % 2 = 1)
  | .single, .a _ => x.effectiveLit
  | .single, .b p => s.isDiscrete p && s.latch p

/-- R149: the line is driven on: its level is on, it is not cut and the part is in RUN. -/
def State.lampDriven (s : State) (l : Lamp) : Bool :=
  s.lampLevel l && !(s.lamp l).cut && decide (s.supply.mode = .run)

/-- The lamp is a discrete line (R159). -/
def State.lampIsDiscrete (s : State) : Lamp → Bool
  | .a _ => false
  | .b p => s.isDiscrete p

end Sys2Proof.Machine
end

