-- ==== Sys2Proof/Machine/Sequencer.lean ====
section
/-! DEFINITION. The Motion Sequencer's operations (Chapter 1): changes of an order's state, the end of an order, the gates, claims,
stops, immediate ends, phase starts, and what a change of the inhibit flags does (R16, R165). -/

namespace Sys2Proof.Machine

/-! ### Changes of an order -/

/-- Changes the record that carries number n, and reports LIFT_MOVING and SHUTTER_MOVING (R151). -/
def setOrder (n : Nat) (f : Order → Order) (s : State) : State := reportMoving (s.modOrder n f)

/-- R91: a group's run ends; the SKEW_WARN entry of a WARNED run goes LATCHED. -/
def endRun (g : Group) (s : State) : State :=
  match s.run? g with
  | none => s
  | some r =>
    let s := if r.skewState = .warned then latch .skewWarn (.group .lift) s else s
    s.setRun g none

/-- R90: a run begins for the order's present movement phase. -/
def beginRun (o : Order) (p : Phase) (c : MoveClass) (share : Nat) (s : State) : State :=
  s.setRun o.group <| some
    { order := o.number, index := o.index, fCmd := 0, fBase := 0, share := share,
      skewState := if p.sync then .normal else .none, stall := 0, remaining := 0, skew := 0, correction := 0,
      demands := c.driven.map fun ch => (ch, 0) }

/-- R32: stops a group's control timers. -/
def stopTimers (g : Group) (s : State) : State :=
  s.modCtl g fun c => { c with block := none, hold := none, settle := none, latchCheck := none }

/-- R80: a tracker records its parked position when its axis is referenced. -/
def recordParked (a : Axis) (s : State) : State :=
  s.modTracker a fun t => if t.referenced then { t with parked := some t.pos } else t

/-- R5, R80: a group becomes idle: the trackers of its axes record their parked positions. -/
def becomeIdle (g : Group) (s : State) : State := g.axes.foldl (fun s a => recordParked a s) s

/-- R80: a group ceases to be idle: the trackers of its axes discard their parked positions. -/
def ceaseIdle (g : Group) (s : State) : State :=
  g.axes.foldl (fun s a => s.modTracker a fun t => { t with parked := none }) s

/-! ### Readiness and claims (R19, R58) -/

/-- R19, R58: a claim reported ready moves its order from CLAIMING to MOVING, with its share; it reaches no order in another
state (R20). -/
def onReady (n share : Nat) (s : State) : State :=
  match s.order? n with
  | none => s
  | some o =>
    match decide (o.state = .claiming), o.phase?, o.cls? with
    | true, some p, some c => setOrder n (fun o => { o with state := .moving }) (beginRun o p c share s)
    | _, _, _ => s

/-- Reports each ready claim to the Motion Sequencer. -/
def reportReady (r : State × List (Nat × Nat)) : State := r.2.foldl (fun s x => onReady x.1 x.2 s) r.1

/-- R56: granting is tried, and the claims made ready are reported. -/
def grantNow (s : State) : State := reportReady (tryGrant s)

/-- R59: withdraws the claim of an order. -/
def withdraw (n : Nat) (s : State) : State := reportReady (withdrawClaim n s)

/-- R55: lodges the claim of an order and tries granting. -/
def lodge (o : Order) (c : MoveClass) (s : State) : State := grantNow (enterClaim o.group o.number c s)

/-! ### The end of an order (R32) -/

/-- R165, R56: what a removal of entries reports: granting is tried when PUMPED cleared, and the FAULT scene. -/
def reportCleared (old : Inhibits) (s : State) : State :=
  let s := if old.pumped && !s.faults.flags.pumped then grantNow s else s
  reportFaultScene s

/-- R167: the entries that a completed order recovers. -/
def recovers (o : Order) (e : Entry) : Bool :=
  match o.kind with
  | .home =>
    e.is .skew (.group .lift) || e.is .referenceMismatch (.axis .lk) || e.is .referenceMismatch (.axis .lr)
  | .closeShutter => e.is .latchFault (.group o.group)
  | .raiseTo | .lowerTo | .tiltTo | .deploy | .stow | .openShutter => false

/-- R167: a completed HOME or CLOSE is reported to the Fault Table. -/
def reportCompletion (o : Order) (s : State) : State :=
  reportCleared s.faults.flags (removeFaults (recovers o) s)

/-- R32: the record as it stands when it reaches ENDED. -/
def Order.atEnd (o : Order) (res : OrderResult) (why : Option Reason) (now : U32) (skew : Int) (rank : Nat) : Order :=
  { o with state := .ended, endedAt := some now, result := some res, reason := why, noticed := false,
           residual := if o.group = .lift then some skew else none, outcome := none, pendResult := none,
           pendReason := none, endRank := rank }

/-- R32: an order reaches ENDED. The start of the next QUEUED record is advanceGroup's, after the entries that a completion
recovers are gone (assumption 39). -/
def markEnded (n : Nat) (res : OrderResult) (why : Option Reason) (s : State) : State :=
  match s.order? n with
  | none => s
  | some o =>
    let s := if o.state.isActive then stopTimers o.group (endRun o.group s) else s
    let s := setOrder n (fun o => o.atEnd res why s.supply.time s.skew s.seq.endRank) s
    let s := s.noticeOrder
    if res = .completed then reportCompletion o s else s

/-! ### The gates (R15 to R20) -/

/-- R16: an inhibit flag that is set applies to the order's present phase. -/
def State.inhibited (s : State) (o : Order) : Bool :=
  (s.faults.flags.group o.group && !s.faults.admits o.group o.kind) || (s.faults.flags.pumped && o.phaseIs .pumped)

/-- R18: the binding of an order is satisfied. -/
def State.bindingOk (s : State) (o : Order) : Bool :=
  match o.binding with
  | .none => true
  | .edge _ => o.startedEdge
  | .level h => s.level (.h h)
  | .twoHand t => decide ((s.hand t).state = .held)

/-- R17: the order enters BLOCKED with this blocking entry, and the block window starts. -/
def enterBlocked (o : Order) (entry : Nat) (s : State) : State :=
  let s := s.modCtl o.group fun c => { c with block := some (s.timing (·.block)), hold := none }
  setOrder o.number (fun o => { o with state := .blocked, blocking := entry }) s

/-- R18: the order enters HOLD_WAIT, and the hold window starts. -/
def enterHoldWait (o : Order) (s : State) : State :=
  let s := s.modCtl o.group fun c => { c with block := none, hold := some (s.timing (·.hold)) }
  setOrder o.number (fun o => { o with state := .holdWait }) s

/-- R31: the debounced latch sense of an order's side. -/
def State.latchSense (s : State) (o : Order) : Bool := (o.group.side?.map fun d => s.level (.latchSense d)).getD false

/-- R15, R30, R31, R90: the order enters MOVING: a movement phase begins its run, a PULSE phase asks for its pulse, a CHECK
phase completes at once or starts the latch check timer. -/
def enterMoving (o : Order) (p : Phase) (s : State) : State :=
  let toMoving := setOrder o.number fun o => { o with state := .moving }
  match p.kind, p.cls with
  | .pumped, some c | .gravity, some c => toMoving (beginRun o p c Config.full s)
  | .pumped, none | .gravity, none => toMoving s
  | .pulse, _ =>
    match o.group.side? with
    | some d => toMoving (pulseRequest d o.number s)
    | none => toMoving s
  | .check, _ =>
    let s := toMoving s
    if s.latchSense o then markEnded o.number .completed none s
    else s.modCtl o.group fun c => { c with latchCheck := some (s.timing (·.latchCheck)) }

/-- R15, gate 4: a PUMPED_MOVE phase lodges a claim and goes to CLAIMING; any other goes to MOVING. -/
def gateFlow (o : Order) (p : Phase) (s : State) : State :=
  let s := s.modCtl o.group fun c => { c with block := none, hold := none }
  match p.kind, p.cls with
  | .pumped, some c => lodge o c (setOrder o.number (fun o => { o with state := .claiming }) s)
  | .pumped, none | .gravity, _ | .pulse, _ | .check, _ => enterMoving o p s

/-- R15, gate 3. -/
def gateBinding (o : Order) (p : Phase) (s : State) : State :=
  if s.bindingOk o then gateFlow o p s else enterHoldWait o s

/-- R15, gate 2, with the stop inputs (R139). -/
def gateInterlock (o : Order) (p : Phase) (s : State) : State :=
  match s.askInterlock o with
  | some e => enterBlocked o e s
  | none => if s.isObstructed o.group then enterBlocked o 0 s else gateBinding o p s

/-! ### Phase starts (R3, R15) -/

/-- R106: the LEVEL target before its clamp. -/
def State.levelTarget (s : State) : Int :=
  match s.profile? .tilt with
  | none => 0
  | some r => r.level + (if s.vehicle.fresh then s.vehicle.pitch else 0) * r.tiltPerTenth

/-- R3, R106: fixes the target and the class of a TILT_TO phase at its phase start. -/
def State.fixTilt (s : State) (o : Order) : Order :=
  if o.kind = .tiltTo then
    match o.phases with
    | [] => o
    | p :: rest =>
      let raw := s.levelTarget
      let lim := s.softLimits .tl
      let target := if o.level then clampTo lim.1 lim.2 raw else p.target
      let cls := if (s.tracker .tl).pos < target then MoveClass.tiltOut else MoveClass.tiltIn
      { o with
        phases := { p with target := target, cls := some cls } :: rest
        clamped := o.clamped || (o.level && decide (target ≠ raw))
        uncompensated := o.uncompensated || (o.level && !s.vehicle.fresh) }
  else o

/-- R15: the order begins the phase at its phase index: the tilt phase is fixed, then the gates are tried. -/
def phaseStart (n : Nat) (s : State) : State :=
  match s.order? n with
  | none => s
  | some o0 =>
    let o := s.fixTilt o0
    let s := s.modOrder n fun _ => o
    match o.phase? with
    | none => s
    | some p =>
      if s.inhibited o then markEnded n .failed (some .inhibited) s
      else
        match p.kind with
        | .check => enterMoving o p s
        | .pumped | .gravity | .pulse => gateInterlock o p s

/-- R14, R15, R32: while a group has no active order, its oldest QUEUED record reaches its first phase start, unless a
proving test runs; with no QUEUED record the group becomes idle. The fuel bounds the records that end at their first gate. -/
def startQueued (g : Group) : Nat → State → State
  | 0, s => s
  | k + 1, s =>
    if (s.active? g).isSome then s
    else
      match s.oldestQueued? g with
      | none => becomeIdle g s
      | some o => if s.proving then s else startQueued g k (phaseStart o.number s)

/-- What follows an end in a group: its next record starts, or the group is idle. One pass for each record is enough. -/
def advanceGroup (g : Group) (s : State) : State := startQueued g (s.seq.orders.length + 1) s

/-- R32: an order reaches ENDED, and its group goes on. -/
def endOrder (o : Order) (res : OrderResult) (why : Option Reason) (s : State) : State :=
  advanceGroup o.group (markEnded o.number res why s)

/-- R16, R33: ends a waiting order at once, its claim withdrawn. -/
def endWaiting (o : Order) (res : OrderResult) (why : Option Reason) (s : State) : State :=
  endOrder o res why (withdraw o.number s)

/-- R16, R33: ends an order in a PULSE or CHECK phase at once, its latch pulse released if running. -/
def endPulse (o : Order) (res : OrderResult) (why : Option Reason) (s : State) : State :=
  let s :=
    match o.group.side? with
    | some d => if o.phaseIs .pulse ∧ (s.chan d.latch).state ≠ .idle then release d.latch s else s
    | none => s
  endOrder o res why s

/-! ### Stops (R22 to R29) -/

/-- An order goes to STOPPING with a stop outcome, and for END with a pending result. -/
def toStopping (n : Nat) (out : StopOutcome) (res : Option OrderResult) (why : Option Reason) (s : State) : State :=
  setOrder n (fun o => { o with state := .stopping, outcome := some out, pendResult := res, pendReason := why }) s

/-- STOPPING with outcome END, pending FAILED. -/
def stopFailed (n : Nat) (why : Reason) (s : State) : State := toStopping n .finish (some .failed) (some why) s

/-- R27: the order enters SETTLING and the settle timer of its profile starts. -/
def enterSettling (o : Order) (f : Order → Order) (s : State) : State :=
  let s := s.modCtl o.group fun c =>
    { c with settle := some (s.profileField o.settleProfile (·.settle)), latchCheck := none }
  setOrder o.number (fun o => { f o with state := .settling }) s

/-- R28: an immediate end of the phase of a group's order, in MOVING or STOPPING: the group's channels are released, the
claim withdrawn, and the order settles pending FAILED. Nothing in any other state. -/
def immediateEnd (g : Group) (why : Reason) (s : State) : State :=
  match s.active? g with
  | none => s
  | some o =>
    if o.state = .moving ∨ o.state = .stopping then
      let s := withdraw o.number (releaseAll g.channels s)
      enterSettling o
        (fun o => { o with outcome := some .finish, pendResult := some .failed, pendReason := some why }) (endRun g s)
    else s

/-! ### Changed inhibit flags (R16, R165) -/

/-- R16: a newly set inhibit that applies reaches an order past its phase start. -/
def applyInhibit (o : Order) (s : State) : State :=
  match o.state with
  | .blocked | .holdWait | .claiming | .paused => endWaiting o .failed (some .inhibited) s
  | .moving =>
    if o.inMovement then stopFailed o.number .inhibited s else endPulse o .failed (some .inhibited) s
  | .queued | .stopping | .settling | .ended => s

/-- R16: the newly set flags reach a group's active order. -/
def meetInhibit (old : Inhibits) (g : Group) (s : State) : State :=
  match s.active? g with
  | none => s
  | some o =>
    let new := s.faults.flags
    let byGroup := new.group g && !old.group g && !s.faults.admits g o.kind
    let byPump := new.pumped && !old.pumped && o.phaseIs .pumped
    if byGroup || byPump then applyInhibit o s else s

/-- R165: reports the flags, as they stand against what they were, to the Motion Sequencer, the Flow Arbiter and the Beacon
Engine, in that order. The active orders are met LIFT, KERB, ROAD, the group of one that ends going on before the next is met
(assumption 39). -/
def reportFlags (old : Inhibits) (s : State) : State :=
  if s.faults.flags = old then s
  else reportCleared old (Group.all.foldl (fun s g => meetInhibit old g s) s)

/-- R162, R165: a raise and the report of the flags it changes. -/
def raiseFault (code : FaultCode) (subject : Subject) (s : State) : State :=
  reportFlags s.faults.flags (raise code subject s)

/-- R163, R165: a raise that goes LATCHED in the same event, and the report of the flags it changes. -/
def raiseFaultOnce (code : FaultCode) (subject : Subject) (s : State) : State :=
  reportFlags s.faults.flags (raiseOnce code subject s)

/-! ### Endings of all orders (R34, R35) -/

/-- R34, R35: orders not ENDED that p picks end ABORTED at once, in submission order. -/
def abortOrders (p : Order → Bool) (why : Reason) (s : State) : State :=
  (s.seq.orders.filter fun o => p o && decide (o.state ≠ .ended)).foldl
    (fun s o => markEnded o.number .aborted (some why) (withdraw o.number s)) s

end Sys2Proof.Machine
end

