-- ==== Sys2Proof/Machine/Tracker.lean ====
section
/-! DEFINITION. The Axis Trackers' operations (Chapter 4): counting a pulse, the end of a tracker window, the home switch and the
reference snap, soft limits, parked positions and drift. -/

namespace Sys2Proof.Machine

/-! ### Counting (R72) -/

/-- R72: the position and remainder after a pulse. -/
def pulseStep (r : AxisRec) (forward : Bool) (pos : Int) (rem : Nat) : Int × Nat :=
  if forward then
    if r.den ≤ rem + r.num then (pos + r.n + 1, rem + r.num - r.den) else (pos + r.n, rem + r.num)
  else if rem < r.num then (pos - r.n - 1, rem + r.den - r.num)
  else (pos - r.n, rem - r.num)

/-- R72: a signed 32-bit number. -/
def representable (x : Int) : Bool := decide (-2147483648 ≤ x) && decide (x ≤ 2147483647)

/-- R84: the axis becomes unreferenced. -/
def unreference (a : Axis) (s : State) : State := s.modTracker a fun t => { t with referenced := false, parked := none }

/-- R79: the pulse left a referenced axis beyond a soft limit in its direction. -/
def outwardPass (r : AxisRec) (t : Tracker) (forward : Bool) : Bool :=
  t.referenced &&
    (if forward then decide (r.softUpper < t.pos) else decide (t.pos < r.softLower) && !t.home)

/-- R79: a limit pass reported to the Motion Sequencer ends a movement phase of the axis's group, in MOVING or STOPPING,
FAILED LIMIT. -/
def limitPass (a : Axis) (s : State) : State :=
  match s.active? a.group with
  | none => s
  | some o => if o.inMovement then immediateEnd a.group .limit s else s

/-- R81: the drift examination of a parked axis. -/
def judgeDrift (r : AxisRec) (a : Axis) (s : State) : State :=
  let t := s.tracker a
  match t.parked with
  | none => s
  | some p =>
    if (r.driftLimit : Int) < |t.pos - p| then
      raiseFaultOnce .drift (.axis a) (s.modTracker a fun t => { t with parked := some t.pos })
    else s

/-- R71 to R73, R79, R81: a pulse on a tracker whose record is r. -/
def countPulse (r : AxisRec) (a : Axis) (forward : Bool) (s : State) : State :=
  let t := s.tracker a
  let x := pulseStep r forward t.pos t.rem
  if representable x.1 then
    let t' := { t with pos := x.1, rem := x.2, net := t.net + if forward then 1 else -1 }
    let s := s.modTracker a fun _ => t'
    judgeDrift r a (if outwardPass r t' forward then limitPass a s else s)
  else unreference a s

/-! ### Tracker windows (R73, R74) -/

/-- R73: the speed over a window with net count n, in µm/s. -/
def windowSpeed (r : AxisRec) (n : Int) : Int := (n * ((r.n * r.den + r.num : Nat) : Int) * 20).tdiv r.den

/-- R73: the motion sense of a net count. -/
def senseOf (n : Int) : Sense := if n < 0 then .towardHome else if n = 0 then .stationary else .away

/-- R74: the window within which an axis counts as stowed or closed; LK and LR have none. -/
def insideWindow (r : AxisRec) (a : Axis) (t : Tracker) : Bool :=
  match a with
  | .lk | .lr => false
  | .tl => t.referenced && decide (t.pos ≤ r.home + r.stowWindow)
  | .sk | .sr => t.referenced && decide (t.pos ≤ r.home + r.closedWindow)

/-- R73: the end of a tracker window, with the scene conditions that follow the presentations (R151). -/
def windowEnd (r : AxisRec) (a : Axis) (s : State) : State :=
  reportWindows <| s.modTracker a fun t =>
    { t with speed := windowSpeed r t.net, sense := senseOf t.net, inside := insideWindow r a t, net := 0,
             windowLeft := Config.trackerWindow }

/-! ### The home switch (R75 to R78) -/

/-- R76, R77: the reference snap of an axis whose record is present, after the REFERENCE_MISMATCH check. -/
def snap (a : Axis) (s : State) : State :=
  match s.axisRec? a with
  | none => s
  | some r =>
    let t := s.tracker a
    let s :=
      if t.referenced ∧ (r.homeWindow : Int) < |t.pos - r.home| then raiseFaultOnce .referenceMismatch (.axis a) s
      else s
    let idle := s.groupIdle a.group
    s.modTracker a fun t =>
      { t with pos := r.home, rem := 0, referenced := true, parked := if idle then some r.home else t.parked }

/-- R78: snaps the axis if its debounced home switch level is active. -/
def snapIfActive (a : Axis) (s : State) : State := if (s.tracker a).home then snap a s else s

/-- R75, R76: the debounced level of the home switch is taken; an activation snaps the axis unless its sense is AWAY. -/
def takeHome (a : Axis) (s : State) : State :=
  let t := s.tracker a
  let s := s.modTracker a fun t => { t with homeTimer := none, home := t.rawHome }
  if t.rawHome ∧ ¬ t.home ∧ t.sense ≠ .away then snap a s else s

end Sys2Proof.Machine
end

