-- ==== Sys2Proof/Machine/Operator.lean ====
section
/-! DEFINITION. The Operator Input Unit's operations (Chapter 7) and what its levels do elsewhere: hold bindings, two-hand machines,
stop inputs, the pump senses, the latch sense, and the emergency stop machine. -/

namespace Sys2Proof.Machine

/-! ### Bindings (R18, R20, R24, R25, R136) -/

/-- R18, R25: the binding of an order is reported satisfied: HOLD_WAIT goes on to gate 4, PAUSED to gate 2. -/
def bindingGained (n : Nat) (s : State) : State :=
  match s.order? n with
  | none => s
  | some o =>
    match o.state, o.phase? with
    | .holdWait, some p => gateFlow o p s
    | .paused, some p => gateInterlock o p s
    | _, _ => s

/-- R20, R24: the binding of an order is lost: CLAIMING falls back to HOLD_WAIT, a MOVING movement phase pauses. -/
def bindingLost (n : Nat) (s : State) : State :=
  match s.order? n with
  | none => s
  | some o =>
    match o.state with
    | .claiming => enterHoldWait o (withdraw n s)
    | .moving => if o.inMovement then toStopping n .pause none none s else s
    | .queued | .blocked | .holdWait | .stopping | .paused | .settling | .ended => s

/-- R18, R136: a rising edge reaches an order: in HOLD_WAIT it sets started edge and the order goes on. -/
def edgeTaken (n : Nat) (s : State) : State :=
  match s.order? n with
  | none => s
  | some o =>
    if o.state = .holdWait then bindingGained n (s.modOrder n fun o => { o with startedEdge := true }) else s

/-- A report to every order with a binding, in submission order (assumption 9). -/
def reportBinding (b : Binding) (f : Nat → State → State) (s : State) : State :=
  (s.seq.orders.filter fun o => decide (o.binding = b)).foldl (fun s o => f o.number s) s

/-! ### Two-hand machines (R137) -/

/-- The two-hand set of a hold input: H1 and H2 make TH1, H3 and H4 TH2. -/
def handOf (h : Fin 4) : Fin 2 := ⟨h.val / 2, by omega⟩

/-- The other input of a hold input's two-hand set. -/
def partner (h : Fin 4) : Fin 4 := ⟨if h.val % 2 = 0 then h.val + 1 else h.val - 1, by split <;> omega⟩

/-- Table 7-2: a two-hand machine after an activation of one of its inputs. -/
def TwoHand.activated (window : Nat) (m : TwoHand) : TwoHand :=
  match m.state with
  | .released => ⟨.half, some window⟩
  | .half => ⟨.held, none⟩
  | .held | .lockout => m

/-- Table 7-2: a two-hand machine after a release of one of its inputs; other is the level of the other input. -/
def TwoHand.deactivated (other : Bool) (m : TwoHand) : TwoHand :=
  match m.state with
  | .released => m
  | .half => ⟨.released, none⟩
  | .held => ⟨.lockout, none⟩
  | .lockout => if other then m else ⟨.released, none⟩

/-- R137: a two-hand machine takes a new state; entering and leaving HELD are reported. -/
def moveHand (t : Fin 2) (m : TwoHand) (s : State) : State :=
  let old := (s.hand t).state
  let s := s.setHand t m
  if old ≠ .held ∧ m.state = .held then reportBinding (.twoHand t) bindingGained s
  else if old = .held ∧ m.state ≠ .held then reportBinding (.twoHand t) bindingLost s
  else s

/-- R134, R136, R137: a hold input's level has been taken: LEVEL orders, then EDGE orders, then the two-hand machine with its
orders (assumption 9). -/
def holdTaken (h : Fin 4) (level : Bool) (s : State) : State :=
  let m := s.hand (handOf h)
  if level then
    let s := reportBinding (.edge h) edgeTaken (reportBinding (.level h) bindingGained s)
    moveHand (handOf h) (m.activated s.twoHandTime) s
  else
    let s := reportBinding (.level h) bindingLost s
    moveHand (handOf h) (m.deactivated (s.level (.h (partner h)))) s

/-! ### Stop inputs (R139) -/

/-- R139: a slot is used and its input stands at the level that stops the group. -/
def State.slotActive (s : State) (x : StopSlot) : Bool :=
  match x.input with
  | none => false
  | some i => s.level (.g i) == x.stopsOn

/-- R138, R139: the stop state of a group from its slots and the debounced levels; clear while no POLICY record is
present. -/
def State.stopStateNow (s : State) (g : Group) : Bool :=
  match s.fitment.policy with
  | none => false
  | some r =>
    match g with
    | .lift => s.slotActive r.slots[0] || s.slotActive r.slots[1]
    | .kerb => s.slotActive r.slots[2] || s.slotActive r.slots[3]
    | .road => s.slotActive r.slots[4] || s.slotActive r.slots[5]

/-- R139: a group's stop state is worked out afresh; a change to obstructed is reported and ends the group's phase. -/
def refreshStop (g : Group) (s : State) : State :=
  let v := s.stopStateNow g
  let was := s.isObstructed g
  let s := { s with operator := { s.operator with obstructed := s.operator.obstructed.set g.idx v } }
  if v ∧ ¬ was then immediateEnd g .obstructed s else s

/-- R139: every group's stop state is worked out afresh and its phase ended, LIFT, KERB, ROAD (assumption 39). -/
def refreshStops (s : State) : State := Group.all.foldl (fun s g => refreshStop g s) s

/-! ### Latch sense, pressure switch and pump running sense -/

/-- R31: an activation of a latch sense completes the CHECK phase that watches it. -/
def latchSensed (d : Side) (s : State) : State :=
  match s.active? d.group with
  | none => s
  | some o =>
    if o.state = .moving ∧ o.phaseIs .check then endOrder o .completed none s else s

/-- R66: the order is in MOVING in a PUMPED_MOVE phase whose claim is ready. -/
def State.pumpedMoving (s : State) (o : Order) : Bool :=
  decide (o.state = .moving) && o.phaseIs .pumped && s.flow.granted.any fun c => (c.order == o.number) && c.ready

/-- R66: the reference position of the order's phase lies within 20,000 µm of its target. -/
def State.nearTarget (s : State) (o : Order) : Bool :=
  match o.phase?, o.cls? with
  | some p, some c => decide (|p.target - s.reference c| ≤ (Config.pressureNear : Int))
  | _, _ => false

/-- R66: PSW has been taken active. -/
def pressureActive (s : State) : State :=
  let near := s.seq.orders.filter fun o => s.pumpedMoving o && s.nearTarget o
  if near.isEmpty then raiseFault .pressureRelief .none s
  else near.foldl (fun s o => toStopping o.number .arrived none none s) s

/-- R63: the pump stops without being told to, in RUNNING or RUN_ON. -/
def pumpLost (s : State) : State :=
  let s := pumpOff s
  let s := s.modFlow fun fl => { fl with granted := [] }
  let moved := s.seq.orders.filter fun o => decide (o.state = .moving) && o.phaseIs .pumped
  raiseFaultOnce .pumpLost .none (moved.foldl (fun s o => stopFailed o.number .pump s) s)

/-- R63, R65: the level of PRS has been taken. -/
def runningSenseTaken (level : Bool) (s : State) : State :=
  match s.flow.pump, level with
  | .off, true => s.modFlow fun fl => { fl with stuck := some Config.stuckTime }
  | .off, false => latch .pumpStuck .none (s.modFlow fun fl => { fl with stuck := none })
  | .running, false | .runOn, false => pumpLost (latch .pumpStuck .none s)
  | .starting, false => latch .pumpStuck .none s
  | .starting, true | .running, true | .runOn, true => s

/-- R133, R134: a line's debounced level is taken to its raw level and handed to its consumers. -/
def takeLine (l : Line) (s : State) : State :=
  let level := (s.line l).raw
  let s := s.modLine l fun x => { x with level := level }
  match l with
  | .h i => holdTaken i level s
  | .g _ => refreshStops s
  | .latchSense d => if level then latchSensed d s else s
  | .psw => if level then pressureActive s else latch .pressureRelief .none s
  | .prs => runningSenseTaken level s

/-! ### The emergency stop machine (R140 to R142) -/

/-- R140: the machine takes a state; the STOP notice becomes pending. -/
def setEstop (e : EstopState) (release : Timer) (s : State) : State :=
  State.noticeStop { s with operator := { s.operator with estop := e, release := release } }

/-- R5: after every order of the groups that had work has ended, each such group is idle. -/
def idleAfter (before : State) (s : State) : State :=
  Group.all.foldl (fun s g => if before.groupIdle g then s else becomeIdle g s) s

/-- R34, R67, R119, R129, R141: the machine enters ACTIVE from CLEAR and hands the stop to five blocks. -/
def estopFromClear (s0 : State) : State :=
  let s := setEstop .active none s0
  let s := abandonProve (releaseAll allChannels s)
  let s := emptyFlow s
  let s := idleAfter s0 (abortOrders (fun _ => true) .estop s)
  let s := raiseFault .estop .none s
  reportStopScene s

end Sys2Proof.Machine
end

