-- ==== Sys2Proof/Machine/Motion.lean ====
section
/-! DEFINITION. The Motion Law (Chapter 5): the steps of one control interval of a moving group (R92), and the gates re-examined at
the intervals of a waiting one (R17, R20). -/

namespace Sys2Proof.Machine

/-! ### Demand (R95 to R98) -/

/-- R95: the class demand of a speed class. -/
def ProfileRec.classDemand (r : ProfileRec) : SpeedClass → Nat
  | .creep => r.creep | .normal => r.normal | .fast => r.fast

/-- R95: the class demand capped by the flow share. -/
def capDemand (f share : Nat) : Nat := f * share / 1000

/-- R96: the approach demand at a remaining distance. -/
def approachDemand (kApp remaining : Nat) : Nat := remaining * kApp / 1000

/-- R96: the base demand. -/
def baseDemand (fMin cap app : Nat) : Nat := max fMin (min cap app)

/-- R97: the commanded demand moved toward the base demand by at most the ramp step. -/
def rampTo (step cmd base : Nat) : Nat := if cmd < base then min base (cmd + step) else max base (cmd - step)

/-- R98: the commanded demand after one stop step. -/
def stopStep (step cmd : Nat) : Nat := cmd - step

/-! ### Skew (R100 to R102) -/

/-- R100: the correction for a skew. -/
def correctionFor (r : ProfileRec) (e : Int) : Nat :=
  if e.natAbs ≤ r.deadband then 0 else min r.cMax (e.natAbs * r.kSync / 1000)

/-- R102: the skew supervision of a synchronised phase whose skew is not beyond the skew stop. -/
def superviseSkew (r : ProfileRec) (run : Run) (s : State) : State :=
  let e := s.skew.natAbs
  match run.skewState with
  | .normal =>
    if r.skewWarn < e then
      raiseFault .skewWarn (.group .lift) (s.setRun .lift (some { run with skewState := .warned }))
    else s
  | .warned =>
    if e ≤ r.skewWarn then latch .skewWarn (.group .lift) (s.setRun .lift (some { run with skewState := .normal }))
    else s
  | .none => s

/-- R103: a skew beyond the skew stop: the phase ends FAILED SKEW and SKEW is raised. -/
def skewEnd (s : State) : State := raiseFaultOnce .skew (.group .lift) (immediateEnd .lift .skew s)

/-! ### Arrival (R93, R94) -/

/-- R93: the remaining distance of a phase; 0 for HOME, which has no reference position. -/
def State.remaining (s : State) (o : Order) (p : Phase) (c : MoveClass) : Nat :=
  if o.kind = .home then 0 else (p.target - s.reference c).natAbs

/-- R94: the arrival window of a phase: that of its axis, the smaller of LK and LR for a lift phase. -/
def State.arrivalWindow (s : State) (c : MoveClass) : Nat :=
  let w := fun a => ((s.axisRec? a).map (·.arrival)).getD 0
  match c with
  | .liftUp | .liftDown => min (w .lk) (w .lr)
  | .tiltOut | .tiltIn => w .tl
  | .kerbOpen | .kerbClose => w .sk
  | .roadOpen | .roadClose => w .sr

/-- R94: the reference position lies beyond the target in the direction of travel. -/
def beyondTarget (c : MoveClass) (target p : Int) : Bool :=
  if c.increasing then decide (target < p) else decide (p < target)

/-- R22, R94: the phase has arrived. -/
def State.arrived (s : State) (o : Order) (p : Phase) (c : MoveClass) : Bool :=
  match p.ending with
  | .target => decide (s.remaining o p c ≤ s.arrivalWindow c) || beyondTarget c p.target (s.reference c)
  | .switch => c.axes.all fun a => (s.tracker a).home
  | .pulseDone | .sense => false

/-! ### Stall (R99) -/

/-- R99: the supervised axes less a lift cylinder on its switch in a phase that drives it to 0 there. -/
def State.stallingAxes (s : State) (c : MoveClass) : List Axis :=
  match c with
  | .liftDown => [Axis.lk, Axis.lr].filter fun a => !(s.tracker a).home
  | .liftUp | .tiltOut | .tiltIn | .kerbOpen | .kerbClose | .roadOpen | .roadClose => c.axes

/-- R99: the stall condition. -/
def State.stallCondition (s : State) (r : ProfileRec) (c : MoveClass) (fCmd : Nat) : Bool :=
  decide (r.fMin ≤ fCmd) && !(s.stallingAxes c).isEmpty &&
    (s.stallingAxes c).all fun a => decide ((s.tracker a).speed.natAbs < r.stallSpeed)

/-! ### Demands (R100, R101, R104, R105) -/

/-- R100, R101, R104: the demands of the two lift cylinders, LK then LR, and the correction, reported as 0 while R101 drops
it (assumption 45). down says LIFT_DOWN, sync that the phase is synchronised. -/
def State.liftDemands (s : State) (r : ProfileRec) (down sync : Bool) (fCmd : Nat) : (Nat × Nat) × Nat :=
  let hk := down && (s.tracker .lk).home
  let hr := down && (s.tracker .lr).home
  if hk || hr || !sync then ((if hk then 0 else fCmd, if hr then 0 else fCmd), 0)
  else
    let e := s.skew
    let c := correctionFor r e
    if e = 0 then ((fCmd, fCmd), c)
    else if decide (0 < e) != down then ((fCmd - c, fCmd), c)
    else ((fCmd, fCmd - c), c)

/-- R105: the demand of each driven channel of a phase, and the correction. -/
def State.phaseDemands (s : State) (r : ProfileRec) (p : Phase) (c : MoveClass) (fCmd : Nat) :
    List (Channel × Nat) × Nat :=
  match c with
  | .liftUp =>
    let d := s.liftDemands r false p.sync fCmd
    ([(0, d.1.1), (2, d.1.2)], d.2)
  | .liftDown =>
    let d := s.liftDemands r true p.sync fCmd
    ([(1, d.1.1), (3, d.1.2)], d.2)
  | .tiltOut | .tiltIn | .kerbOpen | .kerbClose | .roadOpen | .roadClose => (c.driven.map fun ch => (ch, fCmd), 0)

/-- R105: sends the demands to the Drive Unit. -/
def sendDemands (ds : List (Channel × Nat)) (s : State) : State := ds.foldl (fun s d => demandCommand d.1 d.2 s) s

/-! ### The steps of an interval (R92) -/

/-- Changes the run of a group, if it has one. -/
def modRun (g : Group) (f : Run → Run) (s : State) : State :=
  match s.run? g with
  | none => s
  | some r => s.setRun g (some (f r))

/-- Step 1: what the interval reads of the positions, as the run reports it (R107). -/
def readPositions (o : Order) (p : Phase) (c : MoveClass) (s : State) : State :=
  modRun o.group
    (fun r => { r with remaining := s.remaining o p c, skew := if o.group = .lift then s.skew else 0 }) s

/-- Step 3 (R23, R52, R139): the interlock entries, then the stop state. -/
def examineMoving (o : Order) (s : State) : State :=
  let s :=
    match s.askInterlock o with
    | none => s
    | some e =>
      let s := s.modOrder o.number fun o => { o with blocking := e }
      match s.lossAction e with
      | .stopWait => toStopping o.number .block none none s
      | .stopFail => stopFailed o.number .interlockLost s
  if s.isObstructed o.group then immediateEnd o.group .obstructed s else s

/-- Step 5 (R95 to R97, R99): the run after the demand is computed and the stall condition examined. -/
def Run.demandStep (r : ProfileRec) (o : Order) (c : MoveClass) (s : State) (x : Run) : Run :=
  let cap := capDemand (r.classDemand o.speed) x.share
  let base := if o.kind = .home then cap else baseDemand r.fMin cap (approachDemand r.kApp x.remaining)
  let cmd := rampTo r.ramp x.fCmd base
  { x with fBase := base, fCmd := cmd,
           stall := if s.stallCondition r c cmd then x.stall + Config.controlInterval else 0 }

/-- R99: the phase has stalled: it ends FAILED STALL, and STALL is raised for each stalling axis, LK before LR (assumption
39). -/
def stallEnd (g : Group) (c : MoveClass) (s : State) : State :=
  (s.stallingAxes c).foldl (fun s a => raiseFaultOnce .stall (.axis a) s) (immediateEnd g .stall s)

/-- R26: the end of a stop. -/
def stopEnd (o : Order) (s : State) : State :=
  let s := sendDemands ((o.group.channels.filter fun c => decide (c.val < 10)).map fun c => (c, 0)) s
  let s := endRun o.group (withdraw o.number s)
  let clearOutcome := fun (st : OrderState) (o : Order) => { o with state := st, outcome := none }
  match o.outcome, s.inhibited o with
  | some .block, true | some .pause, true => endOrder o .failed (some .inhibited) s
  | some .block, false =>
    setOrder o.number (clearOutcome .blocked)
      (s.modCtl o.group fun c => { c with block := some (s.timing (·.block)) })
  | some .pause, false =>
    let s := setOrder o.number (clearOutcome .paused) s
    match s.bindingOk o, o.phase? with
    | true, some p => gateInterlock o p s
    | _, _ => s.modCtl o.group fun c => { c with hold := some (s.timing (·.hold)) }
  | some .arrived, _ | some .finish, _ | none, _ => enterSettling o id s

/-- Steps 6 to 8 (R98, R105, R26): the stop step, the demands, the end of the stop. -/
def finishInterval (r : ProfileRec) (p : Phase) (c : MoveClass) (g : Group) (s : State) : State :=
  match s.active? g, s.run? g with
  | some o, some x =>
    let stopping := decide (o.state = .stopping)
    let cmd := if stopping then stopStep r.stop x.fCmd else x.fCmd
    let d := s.phaseDemands r p c cmd
    let s := sendDemands d.1 (s.setRun g (some { x with fCmd := cmd, correction := d.2, demands := d.1 }))
    if stopping ∧ cmd = 0 then stopEnd o s else s
  | _, _ => s

/-- Steps 4 and 5: arrival, else the demand and the stall. The answer says whether the interval goes on at step 6. -/
def moveOn (r : ProfileRec) (p : Phase) (c : MoveClass) (o : Order) (s : State) : State × Bool :=
  if s.arrived o p c then (toStopping o.number .arrived none none s, true)
  else
    match s.run? o.group with
    | none => (s, false)
    | some x =>
      let x' := x.demandStep r o c s
      let s := s.setRun o.group (some x')
      if x'.stall ≠ 0 ∧ r.stallTime ≤ x'.stall then (stallEnd o.group c s, false) else (s, true)

/-- Steps 3 to 8, after the skew supervision. -/
def intervalBody (r : ProfileRec) (p : Phase) (c : MoveClass) (g : Group) (s : State) : State :=
  match s.active? g with
  | none => s
  | some o =>
    if o.state = .moving then
      let s := examineMoving o s
      match s.active? g with
      | none => s
      | some o =>
        match o.state with
        | .moving =>
          let x := moveOn r p c o s
          if x.2 then finishInterval r p c g x.1 else x.1
        | .stopping => finishInterval r p c g s
        | .queued | .blocked | .holdWait | .claiming | .paused | .settling | .ended => s
    else finishInterval r p c g s

/-- R92: the control interval of a group whose active order o holds a run. -/
def motionInterval (o : Order) (p : Phase) (c : MoveClass) (r : ProfileRec) (x : Run) (s : State) : State :=
  if p.sync ∧ r.skewStop < s.skew.natAbs then skewEnd s
  else
    let s := if p.sync then superviseSkew r x s else s
    intervalBody r p c o.group (readPositions o p c s)

/-- R17: the interval of a BLOCKED order. One that only the stop input still blocks keeps the blocking entry it had
(assumption 40). -/
def blockedInterval (o : Order) (s : State) : State :=
  match s.askInterlock o, o.phase? with
  | some e, _ => s.modOrder o.number fun o => { o with blocking := e }
  | none, some p => if s.isObstructed o.group then s else gateBinding o p s
  | none, none => s

/-- R20: the interval of an order in HOLD_WAIT or CLAIMING. -/
def waitingInterval (o : Order) (s : State) : State :=
  match s.askInterlock o with
  | some e => enterBlocked o e (withdraw o.number s)
  | none => if s.isObstructed o.group then enterBlocked o 0 (withdraw o.number s) else s

/-- R1, R50, R92: a control interval of a group. -/
def interval (g : Group) (s : State) : State :=
  let s := s.modCtl g fun c => { c with interval := Config.controlInterval }
  match s.active? g with
  | none => s
  | some o =>
    match o.state with
    | .blocked => blockedInterval o s
    | .holdWait | .claiming => waitingInterval o s
    | .moving | .stopping =>
      match o.phase?, o.cls?, s.run? g with
      | some p, some c, some x =>
        match s.profile? c.profile with
        | some r => motionInterval o p c r x s
        | none => s
      | _, _, _ => s
    | .queued | .paused | .settling | .ended => s

end Sys2Proof.Machine
end

