-- ==== Sys2Proof/Machine/Operands.lean ====
section
/-! DEFINITION. The operands of a request: how its fields stand in its payload (R189, Tables 11-4, 11-6, 11-6a), the range of
each field and the first one outside it (R173, R10), and the record that the fields make. -/

namespace Sys2Proof

namespace Machine

/-! ### Replies (R186) -/

/-- The refusal reasons, in the order of R186. -/
inductive Why where
  | length | unknownKind | field | locked | notLocked | notFitted | tableFull | noSuchOrder | endedAlready | notEnded
  | inhibited | resetting | stopped | notReferenced | holdRequired | busy | notIdle
deriving DecidableEq, Repr

/-- What the owner of a request answers: DONE with a payload, or REFUSED with a reason and three details. -/
inductive Reply where
  | done (payload : List Byte)
  | refused (why : Why) (d1 d2 d3 : Nat)
deriving DecidableEq, Repr

/-- A refusal whose details are 0. -/
def Reply.no (w : Why) : Reply := .refused w 0 0 0

/-- A refusal FIELD with the number of the field. -/
def Reply.badField (n : Nat) : Reply := .refused .field n 0 0

/-- DONE with an empty payload. -/
def Reply.ok : Reply := .done []

/-! ### Request kinds (Table 11-6) -/

/-- Table 11-6. -/
inductive ReqKind where
  | fitEquipment | fitAxis | fitChannel | fitFlow | fitProfile | fitTiming | fitPolicy | fitInterlock | fitLamps
  | fitPattern | fitScene | fitRead | fitLock | submit | cancel | retire | queryOrder | queryTable | vehicle | queryAxes
  | queryStatus | queryFaults | clearFaults | groupReset | stopReset | prove | queryProve | beaconOverride | setOutput
  | standby
deriving DecidableEq, Repr

/-- Table 11-6, the code of a kind. -/
def ReqKind.code : ReqKind → Byte
  | .fitEquipment => 0x01 | .fitAxis => 0x02 | .fitChannel => 0x03 | .fitFlow => 0x04 | .fitProfile => 0x05
  | .fitTiming => 0x06 | .fitPolicy => 0x07 | .fitInterlock => 0x08 | .fitLamps => 0x09 | .fitPattern => 0x0A
  | .fitScene => 0x0B | .fitRead => 0x0C | .fitLock => 0x0D | .submit => 0x10 | .cancel => 0x11 | .retire => 0x12
  | .queryOrder => 0x13 | .queryTable => 0x14 | .vehicle => 0x20 | .queryAxes => 0x21 | .queryStatus => 0x22
  | .queryFaults => 0x23 | .clearFaults => 0x24 | .groupReset => 0x25 | .stopReset => 0x26 | .prove => 0x27
  | .queryProve => 0x28 | .beaconOverride => 0x29 | .setOutput => 0x2A | .standby => 0x2B

/-- The rows of Table 11-6. -/
def ReqKind.all : List ReqKind :=
  [.fitEquipment, .fitAxis, .fitChannel, .fitFlow, .fitProfile, .fitTiming, .fitPolicy, .fitInterlock, .fitLamps,
   .fitPattern, .fitScene, .fitRead, .fitLock, .submit, .cancel, .retire, .queryOrder, .queryTable, .vehicle, .queryAxes,
   .queryStatus, .queryFaults, .clearFaults, .groupReset, .stopReset, .prove, .queryProve, .beaconOverride, .setOutput,
   .standby]

/-- R185: the kind that a KIND byte names. -/
def ReqKind.ofCode? (b : Byte) : Option ReqKind := ReqKind.all.find? fun k => k.code == b

/-- Table 11-6, R185: the payload length of a kind; for the two kinds with a list it is computed from the count field, and
none says that the payload is too short to hold that field. -/
def ReqKind.length? (k : ReqKind) (p : List Byte) : Option Nat :=
  match k with
  | .fitEquipment => some 3 | .fitAxis => some 43 | .fitChannel => some 15 | .fitFlow => some 11 | .fitProfile => some 53
  | .fitTiming => some 13 | .fitPolicy => some 20
  | .fitInterlock => p[3]?.map fun n => 4 + 11 * n.toNat
  | .fitLamps => some 6
  | .fitPattern => p[2]?.map fun n => 3 + 2 * n.toNat
  | .fitScene => some 11 | .fitRead => some 2 | .fitLock => some 0 | .submit => some 11 | .cancel => some 2
  | .retire => some 2 | .queryOrder => some 2 | .queryTable => some 0 | .vehicle => some 10 | .queryAxes => some 0
  | .queryStatus => some 1 | .queryFaults => some 0 | .clearFaults => some 0 | .groupReset => some 1
  | .stopReset => some 0 | .prove => some 0 | .queryProve => some 0 | .beaconOverride => some 6 | .setOutput => some 2
  | .standby => some 0

/-- R185: the payload has the length of its kind. -/
def ReqKind.lengthOk (k : ReqKind) (p : List Byte) : Bool := k.length? p == some p.length

/-! ### Reading a payload (R189) -/

/-- The byte at an offset of a payload whose length has been checked. -/
def at8 (p : List Byte) (i : Nat) : Byte := p.getD i 0

/-- A little-endian two-byte field. -/
def at16 (p : List Byte) (i : Nat) : U16 := at8 p (i + 1) ++ at8 p i

/-- A little-endian four-byte field. -/
def at32 (p : List Byte) (i : Nat) : U32 := at16 p (i + 2) ++ at16 p i

/-- Table 10-2. -/
def readEquipment (p : List Byte) : EquipmentReq := ⟨at8 p 0, at8 p 1, at8 p 2⟩

/-- Table 4-1. -/
def readAxis (p : List Byte) : AxisReq :=
  { axis := at8 p 0, n := at16 p 1, num := at16 p 3, den := at16 p 5, home := at32 p 7, softLower := at32 p 11,
    softUpper := at32 p 15, arrival := at32 p 19, homeWindow := at32 p 23, driftLimit := at32 p 27, openPos := at32 p 31,
    closedWindow := at32 p 35, stowWindow := at32 p 39 }

/-- Table 6-1. -/
def readChannel (p : List Byte) : ChannelReq :=
  { channel := at8 p 0, period := at16 p 1, lo := at16 p 3, hi := at16 p 5, width := at16 p 7, dead := at16 p 9,
    openThr := at16 p 11, shortThr := at16 p 13 }

/-- Table 3-1. -/
def readFlow (p : List Byte) : FlowReq :=
  { capacity := at8 p 0, cold := at8 p 1, threshold := at16 p 2, liftUp := at8 p 4, tilt := at8 p 5, shutterUp := at8 p 6,
    start := at16 p 7, runOn := at16 p 9 }

/-- Table 5-1. -/
def readProfile (p : List Byte) : ProfileReq :=
  { profile := at8 p 0, creep := at16 p 1, normal := at16 p 3, fast := at16 p 5, fMin := at16 p 7, kApp := at16 p 9,
    ramp := at16 p 11, stop := at16 p 13, stallSpeed := at32 p 15, stallTime := at16 p 19, settle := at16 p 21,
    limits := #v[at8 p 23, at8 p 24, at8 p 25, at8 p 26, at8 p 27, at8 p 28], kSync := at16 p 29, cMax := at16 p 31,
    deadband := at16 p 33, skewWarn := at32 p 35, skewStop := at32 p 39, bed := at32 p 43, level := at32 p 47,
    tiltPerTenth := at16 p 51 }

/-- Table 10-3. -/
def readTiming (p : List Byte) : TimingReq :=
  { hold := at16 p 0, block := at16 p 2, twoHand := at16 p 4, debounce := at8 p 6, release := at16 p 7, status := at16 p 9,
    latchCheck := at16 p 11 }

/-- Table 7-3. -/
def readPolicy (p : List Byte) : PolicyReq :=
  { bindings := #v[at8 p 0, at8 p 1, at8 p 2, at8 p 3, at8 p 4, at8 p 5, at8 p 6, at8 p 7],
    slots := #v[(at8 p 8, at8 p 9), (at8 p 10, at8 p 11), (at8 p 12, at8 p 13), (at8 p 14, at8 p 15),
                (at8 p 16, at8 p 17), (at8 p 18, at8 p 19)] }

/-- Table 2-4. -/
def readTerm (p : List Byte) (i : Nat) : TermReq :=
  { kind := at8 p i, negated := at8 p (i + 1), item := at8 p (i + 2), value := at32 p (i + 3), upper := at32 p (i + 7) }

/-- Table 2-3. -/
def readInterlock (p : List Byte) : InterlockReq :=
  { entry := at8 p 0, subject := at8 p 1, loss := at8 p 2, count := at8 p 3,
    terms := (List.range (at8 p 3).toNat).map fun k => readTerm p (4 + 11 * k) }

/-- Table 8-3. -/
def readLamps (p : List Byte) : LampsReq := ⟨#v[at8 p 0, at8 p 1, at8 p 2], #v[at8 p 3, at8 p 4, at8 p 5]⟩

/-- Table 8-1. -/
def readPattern (p : List Byte) : PatternReq :=
  { pattern := at8 p 0, repeats := at8 p 1, count := at8 p 2,
    steps := (List.range (at8 p 2).toNat).map fun k => (at8 p (3 + 2 * k), at8 p (4 + 2 * k)) }

/-- Table 8-4. -/
def readScene (p : List Byte) : SceneReq :=
  { scene := at8 p 0, priority := at8 p 1,
    claims := #v[⟨at8 p 2, at8 p 3, at8 p 4⟩, ⟨at8 p 5, at8 p 6, at8 p 7⟩, ⟨at8 p 8, at8 p 9, at8 p 10⟩] }

/-- Table 11-4. -/
def readSubmit (p : List Byte) : SubmitReq :=
  { kind := at8 p 0, side := at8 p 1, form := at8 p 2, target := at32 p 3, speed := at8 p 7, bindKind := at8 p 8,
    bindInput := at8 p 9, limit := at8 p 10 }

/-- Table 11-6a. -/
def readVehicle (p : List Byte) : VehicleReq :=
  { brake := at8 p 0, speed := at16 p 1, oil := at16 p 3, pitch := at16 p 5, roll := at16 p 7, night := at8 p 9 }

/-- Table 8-6. -/
def readOverride (p : List Byte) : OverrideReq :=
  { pair := at8 p 0, action := at8 p 1, pattern := at8 p 2, invert := at8 p 3, duration := at16 p 4 }

/-! ### Ranges -/

/-- The number, from 1, of the first field whose check fails. -/
def firstBad (checks : List Bool) : Option Nat := (checks.findIdx? fun b => !b).map (· + 1)

/-- A flag of two values is coded 0 or 1 (R189). -/
def isFlag (b : Byte) : Bool := decide (b.toNat < 2)

/-- A flag's value. -/
def flagOf (b : Byte) : Bool := b == 1

/-- A number of a range lo to hi. -/
def inRange (lo hi n : Nat) : Bool := decide (lo ≤ n) && decide (n ≤ hi)

/-- Table 4-1: a position, −100,000 to 3,000,000 µm. -/
def isPosition (x : U32) : Bool := decide (-100000 ≤ x.toInt) && decide (x.toInt ≤ 3000000)

/-! ### Coded names (R189, R190) -/

/-- The order kinds, in the order of Table 1-3. -/
def OrderKind.all : List OrderKind := [.raiseTo, .lowerTo, .tiltTo, .deploy, .stow, .home, .openShutter, .closeShutter]

/-- The binding kinds, in rank order. -/
def BindKind.all : List BindKind := [.none, .edge, .level, .twoHand]

/-- R11: the rank of a binding kind. -/
def BindKind.rank : BindKind → Nat
  | .none => 0 | .edge => 1 | .level => 2 | .twoHand => 3

/-- The speed classes, in the order of Table 1-3. -/
def SpeedClass.all : List SpeedClass := [.creep, .normal, .fast]

/-- The profiles, in the order of Table 5-1. -/
def Profile.all : List Profile := [.lift, .tilt, .shutter]

/-- The term kinds, in the order of Table 2-4. -/
def TermKind.all : List TermKind :=
  [.brakeApplied, .speedZero, .statusFresh, .night, .rollWithin, .pitchWithin, .axisIn, .axisReferenced, .groupIdle,
   .input, .lampsHealthy, .proven]

/-- The pair modes, in the order of Table 8-3. -/
def PairMode.all : List PairMode := [.mirror, .alternate, .single]

/-- The brake states, in the order of Table 2-1. -/
def Brake.all : List Brake := [.applied, .released, .unknown]

/-- Table 2-4: the items, in the order listed there (assumption 12). -/
def Item.all : List Item :=
  [.axis .lk, .axis .lr, .axis .tl, .axis .sk, .axis .sr, .group .lift, .group .kerb, .group .road,
   .input 0, .input 1, .input 2, .input 3, .input 4, .input 5, .input 6, .input 7,
   .pair .rear, .pair .side, .pair .flag, .none]

/-- The value that a code names in a list of values. -/
def coded {α : Type} (all : List α) (b : Byte) : Option α := all[b.toNat]?

/-- The code of a value: its place in the list. -/
def codeIn {α : Type} [DecidableEq α] (all : List α) (x : α) : Nat := all.findIdx fun y => decide (y = x)

end Machine

open Machine

/-! ### Fitment records from requests -/

/-- Table 10-2. -/
def EquipmentReq.checks (r : EquipmentReq) : List Bool := [isFlag r.lift, isFlag r.kerb, isFlag r.road]

/-- The record of a request whose fields are in range. -/
def EquipmentReq.record (r : EquipmentReq) : EquipmentRec := ⟨flagOf r.lift, flagOf r.kerb, flagOf r.road⟩

/-- Table 4-1; NUM not below DEN is outside the range of NUM (R70). -/
def AxisReq.checks (r : AxisReq) : List Bool :=
  [(coded Axis.all r.axis).isSome, inRange 1 4095 r.n.toNat, decide (r.num.toNat < r.den.toNat),
   inRange 1 65535 r.den.toNat, isPosition r.home, isPosition r.softLower, isPosition r.softUpper,
   inRange 10 50000 r.arrival.toNat, inRange 500 50000 r.homeWindow.toNat, inRange 100 50000 r.driftLimit.toNat,
   isPosition r.openPos, inRange 0 100000 r.closedWindow.toNat, inRange 0 100000 r.stowWindow.toNat]

/-- The record of a request whose fields are in range. -/
def AxisReq.record (r : AxisReq) : AxisRec :=
  { n := r.n.toNat, num := r.num.toNat, den := r.den.toNat, home := r.home.toInt, softLower := r.softLower.toInt,
    softUpper := r.softUpper.toInt, arrival := r.arrival.toNat, homeWindow := r.homeWindow.toNat,
    driftLimit := r.driftLimit.toNat, openPos := r.openPos.toInt, closedWindow := r.closedWindow.toNat,
    stowWindow := r.stowWindow.toNat }

/-- Table 6-1. -/
def ChannelReq.checks (r : ChannelReq) : List Bool :=
  [decide (r.channel.toNat < 12), inRange 250 10000 r.period.toNat, inRange 0 999 r.lo.toNat, inRange 1 1000 r.hi.toNat,
   inRange 50 2000 r.width.toNat, inRange 20 500 r.dead.toNat, inRange 10 1000 r.openThr.toNat,
   inRange 200 8000 r.shortThr.toNat]

/-- The record of a request whose fields are in range. -/
def ChannelReq.record (r : ChannelReq) : ChannelRec :=
  { period := r.period.toNat, lo := r.lo.toNat, hi := r.hi.toNat, width := r.width.toNat, dead := r.dead.toNat,
    openThr := r.openThr.toNat, shortThr := r.shortThr.toNat }

/-- Table 3-1; that C_cold is not above C is checked at FIT_LOCK alone (assumption 20). -/
def FlowReq.checks (r : FlowReq) : List Bool :=
  [inRange 1 255 r.capacity.toNat, inRange 1 255 r.cold.toNat,
   decide (-40 ≤ r.threshold.toInt) && decide (r.threshold.toInt ≤ 150), inRange 1 255 r.liftUp.toNat,
   inRange 1 255 r.tilt.toNat, inRange 1 255 r.shutterUp.toNat, inRange 100 2000 r.start.toNat,
   inRange 0 5000 r.runOn.toNat]

/-- The record of a request whose fields are in range. -/
def FlowReq.record (r : FlowReq) : FlowRec :=
  { capacity := r.capacity.toNat, cold := r.cold.toNat, threshold := r.threshold.toInt, liftUp := r.liftUp.toNat,
    tilt := r.tilt.toNat, shutterUp := r.shutterUp.toNat, start := r.start.toNat, runOn := r.runOn.toNat }

/-- Table 5-1. -/
def ProfileReq.checks (r : ProfileReq) : List Bool :=
  [(coded Profile.all r.profile).isSome, inRange 1 1000 r.creep.toNat, inRange 1 1000 r.normal.toNat,
   inRange 1 1000 r.fast.toNat, inRange 1 1000 r.fMin.toNat, inRange 1 1000 r.kApp.toNat, inRange 1 1000 r.ramp.toNat,
   inRange 1 1000 r.stop.toNat, inRange 0 50000 r.stallSpeed.toNat, inRange 100 10000 r.stallTime.toNat,
   inRange 0 2000 r.settle.toNat, r.limits.toList.all fun b => inRange 1 255 b.toNat, inRange 0 1000 r.kSync.toNat,
   inRange 0 500 r.cMax.toNat, inRange 0 5000 r.deadband.toNat, inRange 1000 50000 r.skewWarn.toNat,
   inRange 1001 100000 r.skewStop.toNat, isPosition r.bed, isPosition r.level,
   decide (-5000 ≤ r.tiltPerTenth.toInt) && decide (r.tiltPerTenth.toInt ≤ 5000)]

/-- The record of a request whose fields are in range. -/
def ProfileReq.record (r : ProfileReq) : ProfileRec :=
  { creep := r.creep.toNat, normal := r.normal.toNat, fast := r.fast.toNat, fMin := r.fMin.toNat, kApp := r.kApp.toNat,
    ramp := r.ramp.toNat, stop := r.stop.toNat, stallSpeed := r.stallSpeed.toNat, stallTime := r.stallTime.toNat,
    settle := r.settle.toNat, limits := mapTable (·.toNat) r.limits, kSync := r.kSync.toNat, cMax := r.cMax.toNat,
    deadband := r.deadband.toNat, skewWarn := r.skewWarn.toNat, skewStop := r.skewStop.toNat, bed := r.bed.toInt,
    level := r.level.toInt, tiltPerTenth := r.tiltPerTenth.toInt }

/-- Table 10-3. -/
def TimingReq.checks (r : TimingReq) : List Bool :=
  [inRange 500 30000 r.hold.toNat, inRange 500 60000 r.block.toNat, inRange 100 1000 r.twoHand.toNat,
   inRange 5 100 r.debounce.toNat, inRange 100 2000 r.release.toNat, inRange 200 2000 r.status.toNat,
   inRange 100 5000 r.latchCheck.toNat]

/-- The record of a request whose fields are in range. -/
def TimingReq.record (r : TimingReq) : TimingRec :=
  { hold := r.hold.toNat, block := r.block.toNat, twoHand := r.twoHand.toNat, debounce := r.debounce.toNat,
    release := r.release.toNat, status := r.status.toNat, latchCheck := r.latchCheck.toNat }

/-- Table 7-3: a stop input slot names NONE (0) or G1 to G8 (1 to 8), and a polarity. -/
def slotOk (x : Byte × Byte) : Bool := decide (x.1.toNat ≤ 8) && isFlag x.2

/-- Table 7-3, R138: each binding and each slot is one field. -/
def PolicyReq.checks (r : PolicyReq) : List Bool :=
  (r.bindings.toList.map fun b => (coded BindKind.all b).isSome) ++ r.slots.toList.map slotOk

/-- The slot of a pair of codes; polarity INACTIVE is 0 and ACTIVE 1 (R189). -/
def slotOf (x : Byte × Byte) : StopSlot :=
  ⟨if h : 1 ≤ x.1.toNat ∧ x.1.toNat ≤ 8 then some ⟨x.1.toNat - 1, by omega⟩ else none, flagOf x.2⟩

/-- The record of a request whose fields are in range. -/
def PolicyReq.record (r : PolicyReq) : PolicyRec :=
  ⟨mapTable (fun b => (coded BindKind.all b).getD .none) r.bindings, mapTable slotOf r.slots⟩

/-- Table 2-4: the range of a term's value field, which goes by the term's kind. -/
def termValueOk (k : Option TermKind) (x : U32) : Bool :=
  match k with
  | some .rollWithin | some .pitchWithin => inRange 0 300 x.toNat
  | some .axisIn => isPosition x
  | _ => x == 0

/-- Table 2-4: the range of a term's upper field, which goes by the term's kind. -/
def termUpperOk (k : Option TermKind) (x : U32) : Bool := if k = some .axisIn then isPosition x else x == 0

/-- Table 2-4. -/
def TermReq.checks (r : TermReq) : List Bool :=
  let k := coded TermKind.all r.kind
  [k.isSome, isFlag r.negated, (coded Item.all r.item).isSome, termValueOk k r.value, termUpperOk k r.upper]

/-- The term of a request whose fields are in range. -/
def TermReq.record (r : TermReq) : Term :=
  { kind := (coded TermKind.all r.kind).getD .proven, negated := flagOf r.negated, item := (coded Item.all r.item).getD .none,
    value := r.value.toInt, upper := r.upper.toInt }

/-- Tables 2-3 and 2-4; the fields of term k follow as 5 + 5k to 9 + 5k. -/
def InterlockReq.checks (r : InterlockReq) : List Bool :=
  [inRange 1 24 r.entry.toNat, decide (r.subject.toNat ≤ 8), isFlag r.loss, inRange 1 6 r.count.toNat] ++
    (r.terms.map TermReq.checks).flatten

/-- The record of a request whose fields are in range; subject ANY is coded 8, STOP_WAIT 0 and STOP_FAIL 1. -/
def InterlockReq.record (r : InterlockReq) : InterlockRec :=
  { subject := coded MoveClass.all r.subject, loss := if r.loss == 1 then .stopFail else .stopWait,
    terms := r.terms.map TermReq.record }

/-- Table 8-3. -/
def LampsReq.checks (r : LampsReq) : List Bool :=
  (r.modes.toList.map fun b => (coded PairMode.all b).isSome) ++ r.discrete.toList.map isFlag

/-- The record of a request whose fields are in range. -/
def LampsReq.record (r : LampsReq) : LampsRec :=
  ⟨mapTable (fun b => (coded PairMode.all b).getD .mirror) r.modes, mapTable flagOf r.discrete⟩

/-- Table 8-1, R145: the lit flag of step k is field 4 + 2k, its duration field 5 + 2k. -/
def PatternReq.checks (r : PatternReq) : List Bool :=
  [inRange 1 8 r.pattern.toNat, true, inRange 1 12 r.count.toNat] ++
    (r.steps.map fun x => [isFlag x.1, inRange 1 250 x.2.toNat]).flatten

/-- The record of a request whose fields are in range. -/
def PatternReq.record (r : PatternReq) : PatternRec :=
  ⟨r.repeats.toNat, r.steps.map fun x => ⟨flagOf x.1, x.2.toNat⟩⟩

/-- Table 8-4, R150: scene, priority, then claim, pattern and invert of each pair. -/
def SceneReq.checks (r : SceneReq) : List Bool :=
  [inRange 1 8 r.scene.toNat, inRange 1 15 r.priority.toNat] ++
    (r.claims.toList.map fun c => [isFlag c.claim, decide (c.pattern.toNat ≤ 8), isFlag c.invert]).flatten

/-- The record of a request whose fields are in range. -/
def SceneReq.record (r : SceneReq) : SceneRec :=
  ⟨r.priority.toNat, mapTable (fun c => ⟨flagOf c.claim, c.pattern.toNat, flagOf c.invert⟩) r.claims⟩

/-! ### Orders (Table 1-4, R10) -/

/-- R10: the kind of a SUBMIT. -/
def SubmitReq.kind? (r : SubmitReq) : Option OrderKind := coded OrderKind.all r.kind

/-- A shutter kind needs side KERB (1) or ROAD (2), a LIFT kind side NONE (0). -/
def SubmitReq.sideOk (r : SubmitReq) : Bool :=
  match r.kind? with
  | some .openShutter | some .closeShutter => r.side == 1 || r.side == 2
  | _ => r.side == 0

/-- The target form that each kind allows: NONE 0, POSITION 1, LEVEL 2. -/
def SubmitReq.formOk (r : SubmitReq) : Bool :=
  match r.kind? with
  | some .raiseTo | some .lowerTo => r.form == 1
  | some .tiltTo => r.form == 1 || r.form == 2
  | _ => r.form == 0

/-- Table 11-4: the binding of a binding kind and its input, if the two suit. -/
def SubmitReq.binding? (r : SubmitReq) : Option Binding :=
  match coded BindKind.all r.bindKind with
  | some .none => if r.bindInput = 6 then some .none else none
  | some .edge => if h : r.bindInput.toNat < 4 then some (.edge ⟨r.bindInput.toNat, h⟩) else none
  | some .level => if h : r.bindInput.toNat < 4 then some (.level ⟨r.bindInput.toNat, h⟩) else none
  | some .twoHand => if r.bindInput = 4 then some (.twoHand 0) else if r.bindInput = 5 then some (.twoHand 1) else none
  | none => none

/-- Table 1-4, R10. -/
def SubmitReq.checks (r : SubmitReq) : List Bool :=
  [r.kind?.isSome, r.sideOk, r.formOk, if r.form = 1 then isPosition r.target else r.target == 0,
   (coded SpeedClass.all r.speed).isSome, (coded BindKind.all r.bindKind).isSome, r.binding?.isSome, true]

/-- Table 1-1: the group of the order. -/
def SubmitReq.group (r : SubmitReq) : Group :=
  match r.kind? with
  | some .openShutter | some .closeShutter => if r.side = 2 then .road else .kerb
  | _ => .lift

/-! ### The other requests -/

/-- R37: of VEHICLE the brake (field 1) and night (field 6) are checked; the numbers are clamped. -/
def VehicleReq.checks (r : VehicleReq) : List Bool :=
  [(coded Brake.all r.brake).isSome, true, true, true, true, isFlag r.night]

/-- Table 8-6, R154: SET is coded 0 and RELEASE 1; a RELEASE's other fields are not checked. -/
def OverrideReq.checks (r : OverrideReq) : List Bool :=
  [(coded LampPair.all r.pair).isSome, isFlag r.action] ++
    if r.action = 0 then [decide (r.pattern.toNat ≤ 8), isFlag r.invert, inRange 0 3600 r.duration.toNat] else []

end Sys2Proof
end

