-- ==== Sys2Proof/Machine/Encode.lean ====
section
/-! DEFINITION. The payloads that the part sends (R189 to R191): the order report and the summaries, the axis, fault and proving
reports, the status sections, the fitment records read back, and the notices. -/

namespace Sys2Proof.Machine

/-! ### Fields (R189) -/

/-- A one-byte number. -/
def b8 (n : Nat) : List Byte := [BitVec.ofNat 8 n]

/-- A two-byte number, little-endian. -/
def b16 (n : Nat) : List Byte := [BitVec.ofNat 8 n, BitVec.ofNat 8 (n / 256)]

/-- A four-byte number, little-endian. -/
def b32 (n : Nat) : List Byte := b16 n ++ b16 (n / 65536)

/-- A signed two-byte number, two's complement. -/
def bs16 (x : Int) : List Byte := b16 (BitVec.ofInt 16 x).toNat

/-- A signed four-byte number, two's complement. -/
def bs32 (x : Int) : List Byte := b32 (BitVec.ofInt 32 x).toNat

/-- A flag of two values. -/
def bFlag (b : Bool) : List Byte := if b then [1] else [0]

/-- The time counter. -/
def bTime (t : U32) : List Byte := b32 t.toNat

/-- An optional field: its presence marker, then the field, 0 when absent. -/
def bOpt {α : Type} (f : α → List Byte) (width : Nat) : Option α → List Byte
  | some x => 1 :: f x
  | none => 0 :: List.replicate width 0

/-- An enumerated field: its place in the list of values. -/
def bCode {α : Type} [DecidableEq α] (all : List α) (x : α) : List Byte := b8 (codeIn all x)

/-! ### Lists of values not needed to read requests -/

/-- Table 1-6 order. -/
def OrderState.all : List OrderState :=
  [.queued, .blocked, .holdWait, .claiming, .moving, .stopping, .paused, .settling, .ended]

/-- Table 1-3 order. -/
def StopOutcome.all : List StopOutcome := [.arrived, .block, .pause, .finish]

/-- R190 order. -/
def OrderResult.all : List OrderResult := [.completed, .cancelled, .aborted, .failed]

/-- R190 order. -/
def Reason.all : List Reason :=
  [.estop, .groupReset, .inhibited, .interlock, .interlockLost, .holdTimeout, .timeout, .skew, .stall, .limit,
   .obstructed, .coil, .pump, .latch]

/-- Table 1-2 order. -/
def PhaseKind.all : List PhaseKind := [.pumped, .gravity, .pulse, .check]

/-- Table 1-2 order. -/
def Ending.all : List Ending := [.target, .switch, .pulseDone, .sense]

/-- Table 3-3 order. -/
def PumpState.all : List PumpState := [.off, .starting, .running, .runOn]

/-- Table 4-2 order. -/
def Sense.all : List Sense := [.towardHome, .stationary, .away]

/-- Table 5-3 order. -/
def SkewState.all : List SkewState := [.none, .normal, .warned]

/-- Table 6-8 order. -/
def ChanState.all : List ChanState := [.idle, .running, .ending]

/-- Table 6-7 order. -/
def ProveResult.all : List ProveResult := [.none, .running, .passed, .failed, .abandoned]

/-- Table 6-7 order. -/
def ChanResult.all : List ChanResult := [.notTested, .pass, .open_, .short]

/-- Table 7-2 order. -/
def TwoHandState.all : List TwoHandState := [.released, .half, .held, .lockout]

/-- Table 7-4 order. -/
def EstopState.all : List EstopState := [.clear, .active, .held, .releasable]

/-- Table 8-2 order. -/
def PlayerCond.all : List PlayerCond := [.playing, .dark, .finished]

/-- Table 8-7 order. -/
def Health.all : List Health := [.untested, .healthy, .open_, .shorted]

/-- Table 9-2 order. -/
def FaultCode.all : List FaultCode :=
  [.coilOpen, .coilShort, .pumpNoStart, .pumpLost, .pumpStuck, .pressureRelief, .skew, .skewWarn, .stall,
   .referenceMismatch, .drift, .statusStale, .lampOpen, .lampShort, .latchFault, .provingFailed, .estop]

/-- Table 10-8a order. -/
def ResetCause.all : List ResetCause := [.powerOn, .enable, .lineBreak, .standbyExit]

/-! ### Orders (Tables 11-4 and 11-5) -/

/-- Table 11-4: a binding's kind and input; the input is H1 0 to H4 3, TH1 4, TH2 5, none 6. -/
def bBinding : Binding → List Byte
  | .none => [0, 6]
  | .edge h => 1 :: b8 h.val
  | .level h => 2 :: b8 h.val
  | .twoHand t => 3 :: b8 (4 + t.val)

/-- A movement class, none being 8. -/
def bClass : Option MoveClass → List Byte
  | some c => bCode MoveClass.all c
  | none => [8]

/-- A phase slot of Table 11-5. -/
def bPhase (p : Phase) : List Byte :=
  bCode PhaseKind.all p.kind ++ bClass p.cls ++ bs32 p.target ++ bCode Ending.all p.ending ++ bFlag p.sync

/-- The two phase slots, the second 0 when there is one phase. -/
def bPhases : List Phase → List Byte
  | [] => List.replicate 16 0
  | [p] => bPhase p ++ List.replicate 8 0
  | p :: q :: _ => bPhase p ++ bPhase q

/-- Table 11-5: the order report. -/
def orderReport (o : Order) : List Byte :=
  b16 o.number ++ bCode Group.all o.group ++ bCode OrderKind.all o.kind ++ bOpt bs32 4 o.target ++ bFlag o.level ++
    bFlag o.clamped ++ bCode SpeedClass.all o.speed ++ bBinding o.binding ++ bOpt b8 1 o.limit ++ b8 o.phases.length ++
    bPhases o.phases ++ b8 o.index ++ bCode OrderState.all o.state ++ bOpt (bCode StopOutcome.all) 1 o.outcome ++
    bOpt (bCode OrderResult.all) 1 o.pendResult ++ bOpt (bCode Reason.all) 1 o.pendReason ++ bFlag o.startedEdge ++
    b32 o.movingTime ++ bFlag o.uncompensated ++ b8 o.blocking ++ bTime o.submittedAt ++ bOpt bTime 4 o.endedAt ++
    bOpt (bCode OrderResult.all) 1 o.result ++ bOpt (bCode Reason.all) 1 o.reason ++ bOpt bs32 4 o.residual ++
    bFlag o.noticed

/-- R9: the summary of a record. -/
def orderSummary (o : Order) : List Byte :=
  b16 o.number ++ bCode Group.all o.group ++ bCode OrderKind.all o.kind ++ bCode OrderState.all o.state ++ b8 o.index ++
    bOpt (bCode OrderResult.all) 1 o.result

/-- R9: the summaries, preceded by their count. -/
def tableReport (os : List Order) : List Byte := b8 os.length ++ (os.map orderSummary).flatten

/-! ### Axes (Table 4-2) -/

/-- R74: the window presentation: NONE 0 for LK and LR, INSIDE 1, OUTSIDE 2. -/
def bWindow (a : Axis) (inside : Bool) : List Byte :=
  match a with
  | .lk | .lr => [0]
  | .tl | .sk | .sr => if inside then [1] else [2]

/-- Table 4-2. -/
def axisReport (s : State) (a : Axis) : List Byte :=
  let t := s.tracker a
  bFlag (s.axisRec? a).isSome ++ bFlag t.referenced ++ bs32 t.pos ++ b16 t.rem ++ bs32 t.speed ++
    bCode Sense.all t.sense ++ bFlag t.home ++ bWindow a t.inside ++ bFlag t.parked.isSome ++ bs32 (t.parked.getD 0)

/-- R83. -/
def axesReport (s : State) : List Byte := (Axis.all.map (axisReport s)).flatten

/-! ### Faults (Tables 9-1 and 9-3) -/

/-- R190: a subject's kind and item. -/
def bSubject : Subject → List Byte
  | .none => [0, 0]
  | .axis a => 1 :: bCode Axis.all a
  | .channel c => 2 :: b8 c.val
  | .group g => 3 :: bCode Group.all g
  | .lamp l => 4 :: bCode Lamp.all l

/-- The four inhibit names, LIFT, KERB, ROAD, PUMPED. -/
def bInhibits (i : Inhibits) : List Byte := bFlag i.lift ++ bFlag i.kerb ++ bFlag i.road ++ bFlag i.pumped

/-- Table 9-1; ACTIVE 0, LATCHED 1; STOP 0, WARN 1. -/
def entryReport (e : Entry) : List Byte :=
  bCode FaultCode.all e.code ++ bSubject e.subject ++ (if e.active then [0] else [1]) ++
    (if e.code.isStop then [0] else [1]) ++ bTime e.firstSeen ++ bTime e.lastSeen ++ b8 e.count

/-- R169: the recovery states, READY 0 and RESETTING 1, and the times left. -/
def bRecovery (v : Vector Timer 3) : List Byte :=
  (v.toList.map fun t => bFlag t.isSome).flatten ++ (v.toList.map fun t => b16 t.left).flatten

/-- Table 9-3 without the entry count. -/
def faultSummary (t : FaultTable) : List Byte :=
  b8 t.activeCount ++ b8 t.latchedCount ++ bInhibits t.flags ++ bFlag t.overflow ++ bInhibits t.overflowInhibits

/-- R171. -/
def faultReport (t : FaultTable) : List Byte :=
  faultSummary t ++ bRecovery t.resetting ++ b8 t.entries.length ++ (t.entries.map entryReport).flatten

/-- R168: the reply to CLEAR_FAULTS, with the number of entries removed. -/
def clearReport (removed : Nat) (t : FaultTable) : List Byte := b8 removed ++ faultSummary t

/-! ### Proving record (Table 6-7) -/

/-- R130. -/
def proveReport (x : Prove) : List Byte :=
  bCode ProveResult.all x.overall ++ b8 x.failures ++ (x.results.toList.map (bCode ChanResult.all)).flatten ++
    bOpt bTime 4 x.startedAt ++ bOpt bTime 4 x.endedAt

/-! ### Status sections (R191) -/

/-- How many places of a table are present. -/
def presentCount {α : Type} (xs : List (Option α)) : Nat := (xs.filter (·.isSome)).length

/-- Table 10-8a. -/
def supplySection (s : State) : List Byte :=
  let f := s.fitment
  bFlag f.locked ++ bTime s.supply.time ++ bFlag s.supply.enable ++
    (b8 (presentCount [f.equipment]) ++ b8 (presentCount f.axes.toList) ++ b8 (presentCount f.channels.toList) ++
      b8 (presentCount [f.flow]) ++ b8 (presentCount f.profiles.toList) ++ b8 (presentCount [f.timing]) ++
      b8 (presentCount [f.policy]) ++ b8 (presentCount f.interlocks.toList) ++ b8 (presentCount [f.lamps]) ++
      b8 (presentCount f.patterns.toList) ++ b8 (presentCount f.scenes.toList)) ++
    bCode ResetCause.all s.supply.lastReset

/-- R41: the vehicle section; FRESH 0, STALE 1. -/
def vehicleSection (s : State) : List Byte :=
  let v := s.vehicle
  bCode Brake.all v.brake ++ b16 v.speed ++ bs16 v.oil ++ bs16 v.pitch ++ bs16 v.roll ++ bFlag v.night ++
    bFlag (!v.fresh) ++ bOpt bTime 4 v.acceptedAt

/-- Table 3-4, a granted claim. -/
def bGrant (c : Claim) : List Byte :=
  bCode Group.all c.group ++ b16 c.order ++ b8 c.demand ++ b8 (c.amount.getD 0) ++ b16 (c.share.getD 0) ++ bFlag c.ready

/-- Table 3-4, a waiting claim. -/
def bWaiting (c : Claim) : List Byte := bCode Group.all c.group ++ b16 c.order ++ b8 c.demand

/-- Table 3-4. -/
def flowSection (s : State) : List Byte :=
  let f := s.flow
  bCode PumpState.all f.pump ++ bFlag (s.level .prs) ++ bFlag (s.level .psw) ++ b8 f.capacity ++ bFlag f.cold ++
    b8 (grantedTotal f.granted) ++ b8 f.granted.length ++ (f.granted.map bGrant).flatten ++ b8 f.waiting.length ++
    (f.waiting.map bWaiting).flatten

/-- R107: the skew field of a group entry, its low 32 bits (assumption 35). -/
def bSkew (s : State) (g : Group) : List Byte := if g = .lift then bs32 s.skew else bs32 0

/-- Table 5-3, the run field: NONE 0, MOVING 1, STOPPING 2. -/
def bRunState (s : State) (g : Group) : List Byte :=
  if (s.active? g).any fun o => decide (o.state = .stopping) then [2] else [1]

/-- Table 5-3, a group entry. -/
def motionEntry (s : State) (g : Group) : List Byte :=
  match s.run? g with
  | none => bCode Group.all g ++ List.replicate 16 0 ++ bSkew s g ++ List.replicate 4 0
  | some r =>
    bCode Group.all g ++ bRunState s g ++ b16 r.order ++ b8 r.index ++ b16 r.share ++ b16 r.fBase ++ b16 r.fCmd ++
      b32 r.remaining ++ b16 r.stall ++ bSkew s g ++ b16 r.correction ++ bCode SkewState.all r.skewState ++
      b8 r.demands.length ++ (r.demands.map fun d => b8 d.1.val ++ b16 d.2).flatten

/-- R107. -/
def motionSection (s : State) : List Byte := (Group.all.map (motionEntry s)).flatten

/-- Table 6-8: the opening that waits for a channel: in its buffer, or as its pair's waiting command. -/
def State.buffered? (s : State) (c : Channel) : Option Nat :=
  (s.chan c).buffer.orElse fun _ =>
    (channelPair c).bind fun p =>
      (s.pair p).waiting.bind fun w => if w.1 = channelMember c then some w.2 else none

/-- Table 6-8, a channel entry. -/
def chanEntry (s : State) (c : Channel) : List Byte :=
  let x := s.chan c
  bCode ChanState.all x.state ++ b16 x.opening ++ b16 (if c.val < 10 ∧ x.state ≠ .idle then x.onTime else 0) ++
    b16 ((s.buffered? c).getD 0xFFFF) ++ b8 x.low ++ b16 x.pulse.left

/-- Table 6-8: NONE 0, EVEN 1, ODD 2. -/
def bMember : Option Member → List Byte
  | none => [0]
  | some .even => [1]
  | some .odd => [2]

/-- Table 6-8, a pair entry. -/
def pairEntry (x : Pair) : List Byte := b16 x.dead.left ++ bMember x.resumable ++ bMember (x.waiting.map (·.1))

/-- R131. -/
def driveSection (s : State) : List Byte :=
  (allChannels.map (chanEntry s)).flatten ++ (s.drive.pairs.toList.map pairEntry).flatten

/-- Table 7-5: debounced levels of several lines. -/
def bLevels (s : State) (ls : List Line) : List Byte := (ls.map fun l => bFlag (s.level l)).flatten

/-- Table 7-5. -/
def operatorSection (s : State) : List Byte :=
  bLevels s [.h 0, .h 1, .h 2, .h 3] ++ bLevels s [.g 0, .g 1, .g 2, .g 3, .g 4, .g 5, .g 6, .g 7] ++
    bLevels s [.latchSense .kerb, .latchSense .road] ++
    (s.operator.hands.toList.map fun h => bCode TwoHandState.all h.state).flatten ++
    (s.operator.obstructed.toList.map bFlag).flatten ++ bFlag s.operator.loopOpen ++
    bCode EstopState.all s.operator.estop ++ b16 s.operator.release.left

/-- Table 8-8: NONE 0, scenes 1 to 8, OVERRIDE 9. -/
def bSource : Source → List Byte
  | .none => [0]
  | .scene n => b8 n
  | .override => [9]

/-- R154: seconds left, rounded up. -/
def secondsLeft (t : Nat) : Nat := (t + 999) / 1000

/-- Table 8-8: the time left of an override: 0 for none, 0xFFFF without a timer. -/
def overrideLeft : Option Override → Nat
  | none => 0
  | some v => (v.timer.map secondsLeft).getD 0xFFFF

/-- Table 8-8, a pair entry. -/
def playerEntry (s : State) (p : LampPair) : List Byte :=
  let x := s.player p
  let v := s.override? p
  bSource x.sel.source ++ b8 x.sel.pattern ++ bFlag x.sel.invert ++ bCode PlayerCond.all x.cond ++
    (if x.cond = .playing then b8 x.step ++ b8 x.cycle else [0, 1]) ++ bFlag x.pending.isSome ++ b16 (overrideLeft v) ++
    bFlag v.isSome

/-- Table 8-8: the discrete latch of lamp B; off for lamp A. -/
def State.lampLatch (s : State) : Lamp → Bool
  | .a _ => false
  | .b p => s.latch p

/-- Table 8-8, a lamp entry. -/
def lampEntry (s : State) (l : Lamp) : List Byte :=
  bCode Health.all (s.lamp l).health ++ bFlag (s.lampDriven l) ++ bFlag (s.lamp l).cut ++ bFlag (s.lampLatch l)

/-- R160. -/
def beaconSection (s : State) : List Byte :=
  (s.beacon.active.toList.map bFlag).flatten ++ (LampPair.all.map (playerEntry s)).flatten ++
    (Lamp.all.map (lampEntry s)).flatten

/-- R191: the section of a code. -/
def statusSection (s : State) (sec : Nat) : Option (List Byte) :=
  [[], vehicleSection s, flowSection s, motionSection s, driveSection s, operatorSection s, beaconSection s][sec]?

/-! ### Fitment records read back (R174) -/

/-- A field list that is all 0 for an absent place. -/
def orZeros {α : Type} (width : Nat) (f : α → List Byte) : Option α → List Byte
  | some x => f x
  | none => List.replicate width 0

/-- Table 10-2. -/
def bEquipment (r : EquipmentRec) : List Byte := bFlag r.lift ++ bFlag r.kerb ++ bFlag r.road

/-- Table 4-1. -/
def bAxis (i : Nat) (r : AxisRec) : List Byte :=
  b8 i ++ b16 r.n ++ b16 r.num ++ b16 r.den ++ bs32 r.home ++ bs32 r.softLower ++ bs32 r.softUpper ++ b32 r.arrival ++
    b32 r.homeWindow ++ b32 r.driftLimit ++ bs32 r.openPos ++ b32 r.closedWindow ++ b32 r.stowWindow

/-- Table 6-1. -/
def bChannel (i : Nat) (r : ChannelRec) : List Byte :=
  b8 i ++ b16 r.period ++ b16 r.lo ++ b16 r.hi ++ b16 r.width ++ b16 r.dead ++ b16 r.openThr ++ b16 r.shortThr

/-- Table 3-1. -/
def bFlow (r : FlowRec) : List Byte :=
  b8 r.capacity ++ b8 r.cold ++ bs16 r.threshold ++ b8 r.liftUp ++ b8 r.tilt ++ b8 r.shutterUp ++ b16 r.start ++ b16 r.runOn

/-- Table 5-1. -/
def bProfile (i : Nat) (r : ProfileRec) : List Byte :=
  b8 i ++ b16 r.creep ++ b16 r.normal ++ b16 r.fast ++ b16 r.fMin ++ b16 r.kApp ++ b16 r.ramp ++ b16 r.stop ++
    b32 r.stallSpeed ++ b16 r.stallTime ++ b16 r.settle ++ (r.limits.toList.map b8).flatten ++ b16 r.kSync ++ b16 r.cMax ++
    b16 r.deadband ++ b32 r.skewWarn ++ b32 r.skewStop ++ bs32 r.bed ++ bs32 r.level ++ bs16 r.tiltPerTenth

/-- Table 10-3. -/
def bTiming (r : TimingRec) : List Byte :=
  b16 r.hold ++ b16 r.block ++ b16 r.twoHand ++ b8 r.debounce ++ b16 r.release ++ b16 r.status ++ b16 r.latchCheck

/-- Table 7-3. -/
def bPolicy (r : PolicyRec) : List Byte :=
  (r.bindings.toList.map (bCode BindKind.all)).flatten ++
    (r.slots.toList.map fun x => b8 ((x.input.map fun i => i.val + 1).getD 0) ++ bFlag x.stopsOn).flatten

/-- Table 2-4. -/
def bTerm (t : Term) : List Byte :=
  bCode TermKind.all t.kind ++ bFlag t.negated ++ bCode Item.all t.item ++ bs32 t.value ++ bs32 t.upper

/-- Table 2-3. -/
def bInterlock (i : Nat) (r : InterlockRec) : List Byte :=
  b8 i ++ bClass r.subject ++ bFlag (decide (r.loss = .stopFail)) ++ b8 r.terms.length ++ (r.terms.map bTerm).flatten

/-- Table 8-3. -/
def bLamps (r : LampsRec) : List Byte :=
  (r.modes.toList.map (bCode PairMode.all)).flatten ++ (r.discrete.toList.map bFlag).flatten

/-- Table 8-1. -/
def bPattern (i : Nat) (r : PatternRec) : List Byte :=
  b8 i ++ b8 r.repeats ++ b8 r.steps.length ++ (r.steps.map fun x => bFlag x.lit ++ b8 x.dur).flatten

/-- Table 8-4. -/
def bScene (i : Nat) (r : SceneRec) : List Byte :=
  b8 i ++ b8 r.priority ++ (r.claims.toList.map fun c => bFlag c.claim ++ b8 c.pattern ++ bFlag c.invert).flatten

/-- A place of a record kind with several places: its present flag and fields, none for an index it does not have. -/
def placeReport {α : Type} (places : List (Option α)) (i width : Nat) (f : α → List Byte) : Option (List Byte) :=
  (places[i]?).map fun x => bFlag x.isSome ++ orZeros width f x

/-- A place of a record kind numbered from 1. -/
def numberedReport {α : Type} (places : List (Option α)) (i width : Nat) (f : α → List Byte) : Option (List Byte) :=
  if i = 0 then none else placeReport places (i - 1) width f

/-- R174: the present flag and fields of the place of a record kind (1 to 11) and index; none for an index that the kind does
not have. -/
def recordReport (f : Fitment) (kind i : Nat) : Option (List Byte) :=
  match kind with
  | 1 => placeReport [f.equipment] i 3 bEquipment
  | 2 => placeReport f.axes.toList i 43 (bAxis i)
  | 3 => placeReport f.channels.toList i 15 (bChannel i)
  | 4 => placeReport [f.flow] i 11 bFlow
  | 5 => placeReport f.profiles.toList i 53 (bProfile i)
  | 6 => placeReport [f.timing] i 13 bTiming
  | 7 => placeReport [f.policy] i 20 bPolicy
  | 8 => numberedReport f.interlocks.toList i 4 (bInterlock i)
  | 9 => placeReport [f.lamps] i 6 bLamps
  | 10 => numberedReport f.patterns.toList i 3 (bPattern i)
  | 11 => numberedReport f.scenes.toList i 11 (bScene i)
  | _ => none

/-! ### Replies and notices (R186, Tables 11-2 and 11-3) -/

/-- R186: the refusal reasons, numbered from 1. -/
def Why.code : Why → Nat
  | .length => 1 | .unknownKind => 2 | .field => 3 | .locked => 4 | .notLocked => 5 | .notFitted => 6 | .tableFull => 7
  | .noSuchOrder => 8 | .endedAlready => 9 | .notEnded => 10 | .inhibited => 11 | .resetting => 12 | .stopped => 13
  | .notReferenced => 14 | .holdRequired => 15 | .busy => 16 | .notIdle => 17

/-- R186: the frame of a reply to a request of this KIND and TAG. -/
def replyFrame (kind tag : Byte) : Reply → Frame
  | .done p => { kind := 0x80 + kind, tag := tag, payload := p }
  | .refused w d1 d2 d3 =>
    { kind := 0xFF, tag := tag, payload := kind :: (b8 w.code ++ b8 d1 ++ b8 d2 ++ b8 d3) }

/-- Table 11-3: the STOP notice. -/
def stopNotice (s : State) : Frame := ⟨0x60, 0, bCode EstopState.all s.operator.estop⟩

/-- Table 11-3: the FAULT notice. -/
def faultNoticeFrame (t : FaultTable) : Frame :=
  ⟨0x61, 0, b8 t.activeCount ++ b8 t.latchedCount ++ bInhibits t.flags ++ bFlag t.overflow⟩

/-- Table 11-3: the ORDER notice of these numbers. -/
def orderNotice (numbers : List Nat) : Frame := ⟨0x62, 0, b8 numbers.length ++ (numbers.map b16).flatten⟩

end Sys2Proof.Machine
end

