-- ==== Sys2Proof/Machine/Fitment.lean ====
section
/-! DEFINITION. The fitment requests (Chapter 10): the writes of the eleven records with what each does in its block, FIT_READ, and
FIT_LOCK with its four passes. -/

namespace Sys2Proof.Machine

/-- Changes the fitment. -/
def State.modFitment (s : State) (f : Fitment → Fitment) : State := { s with fitment := f s.fitment }

/-- R173: a write of an open section: its fields are checked, then the place is replaced. -/
def openWrite (checks : List Bool) (write : State → State) (s : State) : State × Reply :=
  match firstBad checks with
  | some n => (s, .badField n)
  | none => (write s, .ok)

/-- R173: a write of a locked section. -/
def lockedWrite (checks : List Bool) (write : State → State) (s : State) : State × Reply :=
  if s.fitment.locked then (s, .no .locked) else openWrite checks write s

/-! ### Writes -/

/-- FIT_EQUIPMENT (R173). -/
def fitEquipmentRequest (r : EquipmentReq) (s : State) : State × Reply :=
  lockedWrite r.checks (fun s => s.modFitment fun f => { f with equipment := some r.record }) s

/-- R70: the rebase of a tracker by a write of its record. -/
def Tracker.rebase (home : Int) (t : Tracker) : Tracker :=
  { t with pos := home, rem := 0, referenced := t.home, net := 0, windowLeft := Config.trackerWindow, speed := 0,
           sense := .stationary, parked := none }

/-- R70: what an AXIS record in range does: it replaces the place, and the tracker is rebased. -/
def writeAxis (a : Axis) (r : AxisRec) (s : State) : State :=
  (s.modFitment fun f => { f with axes := f.axes.set a.idx (some r) }).modTracker a (·.rebase r.home)

/-- FIT_AXIS (R70). -/
def fitAxisRequest (r : AxisReq) (s : State) : State × Reply :=
  match coded Axis.all r.axis with
  | some a => lockedWrite r.checks (writeAxis a r.record) s
  | none => lockedWrite r.checks id s

/-- FIT_CHANNEL (R109). -/
def fitChannelRequest (r : ChannelReq) (s : State) : State × Reply :=
  lockedWrite r.checks
    (fun s => s.modFitment fun f => { f with channels := f.channels.setIfInBounds r.channel.toNat (some r.record) }) s

/-- FIT_FLOW (R173). -/
def fitFlowRequest (r : FlowReq) (s : State) : State × Reply :=
  lockedWrite r.checks (fun s => s.modFitment fun f => { f with flow := some r.record }) s

/-- FIT_PROFILE (R88). -/
def fitProfileRequest (r : ProfileReq) (s : State) : State × Reply :=
  lockedWrite r.checks
    (fun s => s.modFitment fun f => { f with profiles := f.profiles.setIfInBounds r.profile.toNat (some r.record) }) s

/-- FIT_TIMING (R173). -/
def fitTimingRequest (r : TimingReq) (s : State) : State × Reply :=
  lockedWrite r.checks (fun s => s.modFitment fun f => { f with timing := some r.record }) s

/-- FIT_POLICY (R138): the stop state of every group is worked out afresh. -/
def fitPolicyRequest (r : PolicyReq) (s : State) : State × Reply :=
  lockedWrite r.checks (fun s => refreshStops (s.modFitment fun f => { f with policy := some r.record })) s

/-- FIT_INTERLOCK (R44). -/
def fitInterlockRequest (r : InterlockReq) (s : State) : State × Reply :=
  if r.lengthOk then
    lockedWrite r.checks
      (fun s => s.modFitment fun f =>
        { f with interlocks := f.interlocks.setIfInBounds (r.entry.toNat - 1) (some r.record) }) s
  else (s, .no .length)

/-- R148: the discrete latch of a line that is no longer DISCRETE becomes off. -/
def dropLatch (p : LampPair) (s : State) : State := if s.isDiscrete p then s else s.setLatch p false

/-- FIT_LAMPS (R148). -/
def fitLampsRequest (r : LampsReq) (s : State) : State × Reply :=
  lockedWrite r.checks
    (fun s =>
      LampPair.all.foldl (fun s p => dropLatch p s) (s.modFitment fun f => { f with lamps := some r.record })) s

/-- FIT_PATTERN (R145, R146). -/
def fitPatternRequest (r : PatternReq) (s : State) : State × Reply :=
  if r.lengthOk then
    openWrite r.checks
      (fun s => adoptPattern r.pattern.toNat (s.modFitment fun f =>
        { f with patterns := f.patterns.setIfInBounds (r.pattern.toNat - 1) (some r.record) })) s
  else (s, .no .length)

/-- FIT_SCENE (R150). -/
def fitSceneRequest (r : SceneReq) (s : State) : State × Reply :=
  openWrite r.checks
    (fun s => rederiveAll false (s.modFitment fun f =>
      { f with scenes := f.scenes.setIfInBounds (r.scene.toNat - 1) (some r.record) })) s

/-! ### FIT_READ -/

/-- FIT_READ (R174). -/
def fitReadRequest (kind index : Byte) (s : State) : State × Reply :=
  if inRange 1 11 kind.toNat then
    match recordReport s.fitment kind.toNat index.toNat with
    | some p => (s, .done (kind :: index :: p))
    | none => (s, .badField 2)
  else (s, .badField 1)

/-! ### FIT_LOCK (R175, R176) -/

/-- A check of FIT_LOCK: whether it holds, and the record kind, index and field it reports. -/
structure LockCheck where
  ok : Bool
  kind : Nat
  index : Nat
  field : Nat
deriving DecidableEq, Repr

/-- Pass 1. -/
def lockEquipment (f : Fitment) : List LockCheck :=
  [⟨f.equipment.isSome, 1, 0, 0⟩, ⟨f.equipment.any fun e => e.lift || e.kerb || e.road, 1, 0, 1⟩]

/-- Pass 2 (Table 10-4): a place is present or not needed. -/
def needs (needed present : Bool) (kind index : Nat) : LockCheck := ⟨!needed || present, kind, index, 0⟩

/-- Pass 2. -/
def lockPresence (s : State) : List LockCheck :=
  (Axis.all.map fun a => needs (s.fitted a.group) (s.axisRec? a).isSome 2 a.idx.val) ++
    (allChannels.map fun c => needs (s.fitted (channelGroup c)) (s.chanRec? c).isSome 3 c.val) ++
    [needs true s.fitment.flow.isSome 4 0, needs (s.fitted .lift) (s.profile? .lift).isSome 5 0,
     needs (s.fitted .lift) (s.profile? .tilt).isSome 5 1,
     needs (s.fitted .kerb || s.fitted .road) (s.profile? .shutter).isSome 5 2,
     needs true s.fitment.timing.isSome 6 0, needs true s.fitment.policy.isSome 7 0]

/-- A value within limits. -/
def within (lim : Int × Int) (x : Int) : Bool := decide (lim.1 ≤ x) && decide (x ≤ lim.2)

/-- Table 10-5, an AXIS record. -/
def axisRelations (a : Axis) (r : AxisRec) : List LockCheck :=
  let shutter := decide (a = .sk) || decide (a = .sr)
  [⟨within (r.softLower, r.softUpper) r.home, 2, a.idx.val, 5⟩, ⟨decide (r.softLower < r.softUpper), 2, a.idx.val, 7⟩,
   ⟨!shutter || within (r.softLower, r.softUpper) r.openPos, 2, a.idx.val, 11⟩]

/-- Table 10-5, a CHANNEL record. -/
def channelRelations (c : Channel) (r : ChannelRec) : List LockCheck :=
  [⟨decide (10 ≤ c.val) || decide (r.lo < r.hi), 3, c.val, 4⟩, ⟨decide (r.openThr < r.shortThr), 3, c.val, 8⟩]

/-- Table 10-5, a PROFILE record. -/
def profileRelations (s : State) (p : Profile) (r : ProfileRec) : List LockCheck :=
  [⟨decide (r.creep ≤ r.normal), 5, p.idx.val, 3⟩, ⟨decide (r.normal ≤ r.fast), 5, p.idx.val, 4⟩,
   ⟨decide (r.fMin ≤ r.creep), 5, p.idx.val, 5⟩] ++
    match p with
    | .lift => [⟨decide (r.skewWarn < r.skewStop), 5, 0, 17⟩, ⟨within s.liftLimits r.bed, 5, 0, 18⟩]
    | .tilt => [⟨within (s.softLimits .tl) r.level, 5, 1, 19⟩]
    | .shutter => []

/-- Table 10-5, the POLICY record: slots 2g and 2g + 1 are fields 9 + 2g and 10 + 2g. -/
def policyRelations (s : State) (r : PolicyRec) : List LockCheck :=
  let ok := fun (g : Group) (x : StopSlot) => s.fitted g || x.input.isNone
  [⟨ok .lift r.slots[0], 7, 0, 9⟩, ⟨ok .lift r.slots[1], 7, 0, 10⟩, ⟨ok .kerb r.slots[2], 7, 0, 11⟩,
   ⟨ok .kerb r.slots[3], 7, 0, 12⟩, ⟨ok .road r.slots[4], 7, 0, 13⟩, ⟨ok .road r.slots[5], 7, 0, 14⟩]

/-- Table 10-5: the item suits the term kind. -/
def Term.itemSuits (t : Term) : Bool :=
  match t.kind, t.item with
  | .axisIn, .axis _ | .axisReferenced, .axis _ | .groupIdle, .group _ | .input, .input _ | .lampsHealthy, .pair _ => true
  | .axisIn, _ | .axisReferenced, _ | .groupIdle, _ | .input, _ | .lampsHealthy, _ => false
  | _, .none => true
  | _, _ => false

/-- The checks of each term of an entry, with the numbers of its item and upper fields. -/
def termChecks (entry : Nat) (f : Term → List (Bool × Nat)) (ts : List Term) : List LockCheck :=
  ((List.range ts.length).zip ts).flatMap fun x => (f x.2).map fun y => ⟨y.1, 8, entry, y.2 + 5 * x.1⟩

/-- Table 10-5, an INTERLOCK entry. -/
def interlockRelations (entry : Nat) (r : InterlockRec) : List LockCheck :=
  termChecks entry
    (fun t => [(t.itemSuits, 7), (decide (t.kind ≠ .axisIn) || decide (t.value ≤ t.upper), 9)]) r.terms

/-- Table 10-5, the LAMPS record. -/
def lampsRelations (r : LampsRec) : List LockCheck :=
  let ok := fun (p : LampPair) => !r.discrete[p.idx] || decide (r.modes[p.idx] = .single)
  [⟨ok .rear, 9, 0, 4⟩, ⟨ok .side, 9, 0, 5⟩, ⟨ok .flag, 9, 0, 6⟩]

/-- The checks of a record, if the place holds one. -/
def ofRec {α : Type} (f : α → List LockCheck) (x : Option α) : List LockCheck := (x.map f).getD []

/-- The interlock places, each with its entry number. -/
def State.entries (s : State) : List (Nat × Option InterlockRec) := (List.range 24).map (· + 1) |>.zip s.fitment.interlocks.toList

/-- Pass 3: the relations of every needed place, of every INTERLOCK entry and of LAMPS. -/
def lockRelations (s : State) : List LockCheck :=
  ((Axis.all.filter fun a => s.fitted a.group).flatMap fun a => ofRec (axisRelations a) (s.axisRec? a)) ++
    ((allChannels.filter fun c => s.fitted (channelGroup c)).flatMap fun c => ofRec (channelRelations c) (s.chanRec? c)) ++
    ofRec (fun r => [⟨decide (r.cold ≤ r.capacity), 4, 0, 2⟩]) s.fitment.flow ++
    ((Profile.all.filter fun p =>
        if p = .shutter then s.fitted .kerb || s.fitted .road else s.fitted .lift).flatMap fun p =>
      ofRec (profileRelations s p) (s.profile? p)) ++
    ofRec (policyRelations s) s.fitment.policy ++
    (s.entries.flatMap fun x => ofRec (interlockRelations x.1) x.2) ++
    ofRec lampsRelations s.fitment.lamps

/-- Pass 4: the item of a term is fitted. -/
def State.itemFitted (s : State) (t : Term) : Bool :=
  match t.item with
  | .axis a => s.fitted a.group
  | .group g => s.fitted g
  | .input _ | .pair _ | .none => true

/-- Pass 4. -/
def lockItems (s : State) : List LockCheck :=
  s.entries.flatMap fun x => ofRec (fun r => termChecks x.1 (fun t => [(s.itemFitted t, 7)]) r.terms) x.2

/-- R175: the first check that fails, of the four passes in order. -/
def lockFailure? (s : State) : Option LockCheck :=
  (lockEquipment s.fitment ++ lockPresence s ++ lockRelations s ++ lockItems s).find? fun c => !c.ok

/-- R54, R176: the capacity in force is C_cold. -/
def coldCapacity (s : State) : State := s.modFlow fun fl => { fl with capacity := s.flowField (·.cold), cold := true }

/-- R78: every axis whose record is present and whose switch is active is snapped, in table order (assumption 39). -/
def snapAll (s : State) : State := Axis.all.foldl (fun s a => snapIfActive a s) s

/-- FIT_LOCK (R175, R176). -/
def fitLockRequest (s : State) : State × Reply :=
  if s.fitment.locked then (s, .no .locked)
  else
    match lockFailure? s with
    | some c => (s, .refused .field c.kind c.index c.field)
    | none => (snapAll (coldCapacity (s.modFitment fun f => { f with locked := true })), .ok)

end Sys2Proof.Machine
end

