-- ==== Sys2Proof/Machine/Orders.lean ====
section
/-! DEFINITION. The requests of the Motion Sequencer (Chapter 1): SUBMIT with its checks, clamps, phase lists, numbers and
room-making, CANCEL, RETIRE and the order queries. -/

namespace Sys2Proof

/-- The opening class of a shutter side. -/
def Side.openClass : Side → Machine.MoveClass
  | .kerb => .kerbOpen | .road => .roadOpen

/-- The closing class of a shutter side. -/
def Side.closeClass : Side → Machine.MoveClass
  | .kerb => .kerbClose | .road => .roadClose

namespace Machine

/-! ### Submission checks (R11) -/

/-- R11, check 6: the axes that a kind needs referenced. -/
def neededAxes (g : Group) : OrderKind → List Axis
  | .raiseTo | .lowerTo => [.lk, .lr]
  | .tiltTo => [.tl]
  | .deploy | .stow => [.lk, .lr, .tl]
  | .openShutter => g.axes
  | .home | .closeShutter => []

/-- R11, check 7: the fitted minimum binding of a kind. -/
def State.minBinding (s : State) (k : OrderKind) : BindKind :=
  ((s.fitment.policy.map fun r => r.bindings.toList[codeIn OrderKind.all k]?).join).getD .none

/-- The kind of a binding. -/
def Binding.kind : Binding → BindKind
  | .none => .none | .edge _ => .edge | .level _ => .level | .twoHand _ => .twoHand

/-- R7: every slot holds a record outside ENDED. -/
def State.tableFull (s : State) : Bool :=
  decide (Config.maxOrders ≤ s.seq.orders.length) && s.seq.orders.all fun o => decide (o.state ≠ .ended)

/-- R11: the first check that fails. -/
def State.submitRefusal? (s : State) (g : Group) (k : OrderKind) (b : Binding) : Option Why :=
  if !s.fitment.locked then some .notLocked
  else if !s.fitted g then some .notFitted
  else if s.operator.estop ≠ .clear then some .stopped
  else if s.faults.resetting[g.idx].isSome then some .resetting
  else if s.faults.flags.group g && !s.faults.admits g k then some .inhibited
  else if !(neededAxes g k).all fun a => (s.tracker a).referenced then some .notReferenced
  else if b.kind.rank < (s.minBinding k).rank then some .holdRequired
  else if s.tableFull then some .tableFull
  else none

/-! ### Phase lists (R2, R3, Tables 1-1 and 1-2) -/

/-- R89: the mean of the two home values of the lift cylinders. -/
def State.homeMean (s : State) : Int := (s.home .lk + s.home .lr) / 2


/-- R3: a target clamped to limits, and whether the clamp changed it. -/
def clamped (lim : Int × Int) (x : Int) : Int × Bool :=
  (clampTo lim.1 lim.2 x, decide (clampTo lim.1 lim.2 x ≠ x))

/-- A movement phase that ends at a target. -/
def toTarget (k : PhaseKind) (c : MoveClass) (target : Int) (sync : Bool) : Phase := ⟨k, some c, target, .target, sync⟩

/-- A movement phase that ends on switches. -/
def toSwitch (k : PhaseKind) (c : MoveClass) (target : Int) (sync : Bool) : Phase := ⟨k, some c, target, .switch, sync⟩

/-- What SUBMIT fixes of an order: its phases, its position target if it has one, and whether a target was clamped. -/
structure Plan where
  phases : List Phase
  target : Option Int
  clamped : Bool
deriving DecidableEq, Repr

/-- Table 1-1, the LIFT kinds. level says that the target form is LEVEL; x is the target of the request. The target of a
LEVEL order is a free value until its phase start (assumption 4). -/
def State.liftPlan (s : State) (k : OrderKind) (level : Bool) (x : Int) : Plan :=
  match k with
  | .raiseTo =>
    let t := clamped s.liftLimits x
    ⟨[toTarget .pumped .liftUp t.1 true], some t.1, t.2⟩
  | .lowerTo =>
    let t := clamped s.liftLimits x
    ⟨[toTarget .gravity .liftDown t.1 true], some t.1, t.2⟩
  | .tiltTo =>
    if level then ⟨[⟨.pumped, none, (Config.unfixedTarget s.free).val - 100000, .target, false⟩], none, false⟩
    else
      let t := clamped (s.softLimits .tl) x
      ⟨[⟨.pumped, none, t.1, .target, false⟩], some t.1, t.2⟩
  | .deploy =>
    let t := clamped (s.softLimits .tl) (((s.profile? .tilt).map (·.level)).getD 0)
    ⟨[toTarget .pumped .tiltOut t.1 false, toSwitch .gravity .liftDown s.homeMean true], none, t.2⟩
  | .stow =>
    let t := clamped s.liftLimits (((s.profile? .lift).map (·.bed)).getD 0)
    ⟨[toTarget .pumped .liftUp t.1 true, toSwitch .pumped .tiltIn (s.home .tl) false], none, t.2⟩
  | .home => ⟨[toSwitch .gravity .liftDown s.homeMean false], none, false⟩
  | .openShutter | .closeShutter => ⟨[], none, false⟩

/-- Table 1-1, the shutter kinds. -/
def State.shutterPlan (s : State) (k : OrderKind) (d : Side) : Plan :=
  match k with
  | .openShutter =>
    let t := clamped (s.softLimits d.axis) (((s.axisRec? d.axis).map (·.openPos)).getD 0)
    ⟨[⟨.pulse, some d.openClass, 0, .pulseDone, false⟩, toTarget .pumped d.openClass t.1 false], none, t.2⟩
  | _ => ⟨[toSwitch .gravity d.closeClass (s.home d.axis) false, ⟨.check, none, 0, .sense, false⟩], none, false⟩

/-- Table 1-1. -/
def State.plan (s : State) (g : Group) (k : OrderKind) (level : Bool) (x : Int) : Plan :=
  match g.side? with
  | some d => s.shutterPlan k d
  | none => s.liftPlan k level x

/-- R13: the speed class that an order takes. -/
def State.speedTaken (s : State) (g : Group) (k : OrderKind) (asked : SpeedClass) : SpeedClass :=
  match k with
  | .home => .creep
  | .closeShutter => if g.axes.all fun a => (s.tracker a).referenced then asked else .creep
  | .raiseTo | .lowerTo | .tiltTo | .deploy | .stow | .openShutter => asked

/-! ### Numbers and room (R6, R7) -/

/-- R6: a step of the counter. -/
def nextNumber (n : Nat) : Nat := if n = 65535 then 1 else n + 1

/-- R6: the first number from n on that no record carries; the fuel is one more than the records. -/
def freeNumber (taken : List Nat) : Nat → Nat → Nat
  | 0, n => n
  | k + 1, n => if taken.contains n then freeNumber taken k (nextNumber n) else n

/-- R7: of the ENDED records, the one that ended first, of equals the one submitted first. -/
def firstEnded : List Order → Option Order
  | [] => none
  | o :: rest =>
    match firstEnded rest with
    | none => if o.state = .ended then some o else none
    | some p => if o.state = .ended ∧ o.endRank ≤ p.endRank then some o else some p

/-- Removes the record that carries a number. -/
def removeOrder (n : Nat) (s : State) : State :=
  { s with seq := { s.seq with orders := s.seq.orders.filter (·.number != n) } }

/-- R7: room is made when every slot holds a record. -/
def makeRoom (s : State) : State :=
  if s.seq.orders.length < Config.maxOrders then s
  else
    match firstEnded s.seq.orders with
    | some o => removeOrder o.number s
    | none => s

/-! ### Taking an order (R4, R13, R14) -/

/-- The record of a taken order (R4, R13). -/
def State.newOrder (s : State) (r : SubmitReq) (k : OrderKind) (b : Binding) (number : Nat) : Order :=
  let level := decide (k = .tiltTo) && r.form == 2
  let plan := s.plan r.group k level r.target.toInt
  let asked := (coded SpeedClass.all r.speed).getD .creep
  let speed := s.speedTaken r.group k asked
  { number := number, group := r.group, kind := k, target := plan.target, level := level,
    clamped := plan.clamped || decide (speed ≠ asked), speed := speed, binding := b,
    limit := if r.limit = 0 then none else some r.limit.toNat, phases := plan.phases, index := 0, state := .queued,
    outcome := none, pendResult := none, pendReason := none, startedEdge := false, movingTime := 0,
    uncompensated := false, blocking := 0, submittedAt := s.supply.time, endedAt := none, result := none, reason := none,
    residual := none, noticed := false, endRank := 0 }

/-- R14: the order is placed in the table as QUEUED; each order uses a free value of its own. -/
def placeOrder (o : Order) (s : State) : State :=
  { s with seq := { s.seq with orders := s.seq.orders ++ [o], nextNumber := nextNumber o.number }, free := s.free + 1 }

/-- R14: an order is taken: room, number, record, and its first phase start when its group runs nothing. -/
def takeOrder (r : SubmitReq) (k : OrderKind) (b : Binding) (s : State) : State × Reply :=
  let s := makeRoom s
  let n := freeNumber (s.seq.orders.map (·.number)) (s.seq.orders.length + 1) s.seq.nextNumber
  let wasIdle := s.groupIdle r.group
  let s := placeOrder (s.newOrder r k b n) s
  let s := if wasIdle then ceaseIdle r.group s else s
  let s := advanceGroup r.group s
  match s.order? n with
  | some o => (s, .done (b16 n ++ bFlag o.clamped ++ bCode OrderState.all o.state))
  | none => (s, .done (b16 n ++ bFlag false ++ bCode OrderState.all .ended))

/-- SUBMIT (R10, R11, R14). -/
def submitRequest (r : SubmitReq) (s : State) : State × Reply :=
  match firstBad r.checks, r.kind?, r.binding? with
  | some n, _, _ => (s, .badField n)
  | none, some k, some b =>
    match s.submitRefusal? r.group k b with
    | some w => (s, .no w)
    | none => takeOrder r k b s
  | none, _, _ => (s, .badField 1)

/-! ### CANCEL, RETIRE and the queries (R8, R9, R33) -/

/-- R33: CANCEL of an order in STOPPING or SETTLING. -/
def Order.cancelStop (o : Order) : Order :=
  if o.pendResult = some .failed then o
  else { o with outcome := some .finish, pendResult := some .cancelled, pendReason := none }

/-- R33: CANCEL of a record. -/
def cancelOrder (o : Order) (s : State) : State × Reply :=
  match o.state with
  | .queued => (endOrder o .cancelled none s, .ok)
  | .blocked | .holdWait | .claiming | .paused => (endWaiting o .cancelled none s, .ok)
  | .moving =>
    if o.inMovement then (toStopping o.number .finish (some .cancelled) none s, .ok)
    else (endPulse o .cancelled none s, .ok)
  | .stopping | .settling => (s.modOrder o.number Order.cancelStop, .ok)
  | .ended => (s, .no .endedAlready)

/-- CANCEL (R33). -/
def cancelRequest (n : Nat) (s : State) : State × Reply :=
  match s.order? n with
  | none => (s, .no .noSuchOrder)
  | some o => cancelOrder o s

/-- RETIRE (R8). -/
def retireRequest (n : Nat) (s : State) : State × Reply :=
  match s.order? n with
  | none => (s, .no .noSuchOrder)
  | some o => if o.state = .ended then (removeOrder n s, .ok) else (s, .no .notEnded)

/-- QUERY_ORDER (R9). -/
def queryOrderRequest (n : Nat) (s : State) : State × Reply :=
  match s.order? n with
  | none => (s, .no .noSuchOrder)
  | some o => (s, .done (orderReport o))

/-- QUERY_TABLE (R9). -/
def queryTableRequest (s : State) : State × Reply := (s, .done (tableReport s.seq.orders))

end Machine

end Sys2Proof
end

