-- ==== Sys2Proof/Machine/Requests.lean ====
section
/-! DEFINITION. The other requests: VEHICLE (R37 to R40), the queries, CLEAR_FAULTS and GROUP_RESET (R168, R169), STOP_RESET
(R142), PROVE and the course of a proving test (R126 to R128), BEACON_OVERRIDE and SET_OUTPUT (R154, R159), STANDBY
(R180). -/

namespace Sys2Proof.Machine

/-! ### VEHICLE -/

/-- R38: the number recorded, and whether it was clamped. -/
def clampField (lo hi x : Int) : Int × Bool := (clampTo lo hi x, decide (clampTo lo hi x ≠ x))

/-- R37: the record after an acceptance at time now. -/
def Vehicle.accept (r : VehicleReq) (timeout : Nat) (now : U32) : Vehicle :=
  { brake := (coded Brake.all r.brake).getD .unknown, speed := min 2500 r.speed.toNat, oil := clampTo (-40) 150 r.oil.toInt,
    pitch := clampTo (-300) 300 r.pitch.toInt, roll := clampTo (-300) 300 r.roll.toInt, night := flagOf r.night,
    fresh := true, acceptedAt := some now, timer := some timeout }

/-- R37: the DONE payload: the freshness before, then the clamp flags. -/
def vehicleReply (r : VehicleReq) (wasFresh : Bool) : List Byte :=
  bFlag (!wasFresh) ++ bFlag (decide (2500 < r.speed.toNat)) ++ bFlag (clampField (-40) 150 r.oil.toInt).2 ++
    bFlag (clampField (-300) 300 r.pitch.toInt).2 ++ bFlag (clampField (-300) 300 r.roll.toInt).2

/-- R54, R57: the capacity in force is worked out afresh; a change offers it to the waiting list. -/
def capacityEvent (s : State) : State :=
  let s' := recomputeCapacity s
  if s'.flow.capacity = s.flow.capacity then s' else grantNow s'

/-- R37, R40, R41: an accepted VEHICLE. -/
def acceptVehicle (r : VehicleReq) (s : State) : State :=
  let wasFresh := s.vehicle.fresh
  let s := { s with vehicle := Vehicle.accept r (s.timing (·.status)) s.supply.time }
  capacityEvent (if wasFresh then s else latch .statusStale .none s)

/-- VEHICLE (R37). -/
def vehicleRequest (r : VehicleReq) (s : State) : State × Reply :=
  if s.fitment.locked then
    match firstBad r.checks with
    | some n => (s, .badField n)
    | none => (acceptVehicle r s, .done (vehicleReply r s.vehicle.fresh))
  else (s, .no .notLocked)

/-! ### Queries -/

/-- QUERY_AXES (R83). -/
def queryAxesRequest (s : State) : State × Reply := (s, .done (axesReport s))

/-- QUERY_STATUS (R191). -/
def queryStatusRequest (sec : Byte) (s : State) : State × Reply :=
  match statusSection s sec.toNat with
  | some p => (s, .done (supplySection s ++ sec :: p))
  | none => (s, .badField 1)

/-- QUERY_FAULTS (R171). -/
def queryFaultsRequest (s : State) : State × Reply := (s, .done (faultReport s.faults))

/-- QUERY_PROVE (R130). -/
def queryProveRequest (s : State) : State × Reply := (s, .done (proveReport s.drive.prove))

/-! ### CLEAR_FAULTS (R168) -/

/-- R168: an entry that CLEAR_FAULTS removes. -/
def Entry.clearable (e : Entry) : Bool :=
  !e.active && decide (e.code ≠ .skew) && decide (e.code ≠ .referenceMismatch) && decide (e.code ≠ .latchFault)

/-- R168: the table after CLEAR_FAULTS. -/
def FaultTable.clear (t : FaultTable) : FaultTable :=
  let entries := t.entries.filter fun e => !e.clearable
  FaultTable.recompute
    { t with entries := entries, overflow := false,
             overflowInhibits := if entries.length < Config.maxFaults then Inhibits.none else t.overflowInhibits }

/-- CLEAR_FAULTS (R168). -/
def clearFaultsRequest (s : State) : State × Reply :=
  let removed := (s.faults.entries.filter Entry.clearable).length
  let s' := reportFlags s.faults.flags { s with faults := s.faults.clear }
  (s', .done (clearReport removed s'.faults))

/-! ### GROUP_RESET (R169) -/

/-- The fitted dead-time of a pair. -/
def State.deadTime (s : State) (p : PairNo) : Nat := ((s.chanRec? (memberChannel p .even)).map (·.dead)).getD 0

/-- R169: the RESETTING interval of a group. -/
def State.resetInterval (s : State) (g : Group) : Nat :=
  match g with
  | .lift =>
    max (max (s.deadTime 0) (max (s.deadTime 1) (s.deadTime 2)))
      (max (s.profileField .lift (·.settle)) (s.profileField .tilt (·.settle)))
  | .kerb => max (s.deadTime 3) (s.profileField .shutter (·.settle))
  | .road => max (s.deadTime 4) (s.profileField .shutter (·.settle))

/-- Writes a group's RESETTING timer. -/
def setResetting (g : Group) (t : Timer) (s : State) : State :=
  { s with faults := { s.faults with resetting := s.faults.resetting.set g.idx t } }

/-- R35: the orders of a group end ABORTED GROUP_RESET, and a group that had work is idle. -/
def abortGroup (g : Group) (s : State) : State :=
  let s' := abortOrders (fun o => decide (o.group = g)) .groupReset s
  if s.groupIdle g then s' else becomeIdle g s'

/-- R129, R169: the group's channels are released, but for one under its proving drive. -/
def releaseGroup (g : Group) (s : State) : State :=
  releaseAll (g.channels.filter fun c => decide (s.drive.prove.driving ≠ some c)) s

/-- R169: an accepted GROUP_RESET. -/
def resetGroup (g : Group) (s : State) : State :=
  let s := releaseGroup g (abortGroup g s)
  setResetting g (some (s.resetInterval g)) s

/-- GROUP_RESET (R169). -/
def groupResetRequest (code : Byte) (s : State) : State × Reply :=
  match coded Group.all code with
  | none => (s, .badField 1)
  | some g =>
    if !s.fitment.locked then (s, .no .notLocked)
    else if !s.fitted g then (s, .no .notFitted)
    else
      match s.faults.resetting[g.idx] with
      | some left => (s, .done (1 :: b16 left))
      | none => (resetGroup g s, .done (1 :: b16 (s.resetInterval g)))

/-! ### STOP_RESET (R142) -/

/-- R142: the machine returns to CLEAR, and the ESTOP entry is removed. -/
def clearStop (s : State) : State :=
  let old := s.faults.flags
  let s := removeFaults (·.is .estop .none) (setEstop .clear none s)
  reportStopScene (reportFlags old s)

/-- STOP_RESET (R142). -/
def stopResetRequest (s : State) : State × Reply :=
  match s.operator.estop with
  | .clear => (s, .done (bCode EstopState.all .clear))
  | .active | .held => (s, .no .stopped)
  | .releasable => (clearStop s, .done (bCode EstopState.all .clear))

/-! ### Proving test (R126 to R128) -/

/-- R128: every fitted channel has result PASS. -/
def State.allPass (s : State) : Bool :=
  (allChannels.filter fun c => s.fitted (channelGroup c)).all fun c => decide (s.drive.prove.results[c] = .pass)

/-- R14, R128: the oldest QUEUED record of each group reaches its first phase start, in submission order. -/
def startAllQueued (s : State) : State :=
  (s.seq.orders.filter fun o => decide ((s.oldestQueued? o.group).map (·.number) = some o.number)).foldl
    (fun s o => advanceGroup o.group s) s

/-- R128: the end of the test. -/
def endProve (s : State) : State :=
  let pass := s.allPass
  let s := s.modProve fun x =>
    { x with overall := if pass then .passed else .failed, failures := x.found, endedAt := some s.supply.time,
             driving := none, drive := none, gap := none }
  startAllQueued <|
    if pass then reportFlags s.faults.flags (removeFaults (·.is .provingFailed .none) s)
    else raiseFault .provingFailed .none s

/-- R126: the proving record of an accepted PROVE. -/
def Prove.start (now : U32) : Prove := { Prove.reset with overall := .running, startedAt := some now }

/-- R126: an accepted PROVE; with no channel fitted the test ends at once (R128). -/
def startProve (s : State) : State :=
  let s := latch .provingFailed .none (s.modProve fun _ => Prove.start s.supply.time)
  if (s.nextVisit 0).isNone then endProve s else s

/-- R126, check 4: some group has an order outside QUEUED and ENDED. -/
def State.anyActive (s : State) : Bool := s.seq.orders.any fun o => o.state.isActive

/-- PROVE (R126). -/
def proveRequest (s : State) : State × Reply :=
  if !s.fitment.locked then (s, .no .notLocked)
  else if s.proving || decide (s.operator.estop ≠ .clear) || s.anyActive || decide (s.flow.pump ≠ .off) then
    (s, .no .busy)
  else (startProve s, .ok)

/-- R127, step 1: the wait of 20 ms after the previous drive is over; before the first drive there is none. -/
def Prove.gapOver (x : Prove) : Bool := decide (x.gap.left = 0)

/-- R127: the next drive may start: the test runs, no drive does, the wait after the previous one is over, and the pair of
the next channel has no dead-time running. -/
def State.mayDrive? (s : State) : Option Channel :=
  if s.proving && s.drive.prove.driving.isNone && s.drive.prove.gapOver then
    (s.nextVisit s.drive.prove.next).filter fun c =>
      match channelPair c with
      | some p => (s.pair p).dead.isNone
      | none => true
  else none

/-- R127: the drive of a channel starts. -/
def startDrive (c : Channel) (s : State) : State :=
  s.modProve fun x => { x with driving := some c, drive := some Config.provingDrive, gap := none }

/-- R127, R128: the drive of a channel ends with a result; after the last visited channel the test ends. -/
def finishDrive (c : Channel) (res : ChanResult) (s : State) : State :=
  let s := s.modProve fun x =>
    { x with results := x.results.set c res, driving := none, drive := none, next := c.val + 1,
             gap := some Config.provingGap }
  let s :=
    match channelPair c with
    | some p => startDead p none s
    | none => s
  if (s.nextVisit (c.val + 1)).isNone then endProve s else s

/-! ### Beacon requests (R154, R159) -/

/-- R154: the reply: the pair's override as it stands. -/
def overrideReply : Option Override → List Byte
  | none => [0, 0, 0, 0, 0]
  | some v => 1 :: (b8 v.pattern ++ bFlag v.invert ++ b16 (overrideLeft (some v)))

/-- R154: SET. -/
def setOverrideTo (p : LampPair) (r : OverrideReq) (s : State) : State :=
  rederive false p <| s.setOverride p <| some
    { pattern := r.pattern.toNat, invert := flagOf r.invert,
      timer := if r.duration = 0 then none else some (1000 * r.duration.toNat) }

/-- R154, R155: the override of a pair is removed; nothing when it has none. -/
def dropOverride (p : LampPair) (s : State) : State :=
  match s.override? p with
  | none => s
  | some _ => rederive false p (s.setOverride p none)

/-- BEACON_OVERRIDE (R154). -/
def beaconOverrideRequest (r : OverrideReq) (s : State) : State × Reply :=
  match firstBad r.checks, coded LampPair.all r.pair with
  | some n, _ => (s, .badField n)
  | none, some p =>
    let s' := if r.action = 0 then setOverrideTo p r s else dropOverride p s
    (s', .done (overrideReply (s'.override? p)))
  | none, none => (s, .badField 1)

/-- R159: the discrete latch of a DISCRETE line takes a value; setting it on lifts the line's cut. -/
def setOutputTo (p : LampPair) (v : Bool) (s : State) : State :=
  let s := s.setLatch p v
  if v then liftCut (.b p) s else s

/-- SET_OUTPUT (R159). -/
def setOutputRequest (line value : Byte) (s : State) : State × Reply :=
  match coded Lamp.all line, isFlag value with
  | none, _ => (s, .badField 1)
  | some _, false => (s, .badField 2)
  | some l, true =>
    if s.lampIsDiscrete l then (setOutputTo l.pair (flagOf value) s, .done [1]) else (s, .done [0])

/-! ### STANDBY (R180) -/

/-- R180: every order is ENDED, no proving test runs and the stop machine is CLEAR. -/
def State.mayStandBy (s : State) : Bool :=
  (s.seq.orders.all fun o => decide (o.state = .ended)) && !s.proving && decide (s.operator.estop = .clear)

/-- STANDBY (R180): an acceptance; the entry comes once the reply has been sent. -/
def standbyRequest (s : State) : State × Reply :=
  if s.mayStandBy then ({ s with supply := { s.supply with standby := .accepted } }, .ok) else (s, .no .notIdle)

end Sys2Proof.Machine
end

