-- ==== Sys2Proof/Machine/Link.lean ====
section
/-! DEFINITION. The Link Interface (Chapter 11): the frame and its check, the receiver, the request buffer, replies and notices; and
what ends every event (finish): the FAULT notice judged, and an idle transmitter given what there is to send. -/

namespace Sys2Proof.Machine

/-- Changes the link. -/
def State.modLink (s : State) (f : Link → Link) : State := { s with link := f s.link }

/-! ### The frame (Table 11-1) -/

/-- One bit of the check: shift left, and subtract the polynomial 0x1021 when a 1 leaves. -/
def crcBit (c : U16) : U16 := if c.msb then (c <<< 1) ^^^ 0x1021#16 else c <<< 1

/-- One byte of the check, most significant bit first. -/
def crcByte (c : U16) (b : Byte) : U16 :=
  crcBit (crcBit (crcBit (crcBit (crcBit (crcBit (crcBit (crcBit (c ^^^ (b.setWidth 16 <<< 8)))))))))

/-- The CRC-16 of a list of bytes: polynomial 0x1021, initial value 0xFFFF, no reflection, no inversion. -/
def crc16 (bs : List Byte) : U16 := bs.foldl crcByte 0xFFFF#16

/-- The check bytes of bytes 1 to LEN + 1, high byte first. -/
def checkBytes (bs : List Byte) : List Byte := [(crc16 bs).extractLsb' 8 8, (crc16 bs).setWidth 8]

/-- KIND, TAG and PAYLOAD. -/
def Frame.body (f : Frame) : List Byte := f.kind :: f.tag :: f.payload

/-- Table 11-1: the bytes of a frame on the line. -/
def Frame.wire (f : Frame) : List Byte :=
  let counted := b8 f.body.length ++ f.body
  Config.syncByte :: (counted ++ checkBytes counted)

/-! ### The receiver (R182, R183) -/

/-- HUNT, with the frame being assembled discarded and the gap timer stopped. -/
def Link.hunt (l : Link) : Link := { l with rx := .hunt, gap := none, rxLen := 0, rxBody := [], rxCheck := [] }

/-- R183: both check bytes of the frame being assembled are held. -/
def Link.held (l : Link) : Bool := decide (l.rx = .check) && decide (l.rxCheck.length = 2)

/-- R183: the check matches. -/
def Link.checkOk (l : Link) : Bool := checkBytes (l.rxLen :: l.rxBody) == l.rxCheck

/-- The frame that the held bytes spell. -/
def Link.frame (l : Link) : Frame := ⟨l.rxBody.getD 0 0, l.rxBody.getD 1 0, l.rxBody.drop 2⟩

/-- R184: a complete frame is taken into a free place, or discarded when there is none; the receiver returns to HUNT. -/
def Link.take (l : Link) : Link :=
  let l' := l.hunt
  if l.places.length < Config.maxPlaces then { l' with places := l'.places ++ [⟨l.frame, false⟩] } else l'

/-- R183: the held frame is judged by its check. -/
def Link.judge (l : Link) : Link := if l.held then (if l.checkOk then l.take else l.hunt) else l

/-- R183: the gap timer restarts at each byte of a frame. -/
def Link.restartGap (l : Link) : Link := { l with gap := some Config.frameGap }

/-- R183: a byte in CHECK; the second one completes the frame, and no further byte is awaited. -/
def Link.checkByte (b : Byte) (l : Link) : Link :=
  if l.rxCheck.isEmpty then { l with rxCheck := [b] }.restartGap else { l with rxCheck := l.rxCheck ++ [b], gap := none }

/-- R183: a byte with no complete frame held before it. -/
def Link.assemble (b : Byte) (l : Link) : Link :=
  match l.rx with
  | .hunt => if b = Config.syncByte then { l.hunt with rx := .length }.restartGap else l
  | .length =>
    if inRange 2 250 b.toNat then { l with rx := .body, rxLen := b, rxBody := [], rxCheck := [] }.restartGap else l.hunt
  | .body =>
    let l' := { l with rxBody := l.rxBody ++ [b] }.restartGap
    if l'.rxBody.length < l.rxLen.toNat then l' else { l' with rx := .check }
  | .check => l.checkByte b

/-- R183: a byte. A complete frame still held is judged before it (assumption 8). -/
def Link.byte (b : Byte) (l : Link) : Link := l.judge.assemble b

/-! ### Requests and replies (R185, R186) -/

/-- R185: hands a request to its owner. -/
def serve (k : ReqKind) (p : List Byte) (s : State) : State × Reply :=
  match k with
  | .fitEquipment => fitEquipmentRequest (readEquipment p) s
  | .fitAxis => fitAxisRequest (readAxis p) s
  | .fitChannel => fitChannelRequest (readChannel p) s
  | .fitFlow => fitFlowRequest (readFlow p) s
  | .fitProfile => fitProfileRequest (readProfile p) s
  | .fitTiming => fitTimingRequest (readTiming p) s
  | .fitPolicy => fitPolicyRequest (readPolicy p) s
  | .fitInterlock => fitInterlockRequest (readInterlock p) s
  | .fitLamps => fitLampsRequest (readLamps p) s
  | .fitPattern => fitPatternRequest (readPattern p) s
  | .fitScene => fitSceneRequest (readScene p) s
  | .fitRead => fitReadRequest (at8 p 0) (at8 p 1) s
  | .fitLock => fitLockRequest s
  | .submit => submitRequest (readSubmit p) s
  | .cancel => cancelRequest (at16 p 0).toNat s
  | .retire => retireRequest (at16 p 0).toNat s
  | .queryOrder => queryOrderRequest (at16 p 0).toNat s
  | .queryTable => queryTableRequest s
  | .vehicle => vehicleRequest (readVehicle p) s
  | .queryAxes => queryAxesRequest s
  | .queryStatus => queryStatusRequest (at8 p 0) s
  | .queryFaults => queryFaultsRequest s
  | .clearFaults => clearFaultsRequest s
  | .groupReset => groupResetRequest (at8 p 0) s
  | .stopReset => stopResetRequest s
  | .prove => proveRequest s
  | .queryProve => queryProveRequest s
  | .beaconOverride => beaconOverrideRequest (readOverride p) s
  | .setOutput => setOutputRequest (at8 p 0) (at8 p 1) s
  | .standby => standbyRequest s

/-- R185: the two checks of the Link Interface, then the owner. -/
def answer (f : Frame) (s : State) : State × Reply :=
  match ReqKind.ofCode? f.kind with
  | none => (s, .no .unknownKind)
  | some k => if k.lengthOk f.payload then serve k f.payload s else (s, .no .length)

/-- R180: the DONE of an accepted STANDBY. -/
def entersStandby (kind : Byte) : Reply → Bool
  | .done _ => kind == ReqKind.standby.code
  | .refused _ _ _ _ => false

/-- R185: a reply goes into the reply path behind those already there. -/
def queueReply (place : Bool) (kind tag : Byte) (r : Reply) (s : State) : State :=
  s.modLink fun l =>
    { l with replies := l.replies ++
        [{ frame := replyFrame kind tag r, freesPlace := place, entersStandby := entersStandby kind r }] }

/-- R185: the oldest place not yet answered, marked answered. -/
def markAnswered : List Place → List Place
  | [] => []
  | p :: rest => if p.answered then p :: markAnswered rest else { p with answered := true } :: rest

/-- R185: the oldest request not yet answered is handed on; none is from the acceptance of a STANDBY to the entry. -/
def handOn (s : State) : State :=
  match s.link.places.find? (fun p => !p.answered), s.supply.standby with
  | some p, .none =>
    let r := answer p.frame (s.modLink fun l => { l with places := markAnswered l.places })
    queueReply true p.frame.kind p.frame.tag r.2 r.1
  | _, _ => s

/-! ### The transmitter (R187, R188) -/

/-- R188: the numbers of the ENDED records that no notice has carried. -/
def unnoticed (os : List Order) : List Nat :=
  (os.filter fun o => decide (o.state = .ended) && !o.noticed).map (·.number)

/-- R188: the ENDED records are marked noticed. -/
def markNoticed (s : State) : State :=
  { s with seq := { s.seq with orders := s.seq.orders.map fun o => if o.state = .ended then { o with noticed := true } else o } }

/-- R187: the transmitter starts a frame. -/
def transmit (x : Sending) (s : State) : State := s.modLink fun l => { l with tx := some x }

/-- R187, R188: an idle transmitter with no reply to send chooses a notice, STOP, FAULT, then ORDER. -/
def sendNotice (s : State) : State :=
  if s.link.pendStop then transmit (.notice (stopNotice s)) (s.modLink fun l => { l with pendStop := false })
  else if s.link.pendFault then
    transmit (.notice (faultNoticeFrame s.faults)) (s.modLink fun l => { l with pendFault := false })
  else if s.link.pendOrder then
    let s' := s.modLink fun l => { l with pendOrder := false }
    match unnoticed s.seq.orders with
    | [] => s'
    | ns => transmit (.notice (orderNotice ns)) (markNoticed s')
  else s

/-- R187: in RUN, until the reply of an accepted STANDBY has been sent, an idle transmitter takes the oldest reply, else a
notice. -/
def kick (s : State) : State :=
  if s.supply.mode = .run ∧ s.link.tx = none ∧ s.supply.standby ≠ .replied then
    match s.link.replies with
    | r :: rest => transmit (.reply r) (s.modLink fun l => { l with replies := rest })
    | [] => sendNotice s
  else s

/-- R184: the place of the oldest request answered is freed. -/
def freePlace : List Place → List Place
  | [] => []
  | p :: rest => if p.answered then rest else p :: freePlace rest

/-- R184, R180: what a frame wholly sent does. -/
def frameGone (s : State) : State :=
  match s.link.tx with
  | none => s
  | some (.notice _) => s.modLink fun l => { l with tx := none }
  | some (.reply r) =>
    let s := s.modLink fun l =>
      { l with tx := none, places := if r.freesPlace then freePlace l.places else l.places }
    if r.entersStandby ∧ s.supply.standby = .accepted then { s with supply := { s.supply with standby := .replied } } else s

/-! ### The end of an event -/

/-- R7: records that end in a later event rank behind those that ended in this one. -/
def closeRank (s : State) : State :=
  if s.seq.orders.any fun o => decide (o.state = .ended) && o.endRank == s.seq.endRank then
    { s with seq := { s.seq with endRank := s.seq.endRank + 1 } }
  else s

/-- What ends every event: the FAULT notice is judged (R166), the event's ends are ranked (R7), and an idle transmitter
chooses (R187), a reply of this event before a notice that it made pending (assumption 46). -/
def finish (before after : State) : State := kick (closeRank (faultNotice before after))

/-! ### The outcomes of commands -/

/-- The outcome of a command. -/
abbrev Result := Host.Outcome State Fault Refusal

/-- An event with effect f. -/
def event (f : State → State) (s : State) : Result := .next (finish s (f s))

/-- An event that is taken in RUN alone. -/
def runEvent (f : State → State) (s : State) : Result := if s.supply.mode = .run then event f s else .next s

/-- An event that is taken in RUN and in HELD. -/
def awakeEvent (f : State → State) (s : State) : Result := if s.supply.mode = .standby then .next s else event f s

/-- A request given by its row: its owner answers it, and the reply goes to the reply path without a place of the request
buffer (assumption 7). Nothing is handed on outside RUN and after the acceptance of a STANDBY. -/
def request (k : ReqKind) (tag : Byte) (f : State → State × Reply) (s : State) : Result :=
  if s.supply.mode = .run ∧ s.supply.standby = .none then
    event (fun s => queueReply false k.code tag (f s).2 (f s).1) s
  else .next s

end Sys2Proof.Machine
end

