-- ==== Sys2Proof/Machine/Supply.lean ====
section
/-! DEFINITION. The resets and supply states (Chapter 10, with what each block's chapter gives): power-on reset, warm reset, entry to
HELD, standby entry, and the commands that bring them about. -/

namespace Sys2Proof.Machine

/-- Changes the supply side. -/
def State.modSupply (s : State) (f : SupplyState → SupplyState) : State := { s with supply := f s.supply }

/-- The part is in this supply state. -/
def State.inMode (m : Supply) (s : State) : State := s.modSupply fun x => { x with mode := m }

/-! ### What a warm reset and an entry to HELD do alike -/

/-- R192: the link is emptied, and a frame being sent is cut off. -/
def Link.emptied (l : Link) : Link := { l.hunt with places := [], replies := [], tx := none }

/-- R36, R91, R108: every run ends, the Order Table is emptied, the counter is 1 and every control timer stops. -/
def emptyOrders (s : State) : State :=
  let s := Group.all.foldl (fun s g => endRun g s) s
  { s with seq := Sequencer.reset }

/-- R129, R132: a running test is ABANDONED and every channel is released. -/
def releaseDrive (s : State) : State := releaseAll allChannels (abandonProve s)

/-- R68: the pump is OFF with no timer, the lists are empty, and K is C_cold while LOCKED and 0 while OPEN. -/
def resetFlow (s : State) : State :=
  let s := { s with flow := Flow.reset }
  if s.fitment.locked then coldCapacity s else s

/-- R135, R137, R139: every debounced level is inactive and every two-hand machine RELEASED; stability timers stand at t; the
stop states follow. -/
def resetInputs (t : Timer) (s : State) : State :=
  refreshStops
    { s with operator :=
        { s.operator with
          lines := mapTable (fun x => { x with level := false, timer := t }) s.operator.lines
          hands := Vector.replicate 2 TwoHand.reset } }

/-- R172: the entries whose conditions the reset ends go LATCHED. -/
def resetEnds (e : Entry) : Bool :=
  match e.code with
  | .pressureRelief | .pumpStuck | .coilOpen | .skewWarn => true
  | .coilShort | .pumpNoStart | .pumpLost | .skew | .stall | .referenceMismatch | .drift | .statusStale | .lampOpen
  | .lampShort | .latchFault | .provingFailed | .estop => false

/-- R172: the Fault Table at a warm reset or an entry to HELD. -/
def resetFaults (s : State) : State :=
  let t :=
    { s.faults with
      entries := s.faults.entries.map fun e => if resetEnds e then { e with active := false } else e
      resetting := Vector.replicate 3 Option.none }
  { s with faults := t.recompute }

/-- R161: overrides are cleared, every lamp is UNTESTED and uncut, and no player plays. -/
def darken (s : State) : State :=
  { s with beacon :=
      { s.beacon with
        players := Vector.replicate 3 Player.reset
        overrides := Vector.replicate 3 none
        lamps := Vector.replicate 6 ⟨.untested, false⟩ } }

/-- What a warm reset and an entry to HELD do alike, the stability timers standing at t. -/
def clearWork (t : Timer) (s : State) : State :=
  let s := resetFlow (releaseDrive (emptyOrders (s.modLink Link.emptied)))
  darken (resetFaults (resetInputs t { s with vehicle := Vehicle.reset }))

/-- R80, R86: the parked position of every referenced axis is recorded. -/
def parkAll (s : State) : State := Axis.all.foldl (fun s a => recordParked a s) s

/-- R161: the conditions of the scenes as their owners have them. -/
def State.sceneConditions (s : State) : Vector Bool 8 :=
  #v[true, !(s.tracker .tl).inside, s.groupMoves .lift, !(s.tracker .sk).inside, !(s.tracker .sr).inside,
     s.groupMoves .kerb || s.groupMoves .road, s.faults.flags.any, decide (s.operator.estop ≠ .clear)]

/-- The scene conditions are taken over. -/
def takeConditions (s : State) : State := { s with beacon := { s.beacon with active := s.sceneConditions } }

/-! ### Entry to HELD (R177) -/

/-- R36, R86, R108, R132, R135, R161, R172, R177, R192: entry to HELD. -/
def heldEntry (s : State) : State :=
  let s := parkAll (clearWork none s)
  let s := { s with operator := { s.operator with release := none } }
  takeConditions (s.modSupply fun x => { x with mode := .held, standby := .none })

/-! ### Warm reset (R178) -/

/-- R143: the emergency stop machine starts from the loop; its ESTOP entry is made or removed. -/
def restartEstop (s : State) : State :=
  let new : EstopState := if s.operator.loopLine then .active else .clear
  let changed := decide (new ≠ s.operator.estop) || s.operator.loopLine
  let s := { s with operator := { s.operator with estop := new, loopOpen := s.operator.loopLine, release := none } }
  let s := if s.operator.loopLine then raise .estop .none s else removeFaults (·.is .estop .none) s
  if changed then s.noticeStop else s

/-- R87: the trackers at the warm reset of standby exit: new windows, and the switches re-acquired from inactive. -/
def restartTrackers (s : State) : State :=
  let restart := fun (t : Tracker) =>
    { t with net := 0, windowLeft := Config.trackerWindow, home := false, homeTimer := some s.debounceTime }
  { s with trackers := mapTable restart s.trackers }

/-- R78, R80, R86, R87: the trackers at a warm reset. -/
def warmTrackers (cause : ResetCause) (s : State) : State :=
  if cause = .standbyExit then restartTrackers s
  else parkAll (if s.fitment.locked then snapAll s else s)

/-- R161: each player starts the selection that the conditions after the reset give it. -/
def startPlayers (s : State) : State :=
  LampPair.all.foldl (fun s p => s.setPlayer p (s.startedPlayer (s.derived p))) s

/-- R178, and what each block's chapter gives: a warm reset into RUN. -/
def warmReset (cause : ResetCause) (s : State) : State :=
  let s := s.modLink fun l => { l with pendStop := false, pendFault := false, pendOrder := false }
  let s := clearWork (some s.debounceTime) s
  let s := warmTrackers cause (restartEstop s)
  startPlayers <| takeConditions <|
    s.modSupply fun x => { x with mode := .run, standby := .none, lastReset := cause, awaitFirst := false }

/-- R180: leaving standby: the warm reset, then RUN with ENABLE high, HELD with it low. -/
def leaveStandby (s : State) : State :=
  let s := warmReset .standbyExit s
  if s.supply.enable then s else heldEntry s

/-! ### Power-on reset (R179) -/

/-- The raw levels of the lines, which no reset changes, over power-on values. -/
def State.overLines (s base : State) : State :=
  { base with
    pending := s.pending
    free := s.free
    operator :=
      { base.operator with
        loopLine := s.operator.loopLine
        lines := mapTable (fun x => { LineState.reset with raw := x.raw }) s.operator.lines }
    trackers := mapTable (fun t => { Tracker.reset with rawHome := t.rawHome }) s.trackers }

/-- R143: at power-on an open loop starts the stop machine in ACTIVE. -/
def powerOn (s : State) : State :=
  let s := s.overLines State.reset
  if s.operator.loopLine then
    takeConditions (raise .estop .none
      (State.noticeStop { s with operator := { s.operator with estop := .active, loopOpen := true } }))
  else s

/-! ### Standby entry (R180) -/

/-- R87: a tracker at standby entry. -/
def Tracker.standBy (t : Tracker) : Tracker :=
  { t with referenced := false, parked := none, speed := 0, sense := .stationary }

/-- R68: the power pack at standby entry; K is unchanged. -/
def Flow.standBy (f : Flow) : Flow :=
  { f with pump := .off, start := none, runOn := none, stuck := none, waiting := [], granted := [] }

/-- R68, R87, R132, R143, R172, R180, R192: standby entry. The timers that stop with the clock keep their time left, and
nothing counts in STANDBY. The release of a channel latches its COIL_OPEN entry (assumption 43). -/
def enterStandby (s : State) : State :=
  let s := releaseAll allChannels s
  { s with
    flow := s.flow.standBy
    trackers := mapTable Tracker.standBy s.trackers
    operator := { s.operator with release := none }
    faults := { s.faults with resetting := Vector.replicate 3 Option.none }
    supply := { s.supply with mode := .standby, standby := .none } }

/-! ### Commands -/

/-- POWER_ON_RESET (R179). -/
def execPowerOnReset (s : State) : Result := .next (powerOn s)

/-- R177: ENABLE taken low. -/
def enableLow (s : State) : State :=
  let s' := s.modSupply fun x => { x with enable := false, awaitFirst := false }
  match s.supply.mode with
  | .run => heldEntry s'
  | .held =>
    if s.supply.awaitFirst then
      { s' with operator := { s'.operator with lines := mapTable (fun x => { x with timer := none }) s'.operator.lines } }
    else s'
  | .standby => s'

/-- ENABLE_TAKEN_LOW (R177). -/
def execEnableTakenLow (s : State) : Result := event enableLow s

/-- R177, R179, R180: ENABLE taken high. -/
def enableHigh (s : State) : State :=
  let s' := s.modSupply fun x => { x with enable := true, awaitFirst := false }
  match s.supply.mode with
  | .run => s'
  | .held => if s.supply.awaitFirst then startPlayers (takeConditions (State.inMode .run s')) else warmReset .enable s'
  | .standby => leaveStandby s'

/-- ENABLE_TAKEN_HIGH (R177, R179, R180). -/
def execEnableTakenHigh (s : State) : Result := event enableHigh s

/-- R178, R182: a line break, reported once until the line has returned high. -/
def lineBreak (s : State) : State :=
  if s.link.breakReported then s
  else
    let s' := s.modLink fun l => { l with breakReported := true }
    match s.supply.mode with
    | .run => warmReset .lineBreak s'
    | .held => s'
    | .standby => leaveStandby s'

/-- LINE_BREAK (R178). -/
def execLineBreak (s : State) : Result := event lineBreak s

/-- R180: the entry is due once the reply of an accepted STANDBY has been sent. -/
def standbyDue (s : State) : State := if s.supply.standby = .replied then enterStandby s else s

/-- STANDBY_ENTRY (R180). -/
def execStandbyEntry (s : State) : Result := runEvent standbyDue s

end Sys2Proof.Machine
end

