-- ==== Sys2Proof/Machine/RequestCommands.lean ====
section
/-! DEFINITION. The meanings of the thirty requests of Table 11-6 as commands: each is answered by its owner, and its reply goes to
the reply path (assumption 7). -/

namespace Sys2Proof.Machine

/-- FIT_EQUIPMENT (R173). -/
def execFitEquipment (tag : Byte) (r : EquipmentReq) (s : State) : Result := request .fitEquipment tag (fitEquipmentRequest r) s

/-- FIT_AXIS (R70). -/
def execFitAxis (tag : Byte) (r : AxisReq) (s : State) : Result := request .fitAxis tag (fitAxisRequest r) s

/-- FIT_CHANNEL (R109). -/
def execFitChannel (tag : Byte) (r : ChannelReq) (s : State) : Result := request .fitChannel tag (fitChannelRequest r) s

/-- FIT_FLOW (R173). -/
def execFitFlow (tag : Byte) (r : FlowReq) (s : State) : Result := request .fitFlow tag (fitFlowRequest r) s

/-- FIT_PROFILE (R88). -/
def execFitProfile (tag : Byte) (r : ProfileReq) (s : State) : Result := request .fitProfile tag (fitProfileRequest r) s

/-- FIT_TIMING (R173). -/
def execFitTiming (tag : Byte) (r : TimingReq) (s : State) : Result := request .fitTiming tag (fitTimingRequest r) s

/-- FIT_POLICY (R138). -/
def execFitPolicy (tag : Byte) (r : PolicyReq) (s : State) : Result := request .fitPolicy tag (fitPolicyRequest r) s

/-- FIT_INTERLOCK (R44). -/
def execFitInterlock (tag : Byte) (r : InterlockReq) (s : State) : Result := request .fitInterlock tag (fitInterlockRequest r) s

/-- FIT_LAMPS (R148). -/
def execFitLamps (tag : Byte) (r : LampsReq) (s : State) : Result := request .fitLamps tag (fitLampsRequest r) s

/-- FIT_PATTERN (R145). -/
def execFitPattern (tag : Byte) (r : PatternReq) (s : State) : Result := request .fitPattern tag (fitPatternRequest r) s

/-- FIT_SCENE (R150). -/
def execFitScene (tag : Byte) (r : SceneReq) (s : State) : Result := request .fitScene tag (fitSceneRequest r) s

/-- FIT_READ (R174). -/
def execFitRead (tag : Byte) (kind index : Byte) (s : State) : Result := request .fitRead tag (fitReadRequest kind index) s

/-- FIT_LOCK (R175, R176). -/
def execFitLock (tag : Byte) (s : State) : Result := request .fitLock tag fitLockRequest s

/-- SUBMIT (R10 to R14). -/
def execSubmit (tag : Byte) (r : SubmitReq) (s : State) : Result := request .submit tag (submitRequest r) s

/-- CANCEL (R33). -/
def execCancel (tag : Byte) (number : U16) (s : State) : Result := request .cancel tag (cancelRequest number.toNat) s

/-- RETIRE (R8). -/
def execRetire (tag : Byte) (number : U16) (s : State) : Result := request .retire tag (retireRequest number.toNat) s

/-- QUERY_ORDER (R9). -/
def execQueryOrder (tag : Byte) (number : U16) (s : State) : Result := request .queryOrder tag (queryOrderRequest number.toNat) s

/-- QUERY_TABLE (R9). -/
def execQueryTable (tag : Byte) (s : State) : Result := request .queryTable tag queryTableRequest s

/-- VEHICLE (R37). -/
def execVehicle (tag : Byte) (r : VehicleReq) (s : State) : Result := request .vehicle tag (vehicleRequest r) s

/-- QUERY_AXES (R83). -/
def execQueryAxes (tag : Byte) (s : State) : Result := request .queryAxes tag queryAxesRequest s

/-- QUERY_STATUS (R191). -/
def execQueryStatus (tag : Byte) (sec : Byte) (s : State) : Result := request .queryStatus tag (queryStatusRequest sec) s

/-- QUERY_FAULTS (R171). -/
def execQueryFaults (tag : Byte) (s : State) : Result := request .queryFaults tag queryFaultsRequest s

/-- CLEAR_FAULTS (R168). -/
def execClearFaults (tag : Byte) (s : State) : Result := request .clearFaults tag clearFaultsRequest s

/-- GROUP_RESET (R169). -/
def execGroupReset (tag : Byte) (group : Byte) (s : State) : Result := request .groupReset tag (groupResetRequest group) s

/-- STOP_RESET (R142). -/
def execStopReset (tag : Byte) (s : State) : Result := request .stopReset tag stopResetRequest s

/-- PROVE (R126). -/
def execProve (tag : Byte) (s : State) : Result := request .prove tag proveRequest s

/-- QUERY_PROVE (R130). -/
def execQueryProve (tag : Byte) (s : State) : Result := request .queryProve tag queryProveRequest s

/-- BEACON_OVERRIDE (R154). -/
def execBeaconOverride (tag : Byte) (r : OverrideReq) (s : State) : Result := request .beaconOverride tag (beaconOverrideRequest r) s

/-- SET_OUTPUT (R159). -/
def execSetOutput (tag : Byte) (line value : Byte) (s : State) : Result := request .setOutput tag (setOutputRequest line value) s

/-- STANDBY (R180). -/
def execStandby (tag : Byte) (s : State) : Result := request .standby tag standbyRequest s

end Sys2Proof.Machine
end

