-- ==== Sys2Proof/Machine/LinkCommands.lean ====
section
/-! DEFINITION. The meanings of the link's events (Chapter 11): bytes and frames received, requests handed on, frames sent. Outside
RUN the receiver is held in HUNT, or stopped, and nothing is sent (R192). -/

namespace Sys2Proof.Machine

/-- R183: the gap timer expires in the middle of a frame. -/
def Link.gapOut (l : Link) : Link := if l.gap.isSome then l.hunt else l

/-- FRAME_GAP_TIMEOUT (R183). -/
def execFrameGapTimeout (s : State) : Result := runEvent (fun s => s.modLink Link.gapOut) s

/-- FRAMING_ERROR (R182): the receiver returns to HUNT; a frame completed before it has been judged. -/
def execFramingError (s : State) : Result := runEvent (fun s => s.modLink fun l => l.judge.hunt) s

/-- R184: a held frame whose check matches completes. -/
def Link.complete (l : Link) : Link := if l.held && l.checkOk then l.take else l

/-- FRAME_COMPLETE (R184; assumption 8). -/
def execFrameComplete (s : State) : Result := runEvent (fun s => s.modLink Link.complete) s

/-- R183: a held frame whose check does not match is discarded. -/
def Link.mismatch (l : Link) : Link := if l.held && !l.checkOk then l.hunt else l

/-- CHECK_MISMATCH (R183; assumption 8). -/
def execCheckMismatch (s : State) : Result := runEvent (fun s => s.modLink Link.mismatch) s

/-- REQUEST_HANDED_ON (R185). -/
def execRequestHandedOn (s : State) : Result := runEvent handOn s

/-- FRAME_SENT (R187). -/
def execFrameSent (s : State) : Result := runEvent frameGone s

/-- BYTE_RECEIVED (R183). -/
def execByteReceived (b : Byte) (s : State) : Result := runEvent (fun s => s.modLink (Link.byte b)) s

/-- RECEIVE_LINE_RETURNED_HIGH (R182): the next break may be reported. -/
def execReceiveLineReturnedHigh (s : State) : Result := event (fun s => s.modLink fun l => { l with breakReported := false }) s

end Sys2Proof.Machine
end

