-- ==== Sys2Proof/Machine/MotionCommands.lean ====
section
/-! DEFINITION. The meanings of the Motion Sequencer's events (Chapters 1 and 5): the control interval and the expiries of an active
order's timers. An expiry acts while its timer runs (assumption 6). -/

namespace Sys2Proof.Machine

/-- CONTROL_INTERVAL (R1, R50, R92). -/
def execControlInterval (g : Group) (s : State) : Result := runEvent (interval g) s

/-- What an expiry does to the active order of a group, if it has one. -/
def onActive (g : Group) (f : Order → State → State) (s : State) : State :=
  match s.active? g with
  | none => s
  | some o => f o s

/-- R17: the block window expires with the order still BLOCKED. -/
def blockExpiry (g : Group) (s : State) : State :=
  onActive g
    (fun o s =>
      if o.state = .blocked ∧ (s.ctl g).block.isSome then endOrder o .failed (some .interlock) s else s) s

/-- BLOCK_WINDOW_EXPIRY (R17). -/
def execBlockWindowExpiry (g : Group) (s : State) : Result := runEvent (blockExpiry g) s

/-- R18, R25: the hold window expires in HOLD_WAIT or PAUSED. -/
def holdExpiry (g : Group) (s : State) : State :=
  onActive g
    (fun o s =>
      if (o.state = .holdWait ∨ o.state = .paused) ∧ (s.ctl g).hold.isSome then
        endOrder o .failed (some .holdTimeout) s
      else s) s

/-- HOLD_WINDOW_EXPIRY (R18, R25). -/
def execHoldWindowExpiry (g : Group) (s : State) : Result := runEvent (holdExpiry g) s

/-- R27, R30: the phase index of an order advances, and that phase starts. -/
def nextPhase (o : Order) (s : State) : State :=
  let s := s.modOrder o.number fun o => { o with index := o.index + 1, outcome := none }
  advanceGroup o.group (phaseStart o.number s)

/-- R27: the settled order goes on. -/
def settled (o : Order) (s : State) : State :=
  let s := s.modCtl o.group fun c => { c with settle := none }
  match o.outcome, o.pendResult with
  | some .arrived, _ => if o.index + 1 < o.phases.length then nextPhase o s else endOrder o .completed none s
  | some .finish, some res => endOrder o res o.pendReason s
  | _, _ => s

/-- R27: the settle timer expires. -/
def settleExpiry (g : Group) (s : State) : State :=
  onActive g (fun o s => if o.state = .settling ∧ (s.ctl g).settle.isSome then settled o s else s) s

/-- SETTLE_TIMER_EXPIRY (R27). -/
def execSettleTimerExpiry (g : Group) (s : State) : Result := runEvent (settleExpiry g) s

/-- R31: the latch check fails: the order ends FAILED LATCH and LATCH_FAULT is raised. -/
def latchCheckFailed (o : Order) (s : State) : State :=
  let old := s.faults.flags
  reportFlags old (endOrder o .failed (some .latch) (raiseOnce .latchFault (.group o.group) s))

/-- R31: the latch check timer expires. -/
def latchCheckExpiry (g : Group) (s : State) : State :=
  onActive g
    (fun o s =>
      if o.state = .moving ∧ o.phaseIs .check ∧ (s.ctl g).latchCheck.isSome then latchCheckFailed o s else s) s

/-- LATCH_CHECK_TIMER_EXPIRY (R31). -/
def execLatchCheckTimerExpiry (g : Group) (s : State) : Result := runEvent (latchCheckExpiry g) s

/-- R21: the moving time reaches the time limit in force. -/
def limitReached (g : Group) (s : State) : State :=
  onActive g (fun o s => if o.state = .moving ∧ o.inMovement then stopFailed o.number .timeout s else s) s

/-- TIME_LIMIT_REACHED (R21). -/
def execTimeLimitReached (g : Group) (s : State) : Result := runEvent (limitReached g) s

/-- RESETTING_TIMER_EXPIRY, R170: a LATCHED entry whose subject lies in the group. -/
def recoversWith (g : Group) (e : Entry) : Bool := !e.active && decide (e.subject.group? = some g)

/-- R170: the group becomes READY and its LATCHED entries are removed. -/
def resettingExpiry (g : Group) (s : State) : State :=
  if s.faults.resetting[g.idx].isSome then
    reportFlags s.faults.flags (removeFaults (recoversWith g) (setResetting g none s))
  else s

/-- RESETTING_TIMER_EXPIRY (R170). -/
def execResettingTimerExpiry (g : Group) (s : State) : Result := runEvent (resettingExpiry g) s

end Sys2Proof.Machine
end

