-- ==== Sys2Proof/Machine/PlantCommands.lean ====
section
/-! DEFINITION. The meanings of the events of the vehicle status, the power pack (Chapter 3), the Axis Trackers (Chapter 4) and the
Drive Unit (Chapter 6). Measured currents are in mA. -/

namespace Sys2Proof.Machine

/-! ### Vehicle status and pump -/

/-- R39: the status timer expires. -/
def statusExpiry (s : State) : State :=
  if s.vehicle.timer.isSome then
    let s := { s with vehicle := { s.vehicle with fresh := false, timer := none } }
    capacityEvent (raiseFault .statusStale .none s)
  else s

/-- STATUS_TIMER_EXPIRY (R39). -/
def execStatusTimerExpiry (s : State) : Result := runEvent statusExpiry s

/-- R61: the pump runs: every granted claim is ready. -/
def pumpStarted (s : State) : State :=
  if s.flow.granted.isEmpty then enterRunOn s
  else
    let s := s.modFlow fun fl =>
      { fl with pump := .running, start := none, granted := fl.granted.map fun c => { c with ready := true } }
    reportReady (s, claimShares s.flow.granted)

/-- R29, R62: the start has failed: the claims granted are removed, their orders end FAILED PUMP from CLAIMING, the pump goes
OFF and PUMP_NO_START is raised; then the groups of those orders go on (assumption 10), one after another in the
submission order of those orders (assumption 39). -/
def startFailed (s : State) : State :=
  let hit := s.seq.orders.filter fun o => decide (o.state = .claiming) && claimed o.number s.flow.granted
  let s := s.modFlow fun fl => { fl with granted := [] }
  let s := pumpOff (hit.foldl (fun s o => markEnded o.number .failed (some .pump) s) s)
  hit.foldl (fun s o => advanceGroup o.group s) (raiseFaultOnce .pumpNoStart .none s)

/-- R61, R62: the start timer expires. -/
def startExpiry (s : State) : State :=
  if s.flow.pump = .starting ∧ s.flow.start.isSome then
    if s.level .prs then pumpStarted s else startFailed s
  else s

/-- START_TIMER_EXPIRY (R61, R62). -/
def execStartTimerExpiry (s : State) : Result := runEvent startExpiry s

/-- R64: the run-on timer expires. -/
def runOnExpiry (s : State) : State := if s.flow.pump = .runOn ∧ s.flow.runOn.isSome then pumpOff s else s

/-- RUN_ON_TIMER_EXPIRY (R64). -/
def execRunOnTimerExpiry (s : State) : Result := runEvent runOnExpiry s

/-- R65: the stuck timer expires. -/
def stuckExpiry (s : State) : State :=
  if s.flow.pump = .off ∧ s.flow.stuck.isSome then
    raiseFault .pumpStuck .none (s.modFlow fun fl => { fl with stuck := none })
  else s

/-- STUCK_TIMER_EXPIRY (R65). -/
def execStuckTimerExpiry (s : State) : Result := runEvent stuckExpiry s

/-! ### Axis Trackers -/

/-- R71: a tracker counts while its record is present. -/
def pulse (a : Axis) (forward : Bool) (s : State) : State :=
  match s.axisRec? a with
  | none => s
  | some r => countPulse r a forward s

/-- PULSE_COUNTED (R71, R72, R79, R81). -/
def execPulseCounted (a : Axis) (forward : Bool) (s : State) : Result := awakeEvent (pulse a forward) s

/-- R73: a window ends while the tracker's record is present. -/
def windowOver (a : Axis) (s : State) : State :=
  match s.axisRec? a with
  | none => s
  | some r => windowEnd r a s

/-- TRACKER_WINDOW_END (R73, R74). -/
def execTrackerWindowEnd (a : Axis) (s : State) : Result := awakeEvent (windowOver a) s

/-- R75: a raw change of a home switch restarts its debounce; in STANDBY it is not taken. -/
def homeRaw (a : Axis) (level : Bool) (s : State) : State :=
  if (s.tracker a).rawHome = level then s
  else
    s.modTracker a fun t =>
      { t with rawHome := level, homeTimer := if s.supply.mode = .standby then t.homeTimer else some s.debounceTime }

/-- HOME_SWITCH_RAW_CHANGE (R75). -/
def execHomeSwitchRawChange (a : Axis) (level : Bool) (s : State) : Result := event (homeRaw a level) s

/-- R75: the switch has stood for the debounce time. -/
def homeExpiry (a : Axis) (s : State) : State := if (s.tracker a).homeTimer.isSome then takeHome a s else s

/-- HOME_SWITCH_DEBOUNCE_EXPIRY (R75, R76). -/
def execHomeSwitchDebounceExpiry (a : Axis) (s : State) : Result := awakeEvent (homeExpiry a) s

/-! ### Drive Unit -/

/-- PERIOD_BOUNDARY (R113, R114). -/
def execPeriodBoundary (c : PropChannel) (s : State) : Result := runEvent (boundary (c.castLE (by decide))) s

/-- DEAD_TIME_EXPIRY (R116). -/
def execDeadTimeExpiry (p : PairNo) (s : State) : Result := awakeEvent (deadExpiry p) s

/-- R30: a completed pulse advances the PULSE phase of the order that asked for it. -/
def pulseDone (n : Nat) (s : State) : State :=
  match s.order? n with
  | none => s
  | some o => if o.state = .moving ∧ o.phaseIs .pulse then nextPhase o s else s

/-- R120: the pulse timer expires. -/
def pulseExpiry (d : Side) (s : State) : State :=
  let x := s.chan d.latch
  match decide (x.state = .running), x.pulse, x.requester with
  | true, some _, some n =>
    pulseDone n (latch .coilOpen (.channel d.latch) (s.modChan d.latch fun _ => Chan.reset))
  | _, _, _ => s

/-- PULSE_TIMER_EXPIRY (R120). -/
def execPulseTimerExpiry (d : Side) (s : State) : Result := runEvent (pulseExpiry d) s

/-- The open threshold of a channel. -/
def State.openThr (s : State) (c : Channel) : Nat := ((s.chanRec? c).map (·.openThr)).getD 0

/-- R125: a coil fault just entered is reported: the phase that drives the channel ends FAILED COIL, then the flags. -/
def coilReport (old : Inhibits) (c : Channel) (s : State) : State :=
  reportFlags old <|
    match s.active? (channelGroup c) with
    | none => s
    | some o => if o.drives.contains c then immediateEnd (channelGroup c) .coil s else s

/-- R122, R123: COIL_OPEN is raised. -/
def coilOpenFound (c : Channel) (s : State) : State := coilReport s.faults.flags c (raise .coilOpen (.channel c) s)

/-- R123: the check at 20 ms into a latch pulse. -/
def pulseCheck (d : Side) (current : Nat) (s : State) : State :=
  if (s.chan d.latch).state = .running ∧ current < s.openThr d.latch then coilOpenFound d.latch s else s

/-- LATCH_COIL_CHECK (R123). -/
def execLatchCoilCheck (d : Side) (current : Nat) (s : State) : Result := runEvent (pulseCheck d current) s

/-- R122: a measurement of a driven proportional channel. -/
def measure (c : Channel) (current : Nat) (s : State) : State :=
  let x := s.chan c
  if x.state = .idle ∨ x.onTime < Config.minMeasuredOn then s
  else if current < s.openThr c then
    if x.low + 1 < Config.lowLimit then s.modChan c fun x => { x with low := x.low + 1 }
    else coilOpenFound c (s.modChan c fun x => { x with low := 0 })
  else s.modChan c fun x => { x with low := 0 }

/-- COIL_MEASUREMENT (R122). -/
def execCoilMeasurement (c : PropChannel) (current : Nat) (s : State) : Result :=
  runEvent (measure (c.castLE (by decide)) current) s

/-- R124, R127: a current above the short threshold; a channel is watched for as long as its output is on (R111). -/
def coilShort (c : Channel) (s : State) : State :=
  if s.drive.prove.driving = some c then finishDrive c .short s
  else if s.outputOn c then coilReport s.faults.flags c (raiseOnce .coilShort (.channel c) (release c s))
  else s

/-- COIL_SHORT_DETECTED (R124, R127). -/
def execCoilShortDetected (c : Channel) (s : State) : Result := runEvent (coilShort c) s

/-- R127: the next proving drive starts when it may (assumption 6). -/
def proveNext (s : State) : State :=
  match s.mayDrive? with
  | some c => startDrive c s
  | none => s

/-- PROVING_DRIVE_START (R127). -/
def execProvingDriveStart (s : State) : Result := runEvent proveNext s

/-- R127: the 5 ms of a proving drive are over, and the current is judged. -/
def proveOver (current : Nat) (s : State) : State :=
  match s.drive.prove.driving with
  | none => s
  | some c => finishDrive c (if current < s.openThr c then .open_ else .pass) s

/-- PROVING_DRIVE_END (R127, R128). -/
def execProvingDriveEnd (current : Nat) (s : State) : Result := runEvent (proveOver current) s

end Sys2Proof.Machine
end

