-- ==== Sys2Proof/Machine/PanelCommands.lean ====
section
/-! DEFINITION. The meanings of the events of the operator inputs and the emergency stop (Chapter 7) and of the beacons (Chapter 8).
Measured currents are in mA. -/

namespace Sys2Proof.Machine

/-! ### Operator inputs -/

/-- R133: a raw change restarts the line's stability timer; outside RUN none runs. -/
def inputRaw (l : Line) (level : Bool) (s : State) : State :=
  if (s.line l).raw = level then s
  else
    s.modLine l fun x =>
      { x with raw := level, timer := if s.supply.mode = .run then some s.debounceTime else x.timer }

/-- INPUT_RAW_CHANGE (R133). -/
def execInputRawChange (l : Line) (level : Bool) (s : State) : Result := event (inputRaw l level) s

/-- R133: a stability timer expires. -/
def inputExpiry (l : Line) (s : State) : State :=
  if (s.line l).timer.isSome then
    let s := s.modLine l fun x => { x with timer := none }
    if (s.line l).raw = (s.line l).level then s else takeLine l s
  else s

/-- INPUT_DEBOUNCE_EXPIRY (R133, R134). -/
def execInputDebounceExpiry (l : Line) (s : State) : Result := runEvent (inputExpiry l) s

/-- R137: the two-hand window expires in HALF. -/
def handExpiry (t : Fin 2) (s : State) : State :=
  if (s.hand t).state = .half ∧ (s.hand t).window.isSome then moveHand t ⟨.lockout, none⟩ s else s

/-- TWO_HAND_WINDOW_EXPIRY (R137). -/
def execTwoHandWindowExpiry (t : Fin 2) (s : State) : Result := runEvent (handExpiry t) s

/-! ### Emergency stop -/

/-- The ESTOP loop's line takes a level. -/
def setLoopLine (v : Bool) (s : State) : State := { s with operator := { s.operator with loopLine := v } }

/-- The level of the ESTOP loop is taken by the machine. -/
def takeLoop (v : Bool) (s : State) : State := { s with operator := { s.operator with loopOpen := v } }

/-- R140, R141: the machine takes an opening. -/
def estopOpening (s : State) : State :=
  let s := takeLoop true s
  match s.operator.estop with
  | .clear => estopFromClear s
  | .active => s
  | .held | .releasable => setEstop .active none s

/-- R140, R143: an opening of the loop; the machine takes it in RUN alone. -/
def loopOpens (s : State) : State :=
  let s := setLoopLine true s
  if s.supply.mode = .run then estopOpening s else s

/-- LOOP_OPENING (R140, R141). -/
def execLoopOpening (s : State) : Result := event loopOpens s

/-- R140: the machine takes a closing. -/
def estopClosing (s : State) : State :=
  let s := takeLoop false s
  if s.operator.estop = .active then setEstop .held (some s.releaseTime) s else s

/-- R140, R143: a closing of the loop; the machine takes it in RUN alone. -/
def loopCloses (s : State) : State :=
  let s := setLoopLine false s
  if s.supply.mode = .run then estopClosing s else s

/-- LOOP_CLOSING (R140). -/
def execLoopClosing (s : State) : Result := event loopCloses s

/-- R140: the release timer expires in HELD. -/
def releaseExpiry (s : State) : State :=
  if s.operator.estop = .held ∧ s.operator.release.isSome then setEstop .releasable none s else s

/-- RELEASE_TIMER_EXPIRY (R140). -/
def execReleaseTimerExpiry (s : State) : Result := runEvent releaseExpiry s

/-! ### Beacons -/

/-- STEP_TIMER_EXPIRY (R147). -/
def execStepTimerExpiry (p : LampPair) (s : State) : Result := runEvent (stepExpiry p) s

/-- R155: an override timer expires. -/
def overrideExpiry (p : LampPair) (s : State) : State :=
  if (s.override? p).any fun v => v.timer.isSome then dropOverride p s else s

/-- OVERRIDE_TIMER_EXPIRY (R155). -/
def execOverrideTimerExpiry (p : LampPair) (s : State) : Result := runEvent (overrideExpiry p) s

/-- Writes a lamp's health. -/
def setHealth (l : Lamp) (h : Health) (s : State) : State := s.setLamp l { s.lamp l with health := h }

/-- R156, R158: a measurement of a lamp driven on; a discrete line is not measured (R159). -/
def measureLamp (l : Lamp) (current : Nat) (s : State) : State :=
  if s.lampDriven l && !s.lampIsDiscrete l then
    if current < Config.lampOpen then raiseFault .lampOpen (.lamp l) (setHealth l .open_ s)
    else latch .lampOpen (.lamp l) (setHealth l .healthy s)
  else s

/-- LAMP_MEASUREMENT (R156). -/
def execLampMeasurement (l : Lamp) (current : Nat) (s : State) : Result := runEvent (measureLamp l current) s

/-- R159: a short on a discrete line turns its latch off. -/
def shortLatch (l : Lamp) (s : State) : State := if s.lampIsDiscrete l then s.setLatch l.pair false else s

/-- R157 to R159: a lamp's current rises above 3 A while its line is driven on. LAMP_OPEN is latched before LAMP_SHORT is raised
(assumption 39). -/
def shortLamp (l : Lamp) (s : State) : State :=
  if s.lampDriven l then
    raiseFaultOnce .lampShort (.lamp l) (latch .lampOpen (.lamp l) (shortLatch l (s.setLamp l ⟨.shorted, true⟩)))
  else s

/-- LAMP_SHORT_DETECTED (R157). -/
def execLampShortDetected (l : Lamp) (s : State) : Result := runEvent (shortLamp l) s

end Sys2Proof.Machine
end

