-- ==== Sys2Proof/Machine/Clock.lean ====
section
/-! DEFINITION. The passing of one millisecond (assumption 5): the time counter counts, the timers that run in the present supply
state count down, and moving orders gather moving time (R21). What happens when a timer has run out is its expiry's
command. -/

namespace Sys2Proof.Machine

/-- R21: the place of an order kind among its profile's default time limits (Table 5-1). -/
def OrderKind.limitIdx : OrderKind → Nat
  | .raiseTo => 0 | .lowerTo => 1 | .tiltTo => 2 | .deploy => 3 | .stow => 4 | .home => 5 | .openShutter => 0
  | .closeShutter => 1

/-- R21: the profile that holds the default time limit of a group's kinds. -/
def limitProfile : Group → Profile
  | .lift => .lift
  | .kerb | .road => .shutter

/-- R21: the time limit in force, in ms. -/
def State.limitInForce (s : State) (o : Order) : Nat :=
  1000 * o.limit.getD (((s.profile? (limitProfile o.group)).bind fun r => r.limits.toList[o.kind.limitIdx]?).getD 0)

/-- R21: a millisecond of moving time, up to the limit in force. -/
def State.tickOrder (s : State) (o : Order) : Order :=
  if o.state = .moving ∧ o.inMovement then { o with movingTime := max o.movingTime (min (o.movingTime + 1) (s.limitInForce o)) }
  else o

/-- The control timers and the control interval of a group. -/
def GroupCtl.tick (c : GroupCtl) : GroupCtl :=
  { block := c.block.tick, hold := c.hold.tick, settle := c.settle.tick, latchCheck := c.latchCheck.tick,
    interval := c.interval - 1 }

/-- R73, R75: a tracker's window, while its record is present, and its debounce. -/
def Tracker.tick (present : Bool) (t : Tracker) : Tracker :=
  { t with windowLeft := if present then t.windowLeft - 1 else t.windowLeft, homeTimer := t.homeTimer.tick }

/-- R120: a channel's pulse timer. -/
def Chan.tick (x : Chan) : Chan := { x with pulse := x.pulse.tick }

/-- R115: a pair's dead-time timer. -/
def Pair.tick (x : Pair) : Pair := { x with dead := x.dead.tick }

/-- R127: the drive and the wait of a proving test. -/
def Prove.tick (x : Prove) : Prove := { x with drive := x.drive.tick, gap := x.gap.tick }

/-- R133: a line's stability timer. -/
def LineState.tick (x : LineState) : LineState := { x with timer := x.timer.tick }

/-- R137: a two-hand window. -/
def TwoHand.tick (x : TwoHand) : TwoHand := { x with window := x.window.tick }

/-- R147: a step timer. -/
def Player.tick (x : Player) : Player := { x with timer := x.timer.tick }

/-- R155: an override timer. -/
def Override.tick (x : Override) : Override := { x with timer := x.timer.tick }

/-- R65, R61, R64: the timers of the pump machine. -/
def Flow.tick (x : Flow) : Flow := { x with start := x.start.tick, runOn := x.runOn.tick, stuck := x.stuck.tick }

/-- What counts in HELD as in RUN: the time counter, the trackers and the dead-times. -/
def tickAwake (s : State) : State :=
  { s with
    supply := { s.supply with time := s.supply.time + 1 }
    trackers := Axis.all.foldl (fun v a => v.set a.idx ((v[a.idx]).tick (s.axisRec? a).isSome)) s.trackers
    drive := { s.drive with pairs := mapTable Pair.tick s.drive.pairs } }

/-- What counts in RUN alone. -/
def tickRun (s : State) : State :=
  { s with
    seq := { s.seq with orders := s.seq.orders.map s.tickOrder, ctl := mapTable GroupCtl.tick s.seq.ctl }
    vehicle := { s.vehicle with timer := s.vehicle.timer.tick }
    flow := s.flow.tick
    drive := { s.drive with chans := mapTable Chan.tick s.drive.chans, prove := s.drive.prove.tick }
    operator :=
      { s.operator with
        lines := mapTable LineState.tick s.operator.lines
        hands := mapTable TwoHand.tick s.operator.hands
        release := s.operator.release.tick }
    beacon :=
      { s.beacon with
        players := mapTable Player.tick s.beacon.players
        overrides := mapTable (·.map Override.tick) s.beacon.overrides }
    faults := { s.faults with resetting := mapTable Timer.tick s.faults.resetting }
    link := { s.link with gap := s.link.gap.tick } }

/-- One millisecond passes. -/
def tick (s : State) : State :=
  match s.supply.mode with
  | .run => tickRun (tickAwake s)
  | .held => tickAwake s
  | .standby => s

end Sys2Proof.Machine
end

