-- ==== Sys2Proof/Machine/Dispatch.lean ====
section
/-! DEFINITION. The dispatch of the commands to their meanings, one arm for each row of the table of operations and events. -/

namespace Sys2Proof.Machine

def exec (i : Instr) (s : State) : Host.Outcome State Fault Refusal :=
  match i with
  | .powerOnReset => Sys2Proof.Machine.execPowerOnReset s
  | .enableTakenLow => Sys2Proof.Machine.execEnableTakenLow s
  | .enableTakenHigh => Sys2Proof.Machine.execEnableTakenHigh s
  | .lineBreak => Sys2Proof.Machine.execLineBreak s
  | .standbyEntry => Sys2Proof.Machine.execStandbyEntry s
  | .frameGapTimeout => Sys2Proof.Machine.execFrameGapTimeout s
  | .framingError => Sys2Proof.Machine.execFramingError s
  | .frameComplete => Sys2Proof.Machine.execFrameComplete s
  | .checkMismatch => Sys2Proof.Machine.execCheckMismatch s
  | .requestHandedOn => Sys2Proof.Machine.execRequestHandedOn s
  | .frameSent => Sys2Proof.Machine.execFrameSent s
  | .fitEquipment tag r => Sys2Proof.Machine.execFitEquipment tag r s
  | .fitAxis tag r => Sys2Proof.Machine.execFitAxis tag r s
  | .fitChannel tag r => Sys2Proof.Machine.execFitChannel tag r s
  | .fitFlow tag r => Sys2Proof.Machine.execFitFlow tag r s
  | .fitProfile tag r => Sys2Proof.Machine.execFitProfile tag r s
  | .fitTiming tag r => Sys2Proof.Machine.execFitTiming tag r s
  | .fitPolicy tag r => Sys2Proof.Machine.execFitPolicy tag r s
  | .fitInterlock tag r => Sys2Proof.Machine.execFitInterlock tag r s
  | .fitLamps tag r => Sys2Proof.Machine.execFitLamps tag r s
  | .fitPattern tag r => Sys2Proof.Machine.execFitPattern tag r s
  | .fitScene tag r => Sys2Proof.Machine.execFitScene tag r s
  | .fitRead tag kind index => Sys2Proof.Machine.execFitRead tag kind index s
  | .fitLock tag => Sys2Proof.Machine.execFitLock tag s
  | .submit tag r => Sys2Proof.Machine.execSubmit tag r s
  | .cancel tag number => Sys2Proof.Machine.execCancel tag number s
  | .retire tag number => Sys2Proof.Machine.execRetire tag number s
  | .queryOrder tag number => Sys2Proof.Machine.execQueryOrder tag number s
  | .queryTable tag => Sys2Proof.Machine.execQueryTable tag s
  | .vehicle tag r => Sys2Proof.Machine.execVehicle tag r s
  | .queryAxes tag => Sys2Proof.Machine.execQueryAxes tag s
  | .queryStatus tag sec => Sys2Proof.Machine.execQueryStatus tag sec s
  | .queryFaults tag => Sys2Proof.Machine.execQueryFaults tag s
  | .clearFaults tag => Sys2Proof.Machine.execClearFaults tag s
  | .groupReset tag group => Sys2Proof.Machine.execGroupReset tag group s
  | .stopReset tag => Sys2Proof.Machine.execStopReset tag s
  | .prove tag => Sys2Proof.Machine.execProve tag s
  | .queryProve tag => Sys2Proof.Machine.execQueryProve tag s
  | .beaconOverride tag r => Sys2Proof.Machine.execBeaconOverride tag r s
  | .setOutput tag line value => Sys2Proof.Machine.execSetOutput tag line value s
  | .standby tag => Sys2Proof.Machine.execStandby tag s
  | .controlInterval g => Sys2Proof.Machine.execControlInterval g s
  | .blockWindowExpiry g => Sys2Proof.Machine.execBlockWindowExpiry g s
  | .holdWindowExpiry g => Sys2Proof.Machine.execHoldWindowExpiry g s
  | .settleTimerExpiry g => Sys2Proof.Machine.execSettleTimerExpiry g s
  | .latchCheckTimerExpiry g => Sys2Proof.Machine.execLatchCheckTimerExpiry g s
  | .timeLimitReached g => Sys2Proof.Machine.execTimeLimitReached g s
  | .statusTimerExpiry => Sys2Proof.Machine.execStatusTimerExpiry s
  | .startTimerExpiry => Sys2Proof.Machine.execStartTimerExpiry s
  | .runOnTimerExpiry => Sys2Proof.Machine.execRunOnTimerExpiry s
  | .stuckTimerExpiry => Sys2Proof.Machine.execStuckTimerExpiry s
  | .pulseCounted a forward => Sys2Proof.Machine.execPulseCounted a forward s
  | .trackerWindowEnd a => Sys2Proof.Machine.execTrackerWindowEnd a s
  | .homeSwitchRawChange a level => Sys2Proof.Machine.execHomeSwitchRawChange a level s
  | .homeSwitchDebounceExpiry a => Sys2Proof.Machine.execHomeSwitchDebounceExpiry a s
  | .inputRawChange l level => Sys2Proof.Machine.execInputRawChange l level s
  | .inputDebounceExpiry l => Sys2Proof.Machine.execInputDebounceExpiry l s
  | .twoHandWindowExpiry t => Sys2Proof.Machine.execTwoHandWindowExpiry t s
  | .loopOpening => Sys2Proof.Machine.execLoopOpening s
  | .loopClosing => Sys2Proof.Machine.execLoopClosing s
  | .releaseTimerExpiry => Sys2Proof.Machine.execReleaseTimerExpiry s
  | .periodBoundary c => Sys2Proof.Machine.execPeriodBoundary c s
  | .deadTimeExpiry p => Sys2Proof.Machine.execDeadTimeExpiry p s
  | .pulseTimerExpiry d => Sys2Proof.Machine.execPulseTimerExpiry d s
  | .latchCoilCheck d current => Sys2Proof.Machine.execLatchCoilCheck d current s
  | .coilMeasurement c current => Sys2Proof.Machine.execCoilMeasurement c current s
  | .coilShortDetected c => Sys2Proof.Machine.execCoilShortDetected c s
  | .provingDriveStart => Sys2Proof.Machine.execProvingDriveStart s
  | .provingDriveEnd current => Sys2Proof.Machine.execProvingDriveEnd current s
  | .stepTimerExpiry p => Sys2Proof.Machine.execStepTimerExpiry p s
  | .overrideTimerExpiry p => Sys2Proof.Machine.execOverrideTimerExpiry p s
  | .lampMeasurement l current => Sys2Proof.Machine.execLampMeasurement l current s
  | .lampShortDetected l => Sys2Proof.Machine.execLampShortDetected l s
  | .resettingTimerExpiry g => Sys2Proof.Machine.execResettingTimerExpiry g s
  | .byteReceived b => Sys2Proof.Machine.execByteReceived b s
  | .receiveLineReturnedHigh => Sys2Proof.Machine.execReceiveLineReturnedHigh s

end Sys2Proof.Machine
end

