-- ==== Sys2Proof/Safety.lean ====
section
/-! DEFINITION. The terms in which statements about the part are made: what of a state an event's end may still change (quiet),
the replies a request leaves, the states in which a request is answered, the effects that several commands share, and the
invariants of the blocks. -/

namespace Sys2Proof.Machine

/-! ### A state but for its transmitter -/

/-- R187: the replies not wholly sent, in the order in which they leave, the one being sent first. -/
def Link.outgoing (l : Link) : List OutReply :=
  match l.tx with
  | some (.reply r) => r :: l.replies
  | some (.notice _) | none => l.replies

/-- A record less its noticed field, which the gathering of an ORDER notice sets (R188). -/
def Order.unmarked (o : Order) : Order := { o with noticed := false }

/-- The records of the Order Table less their noticed fields. -/
def State.records (s : State) : List Order := s.seq.orders.map Order.unmarked

/-- A state but for what the end of an event may still change: the pending notices, what of the outgoing replies is already
with the transmitter, the noticed fields, and the model's own count of ends. Two states of equal quiet agree in everything
else, the outgoing replies included. -/
def State.quiet (s : State) : State :=
  { s with
    link := { s.link with replies := s.link.outgoing, tx := none, pendStop := false, pendFault := false, pendOrder := false }
    seq := { s.seq with orders := s.records, endRank := 0 } }

/-! ### Requests and replies -/

/-- The Link Interface hands requests on: the part is in RUN and no STANDBY has been accepted (R185). -/
def State.answers (s : State) : Prop := s.supply.mode = .run ∧ s.supply.standby = .none

/-- The reply path with one more reply behind those already there (R185), for a request without a place of the request
buffer. -/
def State.withReply (f : Frame) (enters : Bool) (s : State) : State :=
  { s with link := { s.link with replies := s.link.replies ++ [{ frame := f, freesPlace := false, entersStandby := enters }] } }

/-- R186: a DONE reply to a request of this KIND and TAG; that of STANDBY is the one whose sending leads into standby. -/
def State.doneReply (kind tag : Byte) (payload : List Byte) (s : State) : State :=
  s.withReply ⟨0x80 + kind, tag, payload⟩ (kind == 0x2B)

/-- R186, Table 11-2: a REFUSED reply with a reason code and three details. -/
def State.refusedReply (kind tag reason d1 d2 d3 : Byte) (s : State) : State :=
  s.withReply ⟨0xFF, tag, [kind, reason, d1, d2, d3]⟩ false

/-! ### Orders -/

/-- No group has an active order. -/
def State.noActive (s : State) : Prop := ∀ g, s.active? g = none

/-- The record o of the table goes to STOPPING with this outcome and pending end, and no other record changes. -/
def State.stopsAs (s t : State) (o : Order) (out : StopOutcome) (res : Option OrderResult) (why : Option Reason) : Prop :=
  t.records =
    (s.seq.orders.map fun x =>
      if x.number = o.number then { x with state := .stopping, outcome := some out, pendResult := res, pendReason := why }
      else x).map Order.unmarked

/-- The record o of the table goes to SETTLING with outcome END, pending FAILED with this reason (R28), and no other record
changes. -/
def State.settlesFailed (s t : State) (o : Order) (why : Reason) : Prop :=
  t.records =
    (s.seq.orders.map fun x =>
      if x.number = o.number then
        { x with state := .settling, outcome := some .finish, pendResult := some .failed, pendReason := some why }
      else x).map Order.unmarked

/-- The record o of the table reaches ENDED with this result and reason (R32), and no other record changes. -/
def State.endsAs (s t : State) (o : Order) (res : OrderResult) (why : Option Reason) : Prop :=
  t.records =
    (s.seq.orders.map fun x =>
      if x.number = o.number then
        { x with state := .ended, endedAt := some s.supply.time, result := some res, reason := why,
                 residual := if x.group = .lift then some s.skew else none, outcome := none, pendResult := none,
                 pendReason := none, endRank := s.seq.endRank }
      else x).map Order.unmarked

/-! ### Plans, gates and phase starts -/

/-- R2, R3, R13, Tables 1-1 and 1-2: what a SUBMIT of kind k fixes of its order: phases, target, level, speed class and the
clamped field. A TILT_TO has no class before its phase start, and with the LEVEL form no target of the rules either. -/
def State.plansOrder (s : State) (r : SubmitReq) (k : OrderKind) (o : Order) : Prop :=
  let x := r.target.toInt
  let lift := clampTo s.liftLimits.1 s.liftLimits.2
  let tilt := clampTo (s.softLimits .tl).1 (s.softLimits .tl).2
  let homes := (s.home .lk + s.home .lr) / 2
  let referenced := ∀ a ∈ r.group.axes, (s.tracker a).referenced = true
  (match k with
    | .raiseTo =>
      o.target = some (lift x) ∧ o.level = false ∧ o.clamped = decide (lift x ≠ x) ∧
        o.phases = [⟨.pumped, some .liftUp, lift x, .target, true⟩]
    | .lowerTo =>
      o.target = some (lift x) ∧ o.level = false ∧ o.clamped = decide (lift x ≠ x) ∧
        o.phases = [⟨.gravity, some .liftDown, lift x, .target, true⟩]
    | .tiltTo =>
      (r.form = 1 →
        o.target = some (tilt x) ∧ o.level = false ∧ o.clamped = decide (tilt x ≠ x) ∧
          o.phases = [⟨.pumped, none, tilt x, .target, false⟩]) ∧
      (r.form = 2 →
        o.target = none ∧ o.level = true ∧ o.clamped = false ∧ ∃ z, o.phases = [⟨.pumped, none, z, .target, false⟩])
    | .deploy =>
      o.target = none ∧ o.level = false ∧ ∀ q, s.profile? .tilt = some q →
        o.clamped = decide (tilt q.level ≠ q.level) ∧
          o.phases = [⟨.pumped, some .tiltOut, tilt q.level, .target, false⟩, ⟨.gravity, some .liftDown, homes, .switch, true⟩]
    | .stow =>
      o.target = none ∧ o.level = false ∧ ∀ q, s.profile? .lift = some q →
        o.clamped = decide (lift q.bed ≠ q.bed) ∧
          o.phases = [⟨.pumped, some .liftUp, lift q.bed, .target, true⟩,
                      ⟨.pumped, some .tiltIn, s.home .tl, .switch, false⟩]
    | .home =>
      o.target = none ∧ o.level = false ∧ o.clamped = decide (r.speed ≠ 0) ∧
        o.phases = [⟨.gravity, some .liftDown, homes, .switch, false⟩]
    | .openShutter =>
      o.target = none ∧ o.level = false ∧ ∀ (d : Side) (q : AxisRec), r.group = d.group → s.axisRec? d.axis = some q →
        let up := clampTo q.softLower q.softUpper q.openPos
        o.clamped = decide (up ≠ q.openPos) ∧
          o.phases = [⟨.pulse, some d.openClass, 0, .pulseDone, false⟩, ⟨.pumped, some d.openClass, up, .target, false⟩]
    | .closeShutter =>
      o.target = none ∧ o.level = false ∧ (referenced → o.clamped = false) ∧ (¬ referenced → o.clamped = decide (r.speed ≠ 0)) ∧
        ∀ d : Side, r.group = d.group →
          o.phases = [⟨.gravity, some d.closeClass, s.home d.axis, .switch, false⟩, ⟨.check, none, 0, .sense, false⟩]) ∧
  (k = .home ∨ k = .closeShutter ∧ ¬ referenced → o.speed = .creep) ∧
  (k ≠ .home → (k = .closeShutter → referenced) → SpeedClass.all[r.speed.toNat]? = some o.speed)

/-- R3, R106: what the phase start of a TILT_TO fixes of its order: the target of the LEVEL form from the pitch, 0 while the
record is STALE, clamped to the TL soft limits, and the class from the TL position. -/
def State.fixesTilt (s : State) (r : SubmitReq) (o : Order) : Prop :=
  ∀ q, s.profile? .tilt = some q →
    let tilt := clampTo (s.softLimits .tl).1 (s.softLimits .tl).2
    let asked := if r.form = 2 then q.level + (if s.vehicle.fresh then s.vehicle.pitch else 0) * q.tiltPerTenth else r.target.toInt
    o.phases =
        [⟨.pumped, some (if (s.tracker .tl).pos < tilt asked then .tiltOut else .tiltIn), tilt asked, .target, false⟩] ∧
      o.clamped = decide (tilt asked ≠ asked) ∧ o.uncompensated = (decide (r.form = 2) && !s.vehicle.fresh)

/-- R16: an inhibit flag that is set applies to the order o at its phase p. -/
def State.inhibits (s : State) (p : Phase) (o : Order) : Prop :=
  (s.faults.flags.group o.group = true ∧ s.faults.admits o.group o.kind = false) ∨
    (s.faults.flags.pumped = true ∧ p.kind = .pumped)

/-- R15, R19, R30, R55, R90: how t leaves the order y at its phase p when every gate has passed in u: a PUMPED_MOVE phase
has its claim lodged and is MOVING when that claim is ready, else CLAIMING; a GRAVITY_MOVE phase is MOVING with a fresh run;
a PULSE phase is MOVING with the pulse of its side asked for. -/
def State.passesGates (u t : State) (p : Phase) (y : Order) : Prop :=
  match p.kind, p.cls with
  | .pumped, some c =>
    (y.state = .claiming ∨ y.state = .moving) ∧
      (u.operator.estop = .clear →
        (∃ q ∈ t.flow.waiting ++ t.flow.granted, q.order = y.number ∧ q.demand = u.claimDemand c) ∧
        (y.state = .moving ↔ ∃ q ∈ t.flow.granted, q.order = y.number ∧ q.ready = true))
  | .gravity, some _ =>
    y.state = .moving ∧
      ∃ x, t.run? y.group = some x ∧ x.order = y.number ∧ x.index = y.index ∧ x.fCmd = 0 ∧ x.share = 1000 ∧ x.stall = 0
  | .pulse, _ =>
    y.state = .moving ∧
      ∀ (d : Side) (r : ChannelRec), u.operator.estop = .clear → y.group = d.group → (u.chan d.latch).state = .idle →
        u.chanRec? d.latch = some r →
        (t.chan d.latch).state = .running ∧ (t.chan d.latch).opening = 1000 ∧
          (t.chan d.latch).requester = some y.number ∧ (t.chan d.latch).pulse = some r.width
  | _, _ => True

/-- R15, R17, R18, R139: how t leaves the order y at its phase p when the gates are tried in u from gate 2 on: a failing
interlock entry or an active stop input leaves it BLOCKED with the block window started, an unsatisfied binding in HOLD_WAIT
with the hold window started. -/
def State.gateTwo (u t : State) (p : Phase) (y : Order) : Prop :=
  (∀ e, u.askInterlock y = some e →
    y.state = .blocked ∧ y.blocking = e ∧ (t.ctl y.group).block = some (u.timing (·.block))) ∧
  (u.askInterlock y = none → u.isObstructed y.group = true →
    y.state = .blocked ∧ y.blocking = 0 ∧ (t.ctl y.group).block = some (u.timing (·.block))) ∧
  (u.askInterlock y = none → u.isObstructed y.group = false → u.bindingOk y = false →
    y.state = .holdWait ∧ (t.ctl y.group).hold = some (u.timing (·.hold))) ∧
  (u.askInterlock y = none → u.isObstructed y.group = false → u.bindingOk y = true → u.passesGates t p y)

/-- R15, R16, R31: how t leaves the order y at its phase p when that phase starts in u: an inhibit that applies ends it FAILED
INHIBITED; a CHECK phase completes the order on an active latch sense, and else is MOVING with the latch check timer started;
any other phase tries the gates from gate 2 on. -/
def State.startsPhase (u t : State) (p : Phase) (y : Order) : Prop :=
  (u.inhibits p y → y.state = .ended ∧ y.result = some .failed ∧ y.reason = some .inhibited) ∧
  (¬ u.inhibits p y → p.kind ≠ .check → u.gateTwo t p y) ∧
  (¬ u.inhibits p y → p.kind = .check →
    (u.latchSense y = true → y.state = .ended ∧ y.result = some .completed ∧ y.reason = none) ∧
    (u.latchSense y = false → y.state = .moving ∧ (t.ctl y.group).latchCheck = some (u.timing (·.latchCheck))))

/-! ### The checks of FIT_LOCK -/

/-- Table 10-5: the item suits the term kind. -/
def Term.suits (t : Term) : Prop :=
  match t.kind with
  | .axisIn | .axisReferenced => ∃ a, t.item = .axis a
  | .groupIdle => ∃ g, t.item = .group g
  | .input => ∃ i, t.item = .input i
  | .lampsHealthy => ∃ p, t.item = .pair p
  | .brakeApplied | .speedZero | .statusFresh | .night | .rollWithin | .pitchWithin | .proven => t.item = .none

/-- Table 10-4: the groups fitted make this PROFILE record needed. -/
def State.needsProfile (s : State) : Profile → Prop
  | .lift | .tilt => s.fitted .lift = true
  | .shutter => s.fitted .kerb = true ∨ s.fitted .road = true

/-- R175, pass 2 with Table 10-4: the place of kind k and index i is needed and absent. -/
def State.wantsPlace (s : State) (k i : Nat) : Prop :=
  (k = 2 ∧ ∃ a : Axis, i = a.idx.val ∧ s.fitted a.group = true ∧ s.axisRec? a = none) ∨
    (k = 3 ∧ ∃ c : Channel, i = c.val ∧ s.fitted (channelGroup c) = true ∧ s.chanRec? c = none) ∨
    (k = 4 ∧ i = 0 ∧ s.fitment.flow = none) ∨
    (k = 5 ∧ ∃ p : Profile, i = p.idx.val ∧ s.needsProfile p ∧ s.profile? p = none) ∨
    (k = 6 ∧ i = 0 ∧ s.fitment.timing = none) ∨ (k = 7 ∧ i = 0 ∧ s.fitment.policy = none)

/-- R175, pass 3: the relation of Table 10-5 that reports field f of the record of kind k and index i fails. -/
def State.breaksRelation (s : State) (k i f : Nat) : Prop :=
  let outside (a : Axis) (x : Int) : Prop := ∃ r, s.axisRec? a = some r ∧ (x < r.softLower ∨ r.softUpper < x)
  (k = 2 ∧ ∃ (a : Axis) (r : AxisRec), i = a.idx.val ∧ s.fitted a.group = true ∧ s.axisRec? a = some r ∧
    (f = 5 ∧ outside a r.home ∨ f = 7 ∧ r.softUpper ≤ r.softLower ∨ f = 11 ∧ (a = .sk ∨ a = .sr) ∧ outside a r.openPos)) ∨
  (k = 3 ∧ ∃ (c : Channel) (r : ChannelRec), i = c.val ∧ s.fitted (channelGroup c) = true ∧ s.chanRec? c = some r ∧
    (f = 4 ∧ c.val < 10 ∧ r.hi ≤ r.lo ∨ f = 8 ∧ r.shortThr ≤ r.openThr)) ∨
  (k = 4 ∧ i = 0 ∧ f = 2 ∧ ∃ r, s.fitment.flow = some r ∧ r.capacity < r.cold) ∨
  (k = 5 ∧ ∃ (p : Profile) (r : ProfileRec), i = p.idx.val ∧ s.needsProfile p ∧ s.profile? p = some r ∧
    (f = 3 ∧ r.normal < r.creep ∨ f = 4 ∧ r.fast < r.normal ∨ f = 5 ∧ r.creep < r.fMin ∨
      f = 17 ∧ p = .lift ∧ r.skewStop ≤ r.skewWarn ∨ f = 18 ∧ p = .lift ∧ (outside .lk r.bed ∨ outside .lr r.bed) ∨
      f = 19 ∧ p = .tilt ∧ outside .tl r.level)) ∨
  (k = 7 ∧ i = 0 ∧ ∃ (r : PolicyRec) (n : Fin 6) (g : Group), s.fitment.policy = some r ∧ f = 9 + n.val ∧
    g.idx.val = n.val / 2 ∧ s.fitted g = false ∧ r.slots[n].input ≠ none) ∨
  (k = 8 ∧ ∃ (n : Fin 24) (r : InterlockRec) (j : Nat) (x : Term), i = n.val + 1 ∧ s.fitment.interlocks[n] = some r ∧
    r.terms[j]? = some x ∧ (f = 7 + 5 * j ∧ ¬ x.suits ∨ f = 9 + 5 * j ∧ x.kind = .axisIn ∧ x.upper < x.value)) ∨
  (k = 9 ∧ i = 0 ∧ ∃ (r : LampsRec) (p : LampPair), s.fitment.lamps = some r ∧ f = 4 + p.idx.val ∧
    r.discrete[p.idx] = true ∧ r.modes[p.idx] ≠ .single)

/-- R175, pass 4: field f of INTERLOCK entry i is the item of a term that names an axis of an unfitted group or an unfitted
group. -/
def State.namesUnfitted (s : State) (i f : Nat) : Prop :=
  ∃ (n : Fin 24) (r : InterlockRec) (j : Nat) (x : Term), i = n.val + 1 ∧ s.fitment.interlocks[n] = some r ∧
    r.terms[j]? = some x ∧ f = 7 + 5 * j ∧
    ((∃ a, x.item = .axis a ∧ s.fitted a.group = false) ∨ (∃ g, x.item = .group g ∧ s.fitted g = false))

/-- R175: pass q of FIT_LOCK finds field f of the record of kind k and index i at fault; field 0 says that the place itself is
wanting. -/
def State.lockFails (s : State) (q k i f : Nat) : Prop :=
  (q = 1 ∧ k = 1 ∧ i = 0 ∧
    (f = 0 ∧ s.fitment.equipment = none ∨ f = 1 ∧ s.fitment.equipment = some ⟨false, false, false⟩)) ∨
  (q = 2 ∧ f = 0 ∧ s.wantsPlace k i) ∨ (q = 3 ∧ s.breaksRelation k i f) ∨ (q = 4 ∧ k = 8 ∧ s.namesUnfitted i f)

/-- R175: the first failure: no failure of an earlier pass, nor of the same pass with an earlier kind, index or field. -/
def State.lockFailsFirst (s : State) (q k i f : Nat) : Prop :=
  s.lockFails q k i f ∧ ∀ q' k' i' f', s.lockFails q' k' i' f' →
    q < q' ∨ q = q' ∧ (k < k' ∨ k = k' ∧ (i < i' ∨ i = i' ∧ f ≤ f'))

/-! ### Selections of the beacons -/

/-- R152, R153: how a pair's player meets a re-derivation that does not come from STOP becoming active: a selection of the same
pattern and invert runs on with its new source and nothing pending; another starts at once on a player that is not PLAYING
and is held as pending on one that is. -/
def State.meetsSelection (s t : State) (p : LampPair) : Prop :=
  t.player p =
    if (t.derived p).pattern = (s.player p).sel.pattern ∧ (t.derived p).invert = (s.player p).sel.invert then
      { s.player p with sel := t.derived p, pending := none }
    else if (s.player p).cond = .playing then { s.player p with pending := some (t.derived p) }
    else t.startedPlayer (t.derived p)

/-! ### Resets -/

/-- What every warm reset does (R36, R42, R68, R91, R132, R161, R178, R192): the fitment and the time counter stay, orders,
runs, claims, replies and requests go, every channel is released, the vehicle status is STALE, every debounced level starts
inactive, and the part is in RUN. -/
def State.warmResetTo (cause : ResetCause) (s t : State) : Prop :=
  t.pending = s.pending ∧ t.fitment = s.fitment ∧ t.supply.mode = .run ∧ t.supply.time = s.supply.time ∧
  t.supply.lastReset = cause ∧ t.supply.standby = .none ∧ t.seq.orders = [] ∧ t.seq.nextNumber = 1 ∧
  (∀ g, t.run? g = none) ∧ t.vehicle = Vehicle.reset ∧ t.flow.pump = .off ∧ t.flow.waiting = [] ∧ t.flow.granted = [] ∧
  (∀ c, t.chan c = Chan.reset) ∧ (∀ l, (t.line l).level = false ∧ (t.line l).timer = some s.debounceTime) ∧
  (∀ h, t.hand h = TwoHand.reset) ∧ (∀ l, t.lamp l = ⟨.untested, false⟩) ∧ (∀ p, t.override? p = none) ∧
  (∀ p, t.latch p = s.latch p) ∧ t.link.places = [] ∧ t.link.outgoing = [] ∧ t.link.rx = .hunt ∧
  t.operator.estop = (if s.operator.loopLine then .active else .clear)

/-! ### Invariants -/

/-- R162, R165: at most 16 entries, no two of the same code and subject, and the flags those that the entries and the
overflow inhibits give. -/
def FaultTable.sound (t : FaultTable) : Prop :=
  t.entries.length ≤ 16 ∧ (t.entries.map fun e => (e.code, e.subject)).Nodup ∧
    t.flags = flagsOf t.entries t.overflowInhibits

/-- R115: in each coupled pair at most one member is driven. -/
def State.pairsExclusive (s : State) : Prop :=
  ∀ p, (s.chan (memberChannel p .even)).state = .idle ∨ (s.chan (memberChannel p .odd)).state = .idle

/-- R141: every drive channel and the pump are off, no order is outside ENDED, no claim is lodged and no proving test runs.
-/
def State.allOff (s : State) : Prop :=
  (∀ c, (s.chan c).state = .idle) ∧ (∀ p, (s.pair p).waiting = none) ∧ s.flow.pump = .off ∧ s.flow.waiting = [] ∧
    s.flow.granted = [] ∧ (∀ o ∈ s.seq.orders, o.state = .ended) ∧ s.proving = false ∧ s.drive.prove.driving = none

/-- R132, R141, R180: outside RUN, and while the emergency stop machine is not CLEAR, everything is off; from the acceptance
of a STANDBY every order is ENDED and no proving test runs; a proving drive belongs to a running test. -/
def State.stopSound (s : State) : Prop :=
  ((s.supply.mode ≠ .run ∨ s.operator.estop ≠ .clear) → s.allOff) ∧
  (s.supply.standby ≠ .none → (∀ o ∈ s.seq.orders, o.state = .ended) ∧ s.proving = false) ∧
  (s.drive.prove.driving ≠ none → s.proving = true)

/-- R5, R6, R184: at most eight records, their numbers distinct and in 1 to 65535, the counter in that range, and at most two
places of the request buffer occupied. -/
def State.tablesBounded (s : State) : Prop :=
  s.seq.orders.length ≤ 8 ∧ (s.seq.orders.map (·.number)).Nodup ∧
    (∀ o ∈ s.seq.orders, 1 ≤ o.number ∧ o.number ≤ 65535) ∧ 1 ≤ s.seq.nextNumber ∧ s.seq.nextNumber ≤ 65535 ∧
    s.link.places.length ≤ 2

/-- Table 0-1: each group runs at most one order at a time. -/
def State.oneActiveEach (s : State) : Prop :=
  ∀ g, (s.seq.orders.filter fun o => decide (o.group = g) && o.state.isActive).length ≤ 1

/-- R70, R72: every AXIS record holds NUM below DEN, and the remainder of its tracker lies in 0 to DEN − 1. -/
def State.remaindersSound (s : State) : Prop :=
  ∀ a r, s.axisRec? a = some r → r.num < r.den ∧ (s.tracker a).rem < r.den

/-- R173: the fitment less its open sections. -/
def Fitment.lockedSections (f : Fitment) : Fitment :=
  { f with patterns := Fitment.reset.patterns, scenes := Fitment.reset.scenes }

end Sys2Proof.Machine
end

