-- ==== Sys2Proof/Certificates/Slice0/Obligations.lean ====
section
/-! DEFINITION. The statements for the provers, each from the rules of the spec that its docstring names. A conclusion
`t.quiet = u.quiet` says that t is u in every block, but for which of the outgoing replies is already with the transmitter,
the notices pending or sent, and the noticed fields that a sent ORDER notice sets: what the end of every event may still
change (R187, R188). Three conventions of the model stand in every statement: a request that comes as a command of its own is
answered to the reply path without a place of the request buffer (assumption 7), an expiry's command acts while its timer runs,
whatever time is left on it (assumption 6), and the records carry endRank, the model's own count of ends (assumption 30). -/

open Sys2Proof Sys2Proof.Machine

/-! ### The machine -/

/-- Each step takes the command at the front of the queue and runs it on the state with the queue's rest; with no command
waiting one millisecond passes: the time counter counts by one in RUN and HELD and the state stands still in STANDBY (the idle
step is the model's choice, assumption 5; the counter is Section 10.4's). -/
def Obligations.StepTakesFrontOrPassesTime : Prop :=
  (∀ (c : Instr) (rest : List Instr) (s : State), step { s with pending := c :: rest } = exec c { s with pending := rest }) ∧
  (∀ s : State, s.pending = [] →
    ∃ t, step s = .next t ∧ t.pending = [] ∧
      t.supply = { s.supply with time := if s.supply.mode = .standby then s.supply.time else s.supply.time + 1 } ∧
      t.fitment = s.fitment ∧ t.faults.entries = s.faults.entries ∧ t.faults.flags = s.faults.flags ∧
      (∀ a, (t.tracker a).pos = (s.tracker a).pos) ∧ (s.supply.mode = .standby → t = s) ∧
      (∀ p n, (s.pair p).dead = some n → (t.pair p).dead = some (if s.supply.mode = .standby then n else n - 1)))

/-- Every command is answered with a next state, whatever the state, and leaves the queue of waiting commands as it is. The spec
gives no refusal of a command; that an event which cannot come in a state, and one that would read a record which is absent,
is answered all the same, with what it concerns left as it was, is the model's choice (assumptions 22 and 26). -/
def Obligations.EveryCommandCompletes : Prop := ∀ (c : Instr) (s : State), ∃ t, exec c s = .next t ∧ t.pending = s.pending

/-! ### Invariants of the machine -/

/-- R162, R165: the Fault Table holds at most 16 entries and no two of the same code and subject, and its flags are those that
its STOP entries and its overflow inhibits give, after every step. -/
def Obligations.FaultTableStaysSound : Prop :=
  ∀ s t : State, s.faults.sound → step s = .next t → t.faults.sound

/-- R115: after every step at most one member of a coupled pair is driven: of the two channel machines one is IDLE, and while
no proving drive is on the outputs of the two are never both on. The drive of a proving test, which is no command and which
the model holds outside the channel machines (R127, assumption 18), is left out. -/
def Obligations.PairMembersStayExclusive : Prop :=
  ∀ s t : State, s.pairsExclusive → step s = .next t →
    t.pairsExclusive ∧
      (t.drive.prove.driving = none →
        ∀ p, ¬ (t.outputOn (memberChannel p .even) = true ∧ t.outputOn (memberChannel p .odd) = true))

/-- R119, R132, R141, R180: after every step, outside RUN and while the emergency stop machine is not CLEAR, every channel and
the pump are off, no order is outside ENDED and no claim is lodged. -/
def Obligations.OutputsStayOffOutsideWork : Prop :=
  ∀ s t : State, s.stopSound → step s = .next t → t.stopSound

/-- R5, R6, R184: the Order Table keeps at most eight records with distinct numbers of 1 to 65535, and the request buffer at
most two requests. -/
def Obligations.TablesStayBounded : Prop :=
  ∀ s t : State, s.tablesBounded → step s = .next t → t.tablesBounded

/-- Table 0-1: after every step each group runs at most one order. -/
def Obligations.OneActiveOrderPerGroup : Prop :=
  ∀ s t : State, s.tablesBounded → s.oneActiveEach → step s = .next t → t.oneActiveEach

/-- R72: after every step the remainder of every axis lies in 0 to DEN − 1 of its record. -/
def Obligations.RemaindersStayInRange : Prop :=
  ∀ s t : State, s.remaindersSound → step s = .next t → t.remaindersSound

/-- R173: no command but a power-on reset changes the fitment state or a locked section of a LOCKED fitment. -/
def Obligations.LockedFitmentStays : Prop :=
  ∀ (c : Instr) (s t : State), s.fitment.locked = true → c ≠ .powerOnReset → exec c s = .next t →
    t.fitment.lockedSections = s.fitment.lockedSections

/-- The invariants hold right after power-on reset, with the values that R6, R42, R68, R85, R132, R172, R173, R179 and R192
give. -/
def Obligations.ResetMeetsInvariants : Prop :=
  State.reset.faults.sound ∧ State.reset.pairsExclusive ∧ State.reset.stopSound ∧ State.reset.tablesBounded ∧
  State.reset.oneActiveEach ∧ State.reset.remaindersSound ∧ State.reset.supply.mode = .held ∧
  State.reset.supply.time = 0 ∧ State.reset.fitment.locked = false ∧ State.reset.fitment.equipment = none ∧
  State.reset.seq.nextNumber = 1 ∧ State.reset.vehicle.fresh = false ∧ State.reset.flow.pump = .off ∧
  State.reset.flow.capacity = 0 ∧ State.reset.drive.prove.overall = .none ∧ State.reset.link.rx = .hunt ∧
  State.reset.faults.entries = [] ∧ (∀ a, (State.reset.tracker a).pos = 0 ∧ (State.reset.tracker a).referenced = false) ∧
  (∀ l, (State.reset.lamp l).health = .untested) ∧ (∀ p, (State.reset.player p).cond = .dark)

/-! ### Supply -/

/-- R179, R143: a power-on reset from any state gives every block its power-on values, keeps the
raw levels of the lines (their levels belong to the outside, assumption 1) and the model's own count of free values (assumption
2), and starts the emergency stop machine from the loop: CLEAR with it closed; ACTIVE with it open, the ESTOP entry made, the
STOP and FAULT notices pending and the STOP scene active (assumption 15). -/
def Obligations.PowerOnGivesPowerOnValues : Prop :=
  ∀ s : State, ∃ t, exec .powerOnReset s = .next t ∧ t.pending = s.pending ∧ t.free = s.free ∧ t.fitment = Fitment.reset ∧
    t.supply = SupplyState.reset ∧ t.seq = Sequencer.reset ∧ t.vehicle = Vehicle.reset ∧ t.flow = Flow.reset ∧
    (∀ g, t.run? g = none) ∧ t.drive = Drive.reset ∧
    (∀ a, t.tracker a = { Tracker.reset with rawHome := (s.tracker a).rawHome }) ∧
    (∀ l, t.line l = { LineState.reset with raw := (s.line l).raw }) ∧
    (s.operator.loopLine = false →
      t.operator = { Operator.reset with lines := t.operator.lines } ∧ t.faults = FaultTable.reset ∧ t.link = Link.reset ∧
        t.beacon = Beacon.reset) ∧
    (s.operator.loopLine = true →
      t.operator =
          { Operator.reset with lines := t.operator.lines, loopLine := true, loopOpen := true, estop := .active } ∧
        t.faults = { FaultTable.reset with entries := [Entry.fresh .estop .none 0] } ∧
        t.link = { Link.reset with pendStop := true, pendFault := true } ∧
        t.beacon = { Beacon.reset with active := Beacon.reset.active.set 7 true })

/-- R177 with R36, R42, R68, R86, R132, R135, R161, R192: ENABLE taken low in RUN brings the part into HELD: orders, runs,
claims, requests and replies go, every channel is released, the lamps are dark, the inputs are inactive, and the trackers keep
what they hold and record their parked positions. -/
def Obligations.EnableLowHoldsThePart : Prop :=
  ∀ s : State, s.supply.mode = .run → ∃ t, exec .enableTakenLow s = .next t ∧ t.pending = s.pending ∧
    t.supply = { s.supply with mode := .held, standby := .none, enable := false, awaitFirst := false } ∧
    t.fitment = s.fitment ∧ t.seq.orders = [] ∧ t.seq.nextNumber = 1 ∧ t.vehicle = Vehicle.reset ∧ t.flow.pump = .off ∧
    t.flow.waiting = [] ∧ t.flow.granted = [] ∧ (∀ g, t.run? g = none) ∧ (∀ c, t.chan c = Chan.reset) ∧
    (∀ a, t.tracker a =
      if (s.tracker a).referenced then { s.tracker a with parked := some (s.tracker a).pos } else s.tracker a) ∧
    (∀ l, t.line l = { s.line l with level := false, timer := none }) ∧ t.operator.estop = s.operator.estop ∧
    (∀ p, t.player p = Player.reset ∧ t.override? p = none ∧ t.latch p = s.latch p) ∧
    (∀ l, t.lamp l = ⟨.untested, false⟩) ∧ t.link.places = [] ∧ t.link.outgoing = [] ∧ t.link.tx = none ∧ t.link.rx = .hunt

/-- R177 to R180, R182: ENABLE taken high after HELD and a line break in RUN take a warm reset; the first taking after a
power-on reset enters RUN without one; a break is answered once until the line has returned high, and not in HELD. In STANDBY
either leads through the warm reset of standby exit, in which the trackers start new windows and re-acquire their switches
from inactive (R87), into RUN with ENABLE high and into HELD with ENABLE low. That the reset forgets an accepted STANDBY whose
reply was still to be sent, and that it keeps the mark of the break reported, are the model's readings (assumptions 28 and
32). -/
def Obligations.WarmResetsAndTheirCauses : Prop :=
  (∀ s : State, s.supply.mode = .held → s.supply.awaitFirst = false →
    ∃ t, exec .enableTakenHigh s = .next t ∧ s.warmResetTo .enable t ∧ t.supply.enable = true) ∧
  (∀ s : State, s.supply.mode = .held → s.supply.awaitFirst = true →
    ∃ t, exec .enableTakenHigh s = .next t ∧
      t.supply = { s.supply with mode := .run, enable := true, awaitFirst := false } ∧ t.fitment = s.fitment ∧
      t.records = s.records ∧ t.trackers = s.trackers ∧ t.drive = s.drive ∧ t.operator = s.operator ∧ t.faults = s.faults ∧
      t.flow = s.flow ∧ t.vehicle = s.vehicle) ∧
  (∀ s : State, s.supply.mode = .run → s.link.breakReported = false →
    ∃ t, exec .lineBreak s = .next t ∧ s.warmResetTo .lineBreak t ∧ t.link.breakReported = true ∧
      t.supply.enable = s.supply.enable) ∧
  (∀ s : State, s.supply.mode = .held → s.link.breakReported = false →
    ∃ t, exec .lineBreak s = .next t ∧ t.quiet = (s.modLink fun l => { l with breakReported := true }).quiet) ∧
  (∀ s : State, s.link.breakReported = true → ∃ t, exec .lineBreak s = .next t ∧ t.quiet = s.quiet) ∧
  (∀ s : State, s.supply.mode = .standby →
    let restarted (t : State) : Prop :=
      ∀ a, t.tracker a =
        { s.tracker a with net := 0, windowLeft := 50, home := false, homeTimer := some s.debounceTime }
    (∃ t, exec .enableTakenHigh s = .next t ∧ s.warmResetTo .standbyExit t ∧ t.supply.enable = true ∧ restarted t) ∧
    (s.link.breakReported = false → s.supply.enable = true →
      ∃ t, exec .lineBreak s = .next t ∧ s.warmResetTo .standbyExit t ∧ t.supply.enable = true ∧
        t.link.breakReported = true ∧ restarted t) ∧
    (s.link.breakReported = false → s.supply.enable = false → (∀ a, (s.tracker a).referenced = false) →
      ∃ t, exec .lineBreak s = .next t ∧ t.pending = s.pending ∧ t.fitment = s.fitment ∧
        t.supply = { s.supply with mode := .held, standby := .none, lastReset := .standbyExit, awaitFirst := false } ∧
        t.seq.orders = [] ∧ t.seq.nextNumber = 1 ∧ (∀ c, t.chan c = Chan.reset) ∧ t.flow.pump = .off ∧
        (∀ l, (t.line l).level = false ∧ (t.line l).timer = none) ∧ t.link.breakReported = true ∧ t.link.places = [] ∧
        t.link.outgoing = [] ∧ (∀ p, t.player p = Player.reset) ∧ restarted t)) ∧
  (∀ s : State, ∃ t, exec .receiveLineReturnedHigh s = .next t ∧
    t.quiet = (s.modLink fun l => { l with breakReported := false }).quiet)

/-- R180, R87, R68: STANDBY is refused NOT_IDLE unless every record is ENDED, no proving test runs and the stop machine is
CLEAR; accepted, it is answered DONE; once that reply has been sent the entry releases every channel, turns the pump OFF, drops
every reference and keeps the fitment. That the DONE reply carries no payload and that STANDBY_ENTRY before the reply has been
sent does nothing are the model's readings (assumptions 36 and 28). -/
def Obligations.StandbyIsEnteredAfterItsReply : Prop :=
  (∀ (tag : Byte) (s : State), s.answers →
    ¬ ((∀ o ∈ s.seq.orders, o.state = .ended) ∧ s.drive.prove.overall ≠ .running ∧ s.operator.estop = .clear) →
    ∃ t, exec (.standby tag) s = .next t ∧ t.quiet = (s.refusedReply 0x2B tag 17 0 0 0).quiet) ∧
  (∀ (tag : Byte) (s : State), s.answers →
    (∀ o ∈ s.seq.orders, o.state = .ended) → s.drive.prove.overall ≠ .running → s.operator.estop = .clear →
    ∃ t, exec (.standby tag) s = .next t ∧
      t.quiet = ({ s with supply := { s.supply with standby := .accepted } }.doneReply 0x2B tag []).quiet) ∧
  (∀ s : State, s.supply.mode = .run → s.supply.standby = .replied →
    ∃ t, exec .standbyEntry s = .next t ∧ t.supply = { s.supply with mode := .standby, standby := .none } ∧
      t.fitment = s.fitment ∧ t.records = s.records ∧ (∀ c, t.chan c = Chan.reset) ∧ (∀ p, (t.pair p).waiting = none) ∧
      t.flow = { s.flow with pump := .off, start := none, runOn := none, stuck := none, waiting := [], granted := [] } ∧
      (∀ a, t.tracker a =
        { s.tracker a with referenced := false, parked := none, speed := 0, sense := .stationary }) ∧
      t.vehicle = s.vehicle ∧ t.beacon = s.beacon ∧ t.operator = { s.operator with release := none } ∧
      t.faults.flags = s.faults.flags ∧ (∀ g : Group, t.faults.resetting[g.idx] = none)) ∧
  (∀ s : State, s.supply.mode = .run → s.supply.standby ≠ .replied →
    ∃ t, exec .standbyEntry s = .next t ∧ t.quiet = s.quiet)

/-! ### The link -/

/-- R183: what each byte does to the frame being assembled, in RUN with no complete frame held. That the second check byte
leaves the receiver in CHECK with the complete frame held, until FRAME_COMPLETE or CHECK_MISMATCH judges it, is the model's
reading (assumption 8); R183 returns to HUNT with the comparison. -/
def Obligations.ReceiverAssemblesFrames : Prop :=
  ∀ (b : Byte) (s : State), s.supply.mode = .run → s.link.held = false →
    ∃ t, exec (.byteReceived b) s = .next t ∧
      t.quiet =
        { s with link :=
            match s.link.rx with
            | .hunt =>
              if b = 0xC3 then { s.link with rx := .length, gap := some 5, rxLen := 0, rxBody := [], rxCheck := [] } else s.link
            | .length =>
              if 2 ≤ b.toNat ∧ b.toNat ≤ 250 then
                { s.link with rx := .body, gap := some 5, rxLen := b, rxBody := [], rxCheck := [] }
              else { s.link with rx := .hunt, gap := none, rxLen := 0, rxBody := [], rxCheck := [] }
            | .body =>
              { s.link with
                rx := if s.link.rxBody.length + 1 < s.link.rxLen.toNat then .body else .check
                gap := some 5
                rxBody := s.link.rxBody ++ [b] }
            | .check =>
              { s.link with
                gap := if s.link.rxCheck = [] then some 5 else none
                rxCheck := s.link.rxCheck ++ [b] } }.quiet

/-- R182 to R184: a complete frame whose check matches takes a free place of the request buffer and is discarded when there is
none; a wrong check, a gap and a framing error discard the frame being assembled; each returns the receiver to HUNT. That the
first two act on the complete frame which the receiver holds in CHECK is the model's reading (assumption 8). -/
def Obligations.FramesAreTakenOrDiscarded : Prop :=
  ∀ s : State, s.supply.mode = .run →
    let hunting : Link := { s.link with rx := .hunt, gap := none, rxLen := 0, rxBody := [], rxCheck := [] }
    (∀ (kind tag : Byte) (payload : List Byte), s.link.rx = .check → s.link.rxCheck.length = 2 →
      s.link.rxBody = kind :: tag :: payload → checkBytes (s.link.rxLen :: s.link.rxBody) = s.link.rxCheck →
      ∃ t, exec .frameComplete s = .next t ∧
        t.quiet =
          { s with link :=
              if s.link.places.length < 2 then
                { hunting with places := s.link.places ++ [Place.mk ⟨kind, tag, payload⟩ false] }
              else hunting }.quiet) ∧
    (s.link.rx = .check → s.link.rxCheck.length = 2 → checkBytes (s.link.rxLen :: s.link.rxBody) ≠ s.link.rxCheck →
      ∃ t, exec .checkMismatch s = .next t ∧ t.quiet = { s with link := hunting }.quiet) ∧
    (s.link.gap ≠ none → ∃ t, exec .frameGapTimeout s = .next t ∧ t.quiet = { s with link := hunting }.quiet) ∧
    (s.link.held = false → ∃ t, exec .framingError s = .next t ∧ t.quiet = { s with link := hunting }.quiet)

/-- Table 11-1, R183: a receiver in HUNT that is given the bytes of any frame of at most 248 payload bytes holds exactly that
frame, complete, with a matching check. That a complete frame is held until it is judged is the model's reading (assumption
8). -/
def Obligations.ReceiverReadsEveryFrame : Prop :=
  ∀ (f : Frame) (l : Link), f.payload.length ≤ 248 → l.rx = .hunt →
    let l' := f.wire.foldl (fun l b => l.byte b) l
    l'.held = true ∧ l'.checkOk = true ∧ l'.frame = f ∧ l'.places = l.places

/-- R185: the oldest request not yet answered is handed on: an unknown kind is refused UNKNOWN_KIND and a wrong length LENGTH,
a served one gets its owner's reply, here that of QUERY_TABLE and of QUERY_FAULTS; from the acceptance of a STANDBY none is
handed on. -/
def Obligations.RequestsAreHandedOnInOrder : Prop :=
  ∀ (done : List Place) (f : Frame) (later : List Place) (s : State), s.supply.mode = .run →
    s.link.places = done ++ (Place.mk f false :: later) → (∀ p ∈ done, p.answered = true) →
    let answered (r : Frame) : State :=
      { s with link :=
          { s.link with
            places := done ++ (Place.mk f true :: later)
            replies := s.link.replies ++ [{ frame := r, freesPlace := true, entersStandby := false }] } }
    (s.supply.standby = .none → (∀ k : ReqKind, k.code ≠ f.kind) →
      ∃ t, exec .requestHandedOn s = .next t ∧ t.quiet = (answered ⟨0xFF, f.tag, [f.kind, 2, 0, 0, 0]⟩).quiet) ∧
    (s.supply.standby = .none → ∀ k : ReqKind, k.code = f.kind → k.length? f.payload ≠ some f.payload.length →
      ∃ t, exec .requestHandedOn s = .next t ∧ t.quiet = (answered ⟨0xFF, f.tag, [f.kind, 1, 0, 0, 0]⟩).quiet) ∧
    (s.supply.standby = .none → f.kind = 0x14 → f.payload = [] →
      ∃ t, exec .requestHandedOn s = .next t ∧ t.quiet = (answered ⟨0x94, f.tag, tableReport s.seq.orders⟩).quiet) ∧
    (s.supply.standby = .none → f.kind = 0x23 → f.payload = [] →
      ∃ t, exec .requestHandedOn s = .next t ∧ t.quiet = (answered ⟨0xA3, f.tag, faultReport s.faults⟩).quiet) ∧
    (s.supply.standby ≠ .none → ∃ t, exec .requestHandedOn s = .next t ∧ t.quiet = s.quiet)

/-- R184, R187, R188: when a frame has been sent its place is freed, and the transmitter takes the oldest reply, else the
pending notice of highest rank, whose contents are gathered then; an ORDER notice that gathers no number is not sent. -/
def Obligations.TransmitterChoosesAtABoundary : Prop :=
  (∀ (r : OutReply) (s : State), s.supply.mode = .run → s.supply.standby = .none → s.link.tx = some (.reply r) →
    ∃ t, exec .frameSent s = .next t ∧ t.link.outgoing = s.link.replies ∧
      t.link.places = (if r.freesPlace then freePlace s.link.places else s.link.places) ∧
      t.supply = s.supply ∧ t.records = s.records ∧ t.faults = s.faults) ∧
  (∀ (r : OutReply) (s : State), s.supply.mode = .run → s.supply.standby = .accepted → s.link.tx = some (.reply r) →
    r.entersStandby = true →
    ∃ t, exec .frameSent s = .next t ∧ t.supply = { s.supply with standby := .replied } ∧ t.link.tx = none) ∧
  (∀ (f : Frame) (r : OutReply) (rest : List OutReply) (s : State), s.supply.mode = .run → s.supply.standby = .none →
    s.link.tx = some (.notice f) → s.link.replies = r :: rest →
    ∃ t, exec .frameSent s = .next t ∧ t.link = { s.link with tx := some (.reply r), replies := rest }) ∧
  (∀ (f : Frame) (s : State), s.supply.mode = .run → s.supply.standby = .none → s.link.tx = some (.notice f) →
    s.link.replies = [] → s.link.pendStop = true →
    ∃ t, exec .frameSent s = .next t ∧
      t.link = { s.link with tx := some (.notice ⟨0x60, 0, bCode EstopState.all s.operator.estop⟩), pendStop := false }) ∧
  (∀ (f : Frame) (s : State), s.supply.mode = .run → s.supply.standby = .none → s.link.tx = some (.notice f) →
    s.link.replies = [] → s.link.pendStop = false → s.link.pendFault = true →
    ∃ t, exec .frameSent s = .next t ∧
      t.link =
        { s.link with
          pendFault := false
          tx := some (.notice ⟨0x61, 0, b8 s.faults.activeCount ++ b8 s.faults.latchedCount ++
            bInhibits s.faults.flags ++ bFlag s.faults.overflow⟩) }) ∧
  (∀ (f : Frame) (s : State), s.supply.mode = .run → s.supply.standby = .none → s.link.tx = some (.notice f) →
    s.link.replies = [] → s.link.pendStop = false → s.link.pendFault = false → s.link.pendOrder = true →
    ∃ t, exec .frameSent s = .next t ∧ t.link.pendOrder = false ∧
      (unnoticed s.seq.orders = [] → t.link.tx = none ∧ t.seq.orders = s.seq.orders) ∧
      (unnoticed s.seq.orders ≠ [] →
        t.link.tx = some (.notice ⟨0x62, 0, b8 (unnoticed s.seq.orders).length ++ ((unnoticed s.seq.orders).map b16).flatten⟩) ∧
        t.seq.orders = s.seq.orders.map fun o => if o.state = .ended then { o with noticed := true } else o))

/-! ### Fitment requests -/

/-- R173: while the fitment is LOCKED, every write of a locked section is refused LOCKED and changes nothing. -/
def Obligations.LockedSectionsRefuseWrites : Prop :=
  ∀ (tag : Byte) (s : State), s.answers → s.fitment.locked = true →
    let refused (c : Instr) (kind : Byte) : Prop :=
      ∃ t, exec c s = .next t ∧ t.quiet = (s.refusedReply kind tag 4 0 0 0).quiet
    (∀ r, refused (.fitEquipment tag r) 0x01) ∧ (∀ r, refused (.fitAxis tag r) 0x02) ∧
    (∀ r, refused (.fitChannel tag r) 0x03) ∧ (∀ r, refused (.fitFlow tag r) 0x04) ∧
    (∀ r, refused (.fitProfile tag r) 0x05) ∧ (∀ r, refused (.fitTiming tag r) 0x06) ∧
    (∀ r, refused (.fitPolicy tag r) 0x07) ∧
    (∀ r : InterlockReq, r.terms.length = r.count.toNat → refused (.fitInterlock tag r) 0x08) ∧
    (∀ r, refused (.fitLamps tag r) 0x09)

/-- R173: while the fitment is OPEN, a write whose fields are in range replaces its whole place with the fields' values, has no
other effect for these six kinds, and is answered DONE with an empty payload; the first field out of range refuses it FIELD
with that field's number, here also spelled out for fields of EQUIPMENT and TIMING. Subject ANY is coded 8, and a FLOW record
with C_cold above C is stored and refused at FIT_LOCK alone, the model's readings (assumptions 12 and 20). -/
def Obligations.OpenSectionsAreWrittenWhole : Prop :=
  ∀ (tag : Byte) (s : State), s.answers → s.fitment.locked = false →
    let stored (c : Instr) (kind : Byte) (f : Fitment) : Prop :=
      ∃ t, exec c s = .next t ∧ t.quiet = ({ s with fitment := f }.doneReply kind tag []).quiet
    let badField (c : Instr) (kind n : Byte) : Prop :=
      ∃ t, exec c s = .next t ∧ t.quiet = (s.refusedReply kind tag 3 n 0 0).quiet
    (∀ r : EquipmentReq, r.lift.toNat < 2 → r.kerb.toNat < 2 → r.road.toNat < 2 →
      stored (.fitEquipment tag r) 0x01
        { s.fitment with equipment := some ⟨r.lift == 1, r.kerb == 1, r.road == 1⟩ }) ∧
    (∀ r : EquipmentReq, r.lift.toNat < 2 → 2 ≤ r.kerb.toNat → badField (.fitEquipment tag r) 0x01 2) ∧
    (∀ (r : EquipmentReq) (n : Nat), firstBad r.checks = some n → badField (.fitEquipment tag r) 0x01 (BitVec.ofNat 8 n)) ∧
    (∀ (r : ChannelReq) (n : Nat), firstBad r.checks = some n → badField (.fitChannel tag r) 0x03 (BitVec.ofNat 8 n)) ∧
    (∀ (r : FlowReq) (n : Nat), firstBad r.checks = some n → badField (.fitFlow tag r) 0x04 (BitVec.ofNat 8 n)) ∧
    (∀ (r : ProfileReq) (n : Nat), firstBad r.checks = some n → badField (.fitProfile tag r) 0x05 (BitVec.ofNat 8 n)) ∧
    (∀ (r : TimingReq) (n : Nat), firstBad r.checks = some n → badField (.fitTiming tag r) 0x06 (BitVec.ofNat 8 n)) ∧
    (∀ (r : InterlockReq) (n : Nat), r.terms.length = r.count.toNat → firstBad r.checks = some n →
      badField (.fitInterlock tag r) 0x08 (BitVec.ofNat 8 n)) ∧
    (∀ r : ChannelReq, ∀ h : r.channel.toNat < 12, firstBad r.checks = none →
      stored (.fitChannel tag r) 0x03
        { s.fitment with
          channels := s.fitment.channels.set r.channel.toNat (some
            { period := r.period.toNat, lo := r.lo.toNat, hi := r.hi.toNat, width := r.width.toNat, dead := r.dead.toNat,
              openThr := r.openThr.toNat, shortThr := r.shortThr.toNat }) }) ∧
    (∀ r : FlowReq, firstBad r.checks = none →
      stored (.fitFlow tag r) 0x04
        { s.fitment with
          flow := some
            { capacity := r.capacity.toNat, cold := r.cold.toNat, threshold := r.threshold.toInt, liftUp := r.liftUp.toNat,
              tilt := r.tilt.toNat, shutterUp := r.shutterUp.toNat, start := r.start.toNat, runOn := r.runOn.toNat } }) ∧
    (∀ r : ProfileReq, ∀ h : r.profile.toNat < 3, firstBad r.checks = none →
      stored (.fitProfile tag r) 0x05
        { s.fitment with profiles := s.fitment.profiles.set r.profile.toNat (some r.record) }) ∧
    (∀ r : TimingReq, firstBad r.checks = none →
      stored (.fitTiming tag r) 0x06
        { s.fitment with
          timing := some
            { hold := r.hold.toNat, block := r.block.toNat, twoHand := r.twoHand.toNat, debounce := r.debounce.toNat,
              release := r.release.toNat, status := r.status.toNat, latchCheck := r.latchCheck.toNat } }) ∧
    (∀ r : TimingReq, 500 ≤ r.hold.toNat → r.hold.toNat ≤ 30000 → 60000 < r.block.toNat →
      badField (.fitTiming tag r) 0x06 2) ∧
    (∀ r : InterlockReq, ∀ h : r.entry.toNat - 1 < 24, r.terms.length = r.count.toNat → firstBad r.checks = none →
      stored (.fitInterlock tag r) 0x08
        { s.fitment with
          interlocks := s.fitment.interlocks.set (r.entry.toNat - 1) (some
            { subject := MoveClass.all[r.subject.toNat]?, loss := if r.loss = 1 then .stopFail else .stopWait,
              terms := r.terms.map TermReq.record }) })

/-- R70: a FIT_AXIS in range replaces the axis's record and rebases its tracker, and no other tracker changes; NUM not below
DEN is refused FIELD, detail 3. -/
def Obligations.AxisWriteRebasesTheTracker : Prop :=
  ∀ (a : Axis) (tag : Byte) (r : AxisReq) (s : State), s.answers → s.fitment.locked = false → r.axis.toNat = a.idx.val →
    (firstBad r.checks = none →
      ∃ t, exec (.fitAxis tag r) s = .next t ∧
        t.quiet =
          ({ s with
             fitment := { s.fitment with axes := s.fitment.axes.set a.idx (some r.record) }
             trackers := s.trackers.set a.idx
               { s.tracker a with
                 pos := r.home.toInt, rem := 0, referenced := (s.tracker a).home, net := 0, windowLeft := 50, speed := 0,
                 sense := .stationary, parked := none } }.doneReply 0x02 tag []).quiet) ∧
    (1 ≤ r.n.toNat → r.n.toNat ≤ 4095 → r.den.toNat ≤ r.num.toNat →
      ∃ t, exec (.fitAxis tag r) s = .next t ∧ t.quiet = (s.refusedReply 0x02 tag 3 3 0 0).quiet)

/-- R138, R139, R148: a write of the POLICY record works every group's stop state out afresh from its slots and the debounced
levels; a write of the LAMPS record turns off the discrete latch of each line that is not a discrete line after it. -/
def Obligations.PolicyAndLampsTakeEffectAtTheWrite : Prop :=
  ∀ (tag : Byte) (s : State), s.answers → s.fitment.locked = false →
    (∀ r : PolicyReq, firstBad r.checks = none → s.noActive →
      ∃ t, exec (.fitPolicy tag r) s = .next t ∧ t.fitment = { s.fitment with policy := some r.record } ∧
        (∀ (g : Group) (x y : StopSlot), r.record.slots[2 * g.idx.val]? = some x → r.record.slots[2 * g.idx.val + 1]? = some y →
          t.isObstructed g =
            ((x.input.any fun i => s.level (.g i) == x.stopsOn) || (y.input.any fun i => s.level (.g i) == y.stopsOn))) ∧
        t.link.outgoing = (s.doneReply 0x07 tag []).link.outgoing ∧ t.records = s.records ∧ t.faults = s.faults ∧
        t.flow = s.flow ∧ t.drive = s.drive ∧ t.trackers = s.trackers ∧ t.beacon = s.beacon) ∧
    (∀ r : LampsReq, firstBad r.checks = none →
      ∃ t, exec (.fitLamps tag r) s = .next t ∧ t.fitment = { s.fitment with lamps := some r.record } ∧
        (∀ p, t.latch p = (s.latch p && (decide (r.record.modes[p.idx] = .single) && r.record.discrete[p.idx]))) ∧
        t.beacon.players = s.beacon.players ∧ t.beacon.lamps = s.beacon.lamps ∧ t.beacon.overrides = s.beacon.overrides ∧
        t.link.outgoing = (s.doneReply 0x09 tag []).link.outgoing ∧ t.records = s.records ∧ t.faults = s.faults)

/-- R145, R146, R150, R152, R153: FIT_PATTERN replaces its pattern in either fitment state and restarts each DARK player that has
selected it; FIT_SCENE replaces its entry and re-derives every pair's selection, which starts at once on a player that is not
PLAYING and is held as pending on one that is. -/
def Obligations.PatternsAndScenesReachThePlayers : Prop :=
  ∀ (tag : Byte) (s : State), s.answers →
    (∀ r : PatternReq, ∀ h : r.pattern.toNat - 1 < 8, r.steps.length = r.count.toNat → firstBad r.checks = none →
      ∃ t, exec (.fitPattern tag r) s = .next t ∧
        t.fitment = { s.fitment with patterns := s.fitment.patterns.set (r.pattern.toNat - 1) (some r.record) } ∧
        (∀ p, t.player p =
          if (s.player p).cond = .dark ∧ (s.player p).sel.pattern = r.pattern.toNat then
            { sel := (s.player p).sel, steps := r.record.steps, repeats := r.repeats.toNat, cond := .playing, step := 0,
              cycle := 1, timer := some (stepTime r.record.steps 0), pending := none }
          else s.player p) ∧
        t.link.outgoing = (s.doneReply 0x0A tag []).link.outgoing ∧ t.beacon.lamps = s.beacon.lamps ∧
        t.records = s.records ∧ t.faults = s.faults) ∧
    (∀ r : SceneReq, ∀ h : r.scene.toNat - 1 < 8, firstBad r.checks = none →
      ∃ t, exec (.fitScene tag r) s = .next t ∧
        t.fitment = { s.fitment with scenes := s.fitment.scenes.set (r.scene.toNat - 1) (some r.record) } ∧
        (∀ p, s.meetsSelection t p) ∧
        t.link.outgoing = (s.doneReply 0x0B tag []).link.outgoing ∧ t.records = s.records ∧ t.faults = s.faults)

/-- R175, R176, R78: FIT_LOCK is refused LOCKED in a LOCKED fitment. In an OPEN one the first failure of the four passes, with
the needed places of Table 10-4 and the relations of Table 10-5, refuses it FIELD with its record kind, index and field, and
changes nothing; this is 1, 0, 0 without an EQUIPMENT record and 1, 0, 1 without a fitted group. With no failure it makes the
fitment LOCKED and the capacity in force C_cold and snaps every axis whose switch is active, a referenced one further from its
home value than the home window leaving REFERENCE_MISMATCH LATCHED; with no switch active nothing else changes. That no grant is
tried then, and that C_cold above C is found here, are the model's readings (assumptions 37 and 20). -/
def Obligations.LockChecksThenLocks : Prop :=
  ∀ (tag : Byte) (s : State), s.answers →
    (s.fitment.locked = true →
      ∃ t, exec (.fitLock tag) s = .next t ∧ t.quiet = (s.refusedReply 0x0D tag 4 0 0 0).quiet) ∧
    (∀ q k i f : Nat, s.fitment.locked = false → s.lockFailsFirst q k i f →
      ∃ t, exec (.fitLock tag) s = .next t ∧
        t.quiet = (s.refusedReply 0x0D tag 3 (BitVec.ofNat 8 k) (BitVec.ofNat 8 i) (BitVec.ofNat 8 f)).quiet) ∧
    (s.fitment.locked = false → s.fitment.equipment = none →
      ∃ t, exec (.fitLock tag) s = .next t ∧ t.quiet = (s.refusedReply 0x0D tag 3 1 0 0).quiet) ∧
    (s.fitment.locked = false → s.fitment.equipment = some ⟨false, false, false⟩ →
      ∃ t, exec (.fitLock tag) s = .next t ∧ t.quiet = (s.refusedReply 0x0D tag 3 1 0 1).quiet) ∧
    (s.fitment.locked = false → (∀ q k i f, ¬ s.lockFails q k i f) → (∀ a, (s.tracker a).home = false) →
      ∃ (t : State) (r : FlowRec), s.fitment.flow = some r ∧ exec (.fitLock tag) s = .next t ∧
        t.quiet =
          ({ s with
             fitment := { s.fitment with locked := true }
             flow := { s.flow with capacity := r.cold, cold := true } }.doneReply 0x0D tag []).quiet) ∧
    (s.fitment.locked = false → (∀ q k i f, ¬ s.lockFails q k i f) → s.noActive → s.faults.sound →
      s.faults.entries.length + 5 ≤ 16 →
      let mismatch (a : Axis) (x : AxisRec) : Prop :=
        s.axisRec? a = some x ∧ (s.tracker a).home = true ∧ (s.tracker a).referenced = true ∧
          x.homeWindow < ((s.tracker a).pos - x.home).natAbs
      ∃ (t : State) (r : FlowRec), s.fitment.flow = some r ∧ exec (.fitLock tag) s = .next t ∧
        t.fitment = { s.fitment with locked := true } ∧ t.flow = { s.flow with capacity := r.cold, cold := true } ∧
        (∀ a x, s.axisRec? a = some x → (s.tracker a).home = true →
          t.tracker a =
            { s.tracker a with
              pos := x.home, rem := 0, referenced := true,
              parked := if s.groupIdle a.group then some x.home else (s.tracker a).parked }) ∧
        (∀ a, s.axisRec? a = none ∨ (s.tracker a).home = false → t.tracker a = s.tracker a) ∧
        (∀ a x, mismatch a x →
          (∃ e ∈ t.faults.entries, e.code = .referenceMismatch ∧ e.subject = .axis a ∧ e.active = false) ∧
            t.faults.flags.group a.group = true) ∧
        ((∀ a x, ¬ mismatch a x) → t.faults = s.faults) ∧
        t.link.outgoing = (s.doneReply 0x0D tag []).link.outgoing ∧ t.records = s.records ∧ t.drive = s.drive ∧
        t.vehicle = s.vehicle ∧ t.operator = s.operator)

/-! ### Orders -/

/-- R11: the eight checks of a SUBMIT whose fields pass, in their order; the first that fails refuses it and nothing changes.
Which fault codes a recovery kind is admitted under is R12's, by FaultTable.admits. -/
def Obligations.SubmitIsRefusedByTheFirstCheck : Prop :=
  ∀ (tag : Byte) (r : SubmitReq) (k : OrderKind) (b : Binding) (s : State), s.answers → firstBad r.checks = none →
    r.kind? = some k → r.binding? = some b →
    let refused (reason : Byte) : Prop :=
      ∃ t, exec (.submit tag r) s = .next t ∧ t.quiet = (s.refusedReply 0x10 tag reason 0 0 0).quiet
    let inhibited : Prop := s.faults.flags.group r.group = true ∧ s.faults.admits r.group k = false
    let needed : List Axis :=
      match k with
      | .raiseTo | .lowerTo => [.lk, .lr]
      | .tiltTo => [.tl]
      | .deploy | .stow => [.lk, .lr, .tl]
      | .openShutter => r.group.axes
      | .home | .closeShutter => []
    let unreferenced : Prop := ∃ a ∈ needed, (s.tracker a).referenced = false
    (s.fitment.locked = false → refused 5) ∧
    (s.fitment.locked = true →
      (s.fitted r.group = false → refused 6) ∧
      (s.fitted r.group = true →
        (s.operator.estop ≠ .clear → refused 13) ∧
        (s.operator.estop = .clear →
          (s.faults.resetting[r.group.idx] ≠ none → refused 12) ∧
          (s.faults.resetting[r.group.idx] = none →
            (inhibited → refused 11) ∧
            (¬ inhibited →
              (unreferenced → refused 14) ∧
              (¬ unreferenced →
                (b.kind.rank < (s.minBinding k).rank → refused 15) ∧
                ((s.minBinding k).rank ≤ b.kind.rank → 8 ≤ s.seq.orders.length →
                  (∀ o ∈ s.seq.orders, o.state ≠ .ended) → refused 7)))))))

/-- R2 to R7, R13 to R20, R106: a SUBMIT that passes its checks takes the counter's number, which no record carries, and the
phases, target and speed class of its kind. While its group has an active order or, under a proving test, an older QUEUED record,
it is placed behind the other records as QUEUED, in a full table after the ENDED record that ended first has been removed. In
an idle group with room its first phase starts at once, unless a proving test runs: the phase of a TILT_TO is fixed and the gates
are tried. It is answered DONE with the number, the clamped field and the state. The target held by a HOME's phase, the mean of
the home values, that of a LEVEL phase before its start, which is a free value, and the rank by which ends are told apart are the
model's (assumptions 14, 4 and 30). -/
def Obligations.SubmitJoinsTheQueue : Prop :=
  ∀ (tag : Byte) (r : SubmitReq) (k : OrderKind) (b : Binding) (s : State), s.answers → firstBad r.checks = none →
    r.kind? = some k → r.binding? = some b → s.submitRefusal? r.group k b = none →
    let limit : Option Nat := if r.limit = 0 then none else some r.limit.toNat
    (∀ kept : List Order,
      (s.active? r.group).isSome ∨ s.drive.prove.overall = .running ∧ (s.oldestQueued? r.group).isSome →
      (s.seq.orders.length < 8 ∧ kept = s.seq.orders ∨
        8 ≤ s.seq.orders.length ∧ (s.seq.orders.map (·.number)).Nodup ∧
          ∃ e ∈ s.seq.orders, e.state = .ended ∧
            (∀ x ∈ s.seq.orders, x.state = .ended → x.number ≠ e.number → e.endRank < x.endRank) ∧
            kept = s.seq.orders.filter fun x => x.number != e.number) →
      (∀ o ∈ kept, o.number ≠ s.seq.nextNumber) →
      ∃ (t : State) (o : Order), exec (.submit tag r) s = .next t ∧
        t.quiet =
          ({ s with
             free := s.free + 1
             seq := { s.seq with
                      orders := kept ++ [o]
                      nextNumber := if s.seq.nextNumber = 65535 then 1 else s.seq.nextNumber + 1 } }.doneReply 0x10 tag
            (b16 s.seq.nextNumber ++ bFlag o.clamped ++ [0])).quiet ∧
        o.number = s.seq.nextNumber ∧ o.group = r.group ∧ o.kind = k ∧ o.binding = b ∧ o.state = .queued ∧ o.index = 0 ∧
        o.movingTime = 0 ∧ o.blocking = 0 ∧ o.startedEdge = false ∧ o.uncompensated = false ∧ o.noticed = false ∧
        o.outcome = none ∧ o.pendResult = none ∧ o.pendReason = none ∧ o.endedAt = none ∧ o.result = none ∧ o.reason = none ∧
        o.residual = none ∧ o.submittedAt = s.supply.time ∧ o.limit = limit ∧ s.plansOrder r k o) ∧
    (s.groupIdle r.group = true → s.seq.orders.length < 8 → (∀ o ∈ s.seq.orders, o.number ≠ s.seq.nextNumber) →
      claimed s.seq.nextNumber s.flow.waiting = false → claimed s.seq.nextNumber s.flow.granted = false →
      ∃ (t : State) (y : Order) (p : Phase), exec (.submit tag r) s = .next t ∧ t.order? s.seq.nextNumber = some y ∧
        t.seq.orders.map (·.number) = s.seq.orders.map (·.number) ++ [s.seq.nextNumber] ∧ y.group = r.group ∧ y.kind = k ∧
        y.binding = b ∧ y.index = 0 ∧ y.phase? = some p ∧ y.movingTime = 0 ∧ y.startedEdge = false ∧
        y.submittedAt = s.supply.time ∧ y.limit = limit ∧
        (s.drive.prove.overall = .running → y.state = .queued) ∧
        (s.drive.prove.overall ≠ .running → s.startsPhase t p y) ∧
        (k ≠ .tiltTo ∨ s.drive.prove.overall = .running → s.plansOrder r k y) ∧
        (k = .tiltTo → s.drive.prove.overall ≠ .running → s.fixesTilt r y) ∧
        (y.state ≠ .ended → ∀ a ∈ r.group.axes, (t.tracker a).parked = none) ∧
        t.link.outgoing =
          (s.doneReply 0x10 tag
            (b16 s.seq.nextNumber ++ bFlag y.clamped ++ bCode OrderState.all y.state)).link.outgoing)

/-- R33: CANCEL by the state of the record: unknown and ENDED records refuse it; a waiting record, and one in a PULSE or CHECK
phase, ends CANCELLED at once, its claim withdrawn or its running latch pulse released; a movement phase is stopped; a stop or a
settling already under way turns to CANCELLED unless it is pending FAILED; a QUEUED record leaves the queue, also while a proving
test keeps its group without an active order. -/
def Obligations.CancelGoesByTheState : Prop :=
  ∀ (tag : Byte) (n : U16) (s : State), s.answers →
    (s.order? n.toNat = none →
      ∃ t, exec (.cancel tag n) s = .next t ∧ t.quiet = (s.refusedReply 0x11 tag 8 0 0 0).quiet) ∧
    (∀ o, s.order? n.toNat = some o → o.state = .ended →
      ∃ t, exec (.cancel tag n) s = .next t ∧ t.quiet = (s.refusedReply 0x11 tag 9 0 0 0).quiet) ∧
    (∀ o, s.order? n.toNat = some o → o.state = .moving → o.inMovement = true →
      ∃ t, exec (.cancel tag n) s = .next t ∧ s.stopsAs t o .finish (some .cancelled) none ∧
        t.link.outgoing = (s.doneReply 0x11 tag []).link.outgoing ∧ t.runs = s.runs ∧ t.drive = s.drive ∧ t.flow = s.flow ∧
        t.faults = s.faults ∧ t.trackers = s.trackers ∧ t.seq.ctl = s.seq.ctl) ∧
    (∀ o, s.order? n.toNat = some o → o.state = .stopping ∨ o.state = .settling →
      ∃ t, exec (.cancel tag n) s = .next t ∧
        t.quiet =
          ((s.modOrder n.toNat fun x =>
            if x.pendResult = some .failed then x
            else { x with outcome := some .finish, pendResult := some .cancelled, pendReason := none }).doneReply
              0x11 tag []).quiet) ∧
    (∀ o, s.order? n.toNat = some o → (s.seq.orders.map (·.number)).Nodup → s.oneActiveEach →
      s.oldestQueued? o.group = none → s.run? o.group = none →
      let ended (t : State) : Prop :=
        s.endsAs t o .cancelled none ∧ t.active? o.group = none ∧
          t.link.outgoing = (s.doneReply 0x11 tag []).link.outgoing ∧ t.faults.flags = s.faults.flags ∧
          t.operator = s.operator ∧ t.fitment = s.fitment
      (o.state = .blocked ∨ o.state = .holdWait ∨ o.state = .claiming ∨ o.state = .paused →
        (∀ q ∈ s.flow.waiting, q.order = o.number) →
        ∃ t, exec (.cancel tag n) s = .next t ∧ ended t ∧ t.flow.waiting = [] ∧
          t.flow.granted = s.flow.granted.filter (fun q => q.order != o.number) ∧ t.drive = s.drive ∧ t.faults = s.faults) ∧
      (o.state = .moving → o.phaseIs .pulse = true →
        ∃ t, exec (.cancel tag n) s = .next t ∧ ended t ∧
          (∀ d : Side, o.group = d.group →
            (t.chan d.latch).state = .idle ∧ ∀ c, c ≠ d.latch → t.chan c = s.chan c) ∧ t.flow = s.flow) ∧
      (o.state = .moving → o.phaseIs .check = true →
        ∃ t, exec (.cancel tag n) s = .next t ∧ ended t ∧ t.drive = s.drive ∧ t.flow = s.flow ∧ t.faults = s.faults)) ∧
    (∀ o, s.order? n.toNat = some o → o.state = .queued → s.drive.prove.overall = .running → s.active? o.group = none →
      ∃ t, exec (.cancel tag n) s = .next t ∧ s.endsAs t o .cancelled none ∧
        t.link.outgoing = (s.doneReply 0x11 tag []).link.outgoing ∧ t.runs = s.runs ∧ t.drive = s.drive ∧ t.flow = s.flow ∧
        t.faults = s.faults ∧ t.seq.ctl = s.seq.ctl) ∧
    (∀ o a, s.order? n.toNat = some o → o.state = .queued → s.active? o.group = some a → a.number ≠ o.number →
      ∃ t, exec (.cancel tag n) s = .next t ∧ s.endsAs t o .cancelled none ∧
        t.link.outgoing = (s.doneReply 0x11 tag []).link.outgoing ∧ t.runs = s.runs ∧ t.drive = s.drive ∧ t.flow = s.flow ∧
        t.faults = s.faults ∧ t.trackers = s.trackers ∧ t.seq.ctl = s.seq.ctl)

/-- R8: RETIRE removes an ENDED record and no other, and refuses a record in any other state and a number that no record
carries. -/
def Obligations.RetireRemovesAnEndedRecord : Prop :=
  ∀ (tag : Byte) (n : U16) (s : State), s.answers →
    (∀ o, s.order? n.toNat = some o → o.state = .ended →
      ∃ t, exec (.retire tag n) s = .next t ∧
        t.quiet =
          ({ s with seq := { s.seq with orders := s.seq.orders.filter fun x => x.number != n.toNat } }.doneReply
            0x12 tag []).quiet) ∧
    (∀ o, s.order? n.toNat = some o → o.state ≠ .ended →
      ∃ t, exec (.retire tag n) s = .next t ∧ t.quiet = (s.refusedReply 0x12 tag 10 0 0 0).quiet) ∧
    (s.order? n.toNat = none →
      ∃ t, exec (.retire tag n) s = .next t ∧ t.quiet = (s.refusedReply 0x12 tag 8 0 0 0).quiet)

/-! ### The other requests -/

/-- R9, R83, R130, R171, R174, R191: each query is answered DONE with its report and changes nothing, FIT_READ with the record kind,
the index, the present flag and the fields of the record, every field 0 for an absent place (that an absent INTERLOCK or PATTERN
has no list is the model's reading, assumption 25); a section above 6, a record kind outside 1 to 11 and an index that the kind
does not have are refused FIELD. -/
def Obligations.QueriesChangeNothing : Prop :=
  ∀ (tag : Byte) (s : State), s.answers →
    let reports (c : Instr) (kind : Byte) (payload : List Byte) : Prop :=
      ∃ t, exec c s = .next t ∧ t.quiet = (s.doneReply kind tag payload).quiet
    let badField (c : Instr) (kind n : Byte) : Prop :=
      ∃ t, exec c s = .next t ∧ t.quiet = (s.refusedReply kind tag 3 n 0 0).quiet
    (∀ (n : U16) (o : Order), s.order? n.toNat = some o → reports (.queryOrder tag n) 0x13 (orderReport o)) ∧
    (∀ n : U16, s.order? n.toNat = none →
      ∃ t, exec (.queryOrder tag n) s = .next t ∧ t.quiet = (s.refusedReply 0x13 tag 8 0 0 0).quiet) ∧
    reports (.queryTable tag) 0x14
      (BitVec.ofNat 8 s.seq.orders.length :: (s.seq.orders.map orderSummary).flatten) ∧
    reports (.queryAxes tag) 0x21
      (axisReport s .lk ++ axisReport s .lr ++ axisReport s .tl ++ axisReport s .sk ++ axisReport s .sr) ∧
    reports (.queryStatus tag 0) 0x22 (supplySection s ++ [0]) ∧
    reports (.queryStatus tag 1) 0x22 (supplySection s ++ 1 :: vehicleSection s) ∧
    reports (.queryStatus tag 2) 0x22 (supplySection s ++ 2 :: flowSection s) ∧
    reports (.queryStatus tag 3) 0x22 (supplySection s ++ 3 :: motionSection s) ∧
    reports (.queryStatus tag 4) 0x22 (supplySection s ++ 4 :: driveSection s) ∧
    reports (.queryStatus tag 5) 0x22 (supplySection s ++ 5 :: operatorSection s) ∧
    reports (.queryStatus tag 6) 0x22 (supplySection s ++ 6 :: beaconSection s) ∧
    (∀ sec : Byte, 6 < sec.toNat → badField (.queryStatus tag sec) 0x22 1) ∧
    reports (.queryFaults tag) 0x23 (faultReport s.faults) ∧ reports (.queryProve tag) 0x28 (proveReport s.drive.prove) ∧
    (∀ r : EquipmentRec, s.fitment.equipment = some r →
      reports (.fitRead tag 1 0) 0x0C ([1, 0, 1] ++ bFlag r.lift ++ bFlag r.kerb ++ bFlag r.road)) ∧
    (s.fitment.equipment = none → reports (.fitRead tag 1 0) 0x0C [1, 0, 0, 0, 0, 0]) ∧
    (∀ kind index : Byte, kind = 0 ∨ 11 < kind.toNat → badField (.fitRead tag kind index) 0x0C 1) ∧
    (∀ index : Byte, 12 ≤ index.toNat → badField (.fitRead tag 3 index) 0x0C 2) ∧
    (∀ kind index : Byte, kind ∈ [(1 : Byte), 4, 6, 7, 9] → index ≠ 0 → badField (.fitRead tag kind index) 0x0C 2) ∧
    (∀ index : Byte, 5 ≤ index.toNat → badField (.fitRead tag 2 index) 0x0C 2) ∧
    (∀ index : Byte, 3 ≤ index.toNat → badField (.fitRead tag 5 index) 0x0C 2) ∧
    (∀ index : Byte, index = 0 ∨ 24 < index.toNat → badField (.fitRead tag 8 index) 0x0C 2) ∧
    (∀ kind index : Byte, kind ∈ [(10 : Byte), 11] → index = 0 ∨ 8 < index.toNat → badField (.fitRead tag kind index) 0x0C 2) ∧
    (∀ (index : Byte) (a : Axis), index.toNat = a.idx.val →
      reports (.fitRead tag 2 index) 0x0C ([2, index] ++
        match s.axisRec? a with | some r => 1 :: bAxis a.idx.val r | none => 0 :: List.replicate 43 0)) ∧
    (∀ (index : Byte) (c : Channel), index.toNat = c.val →
      reports (.fitRead tag 3 index) 0x0C ([3, index] ++
        match s.chanRec? c with | some r => 1 :: bChannel c.val r | none => 0 :: List.replicate 15 0)) ∧
    reports (.fitRead tag 4 0) 0x0C ([4, 0] ++
      match s.fitment.flow with | some r => 1 :: bFlow r | none => 0 :: List.replicate 11 0) ∧
    (∀ (index : Byte) (p : Profile), index.toNat = p.idx.val →
      reports (.fitRead tag 5 index) 0x0C ([5, index] ++
        match s.profile? p with | some r => 1 :: bProfile p.idx.val r | none => 0 :: List.replicate 53 0)) ∧
    reports (.fitRead tag 6 0) 0x0C ([6, 0] ++
      match s.fitment.timing with | some r => 1 :: bTiming r | none => 0 :: List.replicate 13 0) ∧
    reports (.fitRead tag 7 0) 0x0C ([7, 0] ++
      match s.fitment.policy with | some r => 1 :: bPolicy r | none => 0 :: List.replicate 20 0) ∧
    (∀ (index : Byte) (i : Fin 24), index.toNat = i.val + 1 →
      reports (.fitRead tag 8 index) 0x0C ([8, index] ++
        match s.fitment.interlocks[i] with | some r => 1 :: bInterlock (i.val + 1) r | none => [0, 0, 0, 0, 0])) ∧
    reports (.fitRead tag 9 0) 0x0C ([9, 0] ++
      match s.fitment.lamps with | some r => 1 :: bLamps r | none => 0 :: List.replicate 6 0) ∧
    (∀ (index : Byte) (i : Fin 8), index.toNat = i.val + 1 →
      reports (.fitRead tag 10 index) 0x0C ([10, index] ++
        match s.fitment.patterns[i] with | some r => 1 :: bPattern (i.val + 1) r | none => [0, 0, 0, 0]) ∧
      reports (.fitRead tag 11 index) 0x0C ([11, index] ++
        match s.fitment.scenes[i] with | some r => 1 :: bScene (i.val + 1) r | none => 0 :: List.replicate 11 0))

/-- R37, R38: an accepted VEHICLE records its six fields, the numeric ones clamped, sets the record FRESH and restarts the status
timer; the reply says what the freshness was and which fields were clamped. -/
def Obligations.VehicleFieldsAreClamped : Prop :=
  ∀ (tag : Byte) (r : VehicleReq) (s : State), s.answers → s.fitment.locked = true → r.brake.toNat ≤ 2 → r.night.toNat ≤ 1 →
    ∃ t, exec (.vehicle tag r) s = .next t ∧
      t.vehicle =
        { brake := if r.brake = 0 then .applied else if r.brake = 1 then .released else .unknown
          speed := if 2500 < r.speed.toNat then 2500 else r.speed.toNat
          oil := if r.oil.toInt < -40 then -40 else if 150 < r.oil.toInt then 150 else r.oil.toInt
          pitch := if r.pitch.toInt < -300 then -300 else if 300 < r.pitch.toInt then 300 else r.pitch.toInt
          roll := if r.roll.toInt < -300 then -300 else if 300 < r.roll.toInt then 300 else r.roll.toInt
          night := r.night == 1
          fresh := true
          acceptedAt := some s.supply.time
          timer := some (s.timing (·.status)) } ∧
      t.link.outgoing =
        (s.doneReply 0x20 tag
          (bFlag (!s.vehicle.fresh) ++ bFlag (decide (2500 < r.speed.toNat)) ++
            bFlag (decide (r.oil.toInt < -40 ∨ 150 < r.oil.toInt)) ++
            bFlag (decide (r.pitch.toInt < -300 ∨ 300 < r.pitch.toInt)) ++
            bFlag (decide (r.roll.toInt < -300 ∨ 300 < r.roll.toInt)))).link.outgoing ∧
      t.fitment = s.fitment ∧ t.trackers = s.trackers ∧ t.drive = s.drive ∧ t.operator = s.operator ∧ t.supply = s.supply ∧
      (s.flow.waiting = [] →
        t.records = s.records ∧ t.runs = s.runs ∧ t.flow.granted = s.flow.granted ∧ t.flow.pump = s.flow.pump ∧
        (s.vehicle.fresh = true → t.faults = s.faults) ∧
        (∀ f : FlowRec, s.fitment.flow = some f →
          t.flow.capacity = if f.threshold ≤ t.vehicle.oil then f.capacity else f.cold))

/-- R168, R170: CLEAR_FAULTS removes every LATCHED entry but those of SKEW, REFERENCE_MISMATCH and LATCH_FAULT; the end of a
group's RESETTING interval removes every LATCHED entry of the group, those codes included; each recomputes the flags. -/
def Obligations.LatchedEntriesAreRemoved : Prop :=
  ∀ s : State, s.faults.sound →
    (∀ tag : Byte, s.answers →
      ∃ t, exec (.clearFaults tag) s = .next t ∧
        t.faults.entries = (s.faults.entries.filter fun e =>
          e.active || decide (e.code = .skew ∨ e.code = .referenceMismatch ∨ e.code = .latchFault)) ∧
        t.faults.overflow = false ∧
        t.faults.overflowInhibits =
          (if t.faults.entries.length < 16 then Inhibits.none else s.faults.overflowInhibits) ∧
        t.faults.sound ∧ t.faults.resetting = s.faults.resetting ∧
        t.link.outgoing =
          (s.doneReply 0x24 tag
            (b8 (s.faults.entries.length - t.faults.entries.length) ++ b8 t.faults.activeCount ++ b8 t.faults.latchedCount ++
              bInhibits t.faults.flags ++ [0] ++ bInhibits t.faults.overflowInhibits)).link.outgoing ∧
        t.fitment = s.fitment ∧ t.trackers = s.trackers ∧ t.drive = s.drive ∧ t.operator = s.operator) ∧
    (∀ g : Group, s.supply.mode = .run → s.faults.resetting[g.idx] ≠ none →
      ∃ t, exec (.resettingTimerExpiry g) s = .next t ∧
        t.faults.entries = (s.faults.entries.filter fun e => e.active || decide (e.subject.group? ≠ some g)) ∧
        t.faults.overflow = s.faults.overflow ∧ t.faults.overflowInhibits = s.faults.overflowInhibits ∧ t.faults.sound ∧
        t.faults.resetting = s.faults.resetting.set g.idx none ∧ t.fitment = s.fitment ∧ t.trackers = s.trackers ∧
        t.drive = s.drive ∧ t.operator = s.operator)

/-- R35, R169: an accepted GROUP_RESET ends the group's orders ABORTED GROUP_RESET, releases its channels but for one under its
proving drive, and starts the RESETTING interval; a request for a group already RESETTING changes nothing. -/
def Obligations.GroupResetAbortsAndReleases : Prop :=
  ∀ (tag code : Byte) (g : Group) (s : State), s.answers → code.toNat = g.idx.val → s.fitment.locked = true →
    s.fitted g = true →
    (s.faults.resetting[g.idx] = none → s.flow.waiting = [] → (s.seq.orders.map (·.number)).Nodup →
      ∃ t, exec (.groupReset tag code) s = .next t ∧
        t.records =
          (s.seq.orders.map fun o =>
            if o.group = g ∧ o.state ≠ .ended then
              { o with state := .ended, endedAt := some s.supply.time, result := some .aborted, reason := some .groupReset,
                       residual := if o.group = .lift then some s.skew else none, outcome := none, pendResult := none,
                       pendReason := none, endRank := s.seq.endRank }
            else o).map Order.unmarked ∧
        (∀ c, channelGroup c = g → s.drive.prove.driving ≠ some c → t.chan c = Chan.reset) ∧
        (∀ c, channelGroup c ≠ g → t.chan c = s.chan c) ∧
        t.faults.resetting = s.faults.resetting.set g.idx (some (s.resetInterval g)) ∧
        t.link.outgoing = (s.doneReply 0x25 tag (1 :: b16 (s.resetInterval g))).link.outgoing ∧
        t.drive.prove = s.drive.prove ∧ t.operator = s.operator ∧ t.fitment = s.fitment) ∧
    (∀ left, s.faults.resetting[g.idx] = some left →
      ∃ t, exec (.groupReset tag code) s = .next t ∧ t.quiet = (s.doneReply 0x25 tag (1 :: b16 left)).quiet)

/-- R126: the checks of PROVE, and what an accepted one does to the proving record. That its DONE reply carries no payload is the
model's reading (assumption 36). -/
def Obligations.ProveStartsTheTest : Prop :=
  ∀ (tag : Byte) (s : State), s.answers →
    (s.fitment.locked = false → ∃ t, exec (.prove tag) s = .next t ∧ t.quiet = (s.refusedReply 0x27 tag 5 0 0 0).quiet) ∧
    (s.fitment.locked = true →
      s.drive.prove.overall = .running ∨ s.operator.estop ≠ .clear ∨ (∃ o ∈ s.seq.orders, o.state.isActive = true) ∨
        s.flow.pump ≠ .off →
      ∃ t, exec (.prove tag) s = .next t ∧ t.quiet = (s.refusedReply 0x27 tag 16 0 0 0).quiet) ∧
    (s.fitment.locked = true → s.drive.prove.overall ≠ .running → s.operator.estop = .clear →
      (∀ o ∈ s.seq.orders, o.state.isActive = false) → s.flow.pump = .off →
      (∃ g, s.fitted g = true) →
      ∃ t, exec (.prove tag) s = .next t ∧
        t.quiet =
          ({ s with
             drive := { s.drive with
               prove := {
                 overall := .running, failures := 0, results := Vector.replicate 12 .notTested,
                 startedAt := some s.supply.time, endedAt := none, next := 0, driving := none, drive := none, gap := none } }
             faults := s.faults.latch .provingFailed .none }.doneReply
            0x27 tag []).quiet)

/-- R152 to R155: BEACON_OVERRIDE SET puts its pattern in force on the pair for its duration and re-derives the selection;
RELEASE and the expiry of the timer remove the pair's override and re-derive the selection, and a RELEASE that finds none changes
nothing. That SET is coded 0 and RELEASE 1 is the model's reading (assumption 13). -/
def Obligations.OverrideIsSetAndRemoved : Prop :=
  (∀ (tag : Byte) (p : LampPair) (r : OverrideReq) (s : State), s.answers → r.pair.toNat = p.idx.val → r.action = 0 →
    r.pattern.toNat ≤ 8 → r.invert.toNat ≤ 1 → r.duration.toNat ≤ 3600 →
    ∃ t, exec (.beaconOverride tag r) s = .next t ∧
      t.override? p = some
        { pattern := r.pattern.toNat, invert := r.invert == 1,
          timer := if r.duration = 0 then none else some (1000 * r.duration.toNat) } ∧
      s.meetsSelection t p ∧
      (∀ q, q ≠ p → t.player q = s.player q ∧ t.override? q = s.override? q) ∧
      t.link.outgoing =
        (s.doneReply 0x29 tag
          (1 :: (b8 r.pattern.toNat ++ bFlag (r.invert == 1) ++
            b16 (if r.duration = 0 then 0xFFFF else r.duration.toNat)))).link.outgoing ∧
      t.records = s.records ∧ t.faults = s.faults ∧ t.fitment = s.fitment) ∧
  (∀ (tag : Byte) (p : LampPair) (r : OverrideReq) (s : State), s.answers → r.pair.toNat = p.idx.val → r.action = 1 →
    s.override? p = none →
    ∃ t, exec (.beaconOverride tag r) s = .next t ∧ t.quiet = (s.doneReply 0x29 tag [0, 0, 0, 0, 0]).quiet) ∧
  (∀ (tag : Byte) (p : LampPair) (r : OverrideReq) (v : Override) (s : State), s.answers → r.pair.toNat = p.idx.val →
    r.action = 1 → s.override? p = some v →
    ∃ t, exec (.beaconOverride tag r) s = .next t ∧ t.override? p = none ∧ s.meetsSelection t p ∧
      (∀ q, q ≠ p → t.player q = s.player q ∧ t.override? q = s.override? q) ∧
      t.link.outgoing = (s.doneReply 0x29 tag [0, 0, 0, 0, 0]).link.outgoing ∧ t.records = s.records ∧ t.faults = s.faults ∧
      t.fitment = s.fitment) ∧
  (∀ (p : LampPair) (v : Override) (s : State), s.supply.mode = .run → s.override? p = some v → v.timer ≠ none →
    ∃ t, exec (.overrideTimerExpiry p) s = .next t ∧ t.override? p = none ∧ s.meetsSelection t p ∧
      (∀ q, q ≠ p → t.player q = s.player q ∧ t.override? q = s.override? q) ∧ t.records = s.records ∧ t.faults = s.faults ∧
      t.fitment = s.fitment)

/-- R159: SET_OUTPUT on a discrete line sets its latch, setting it on lifts the line's cut, and is answered applied yes; on any
other line nothing changes and it is answered applied no; a line or a value out of range is refused FIELD. -/
def Obligations.SetOutputDrivesDiscreteLines : Prop :=
  ∀ (tag line value : Byte) (s : State), s.answers →
    (∀ p : LampPair, line.toNat = (Lamp.b p).idx.val → value.toNat ≤ 1 → s.isDiscrete p = true →
      ∃ t, exec (.setOutput tag line value) s = .next t ∧ t.latch p = (value == 1) ∧
        (∀ q, q ≠ p → t.latch q = s.latch q) ∧
        (∀ l, t.lamp l = if l = .b p ∧ value = 1 ∧ (s.lamp l).cut = true then ⟨.untested, false⟩ else s.lamp l) ∧
        t.beacon.players = s.beacon.players ∧ t.link.outgoing = (s.doneReply 0x2A tag [1]).link.outgoing ∧
        t.records = s.records ∧ t.faults = s.faults ∧ t.fitment = s.fitment) ∧
    (∀ l : Lamp, line.toNat = l.idx.val → value.toNat ≤ 1 → s.lampIsDiscrete l = false →
      ∃ t, exec (.setOutput tag line value) s = .next t ∧ t.quiet = (s.doneReply 0x2A tag [0]).quiet) ∧
    (6 ≤ line.toNat → ∃ t, exec (.setOutput tag line value) s = .next t ∧ t.quiet = (s.refusedReply 0x2A tag 3 1 0 0).quiet) ∧
    (line.toNat < 6 → 2 ≤ value.toNat →
      ∃ t, exec (.setOutput tag line value) s = .next t ∧ t.quiet = (s.refusedReply 0x2A tag 3 2 0 0).quiet)

/-! ### Motion -/

/-- R92, R93, R95 to R97, R100 to R102, R104, R105: a control interval of a MOVING order whose interlocks hold, that has not
arrived, is not near a stall and whose skew is not beyond the skew stop, computes f_base and ramps f_cmd toward it by at most the
ramp step. It supervises the skew of a synchronised phase against the skew warn, holds back the cylinder ahead by the correction,
gives 0 to a cylinder that is down on its switch, and sends the demands to the Drive Unit; the other group's channels and the
channels that the phase does not drive get no command. That the correction reported is 0 while R101 drops that of a synchronised
LIFT_DOWN is the model's choice (assumption 45). -/
def Obligations.MovingIntervalRampsTheDemand : Prop :=
  ∀ (g : Group) (o : Order) (p : Phase) (c : MoveClass) (r : ProfileRec) (x : Run) (s : State), s.supply.mode = .run →
    s.active? g = some o → o.state = .moving → o.phase? = some p → p.cls = some c → s.run? g = some x →
    s.profile? c.profile = some r → s.askInterlock o = none → s.isObstructed g = false → s.arrived o p c = false →
    x.stall + 10 < r.stallTime → (p.sync = true → g = .lift ∧ s.skew.natAbs ≤ r.skewStop) →
    (p.sync = true → x.skewState = .normal → r.skewWarn < s.skew.natAbs →
      s.faults.sound ∧ s.faults.entries.length < 16) →
    let judged : SkewState :=
      if p.sync = true ∧ x.skewState = .normal ∧ r.skewWarn < s.skew.natAbs then .warned
      else if p.sync = true ∧ x.skewState = .warned ∧ s.skew.natAbs ≤ r.skewWarn then .normal
      else x.skewState
    let hold := if s.skew.natAbs ≤ r.deadband then 0 else min r.cMax (s.skew.natAbs * r.kSync / 1000)
    let remaining := if o.kind = .home then 0 else (p.target - s.reference c).natAbs
    let cap := (match o.speed with | .creep => r.creep | .normal => r.normal | .fast => r.fast) * x.share / 1000
    let base := if o.kind = .home then cap else max r.fMin (min cap (remaining * r.kApp / 1000))
    let cmd := if x.fCmd < base then min base (x.fCmd + r.ramp) else max base (x.fCmd - r.ramp)
    ∃ (t : State) (y : Run), exec (.controlInterval g) s = .next t ∧ t.run? g = some y ∧ y.fBase = base ∧ y.fCmd = cmd ∧
      y.remaining = remaining ∧ y.order = x.order ∧ y.index = x.index ∧ y.share = x.share ∧ y.skewState = judged ∧
      y.demands.map (·.1) = c.driven ∧ (c.profile ≠ .lift → y.demands = c.driven.map fun ch => (ch, cmd)) ∧
      (c = .liftUp → p.sync = true →
        y.demands = [(0, if 0 < s.skew then cmd - hold else cmd), (2, if s.skew < 0 then cmd - hold else cmd)] ∧
          y.correction = hold) ∧
      (c = .liftDown → p.sync = true → (s.tracker .lk).home = false → (s.tracker .lr).home = false →
        y.demands = [(1, if s.skew < 0 then cmd - hold else cmd), (3, if 0 < s.skew then cmd - hold else cmd)] ∧
          y.correction = hold) ∧
      (c = .liftDown → p.sync = false ∨ (s.tracker .lk).home = true ∨ (s.tracker .lr).home = true →
        y.demands = [(1, if (s.tracker .lk).home then 0 else cmd), (3, if (s.tracker .lr).home then 0 else cmd)] ∧
          y.correction = 0) ∧
      t.drive = (sendDemands y.demands s).drive ∧
      (judged = x.skewState → t.faults = s.faults) ∧
      (judged = .warned → x.skewState = .normal →
        (∃ e ∈ t.faults.entries, e.code = .skewWarn ∧ e.subject = .group .lift ∧ e.active = true) ∧
          t.faults.flags = s.faults.flags) ∧
      (judged = .normal → x.skewState = .warned → t.faults = s.faults.latch .skewWarn (.group .lift)) ∧
      (∀ h, h ≠ g → t.run? h = s.run? h) ∧ t.records = s.records ∧ t.flow = s.flow ∧
      (t.ctl g) = { s.ctl g with interval := 10 } ∧ (∀ ch, ch ∉ c.driven → t.chan ch = s.chan ch) ∧
      t.trackers = s.trackers ∧ t.beacon = s.beacon ∧ t.operator = s.operator ∧ t.fitment = s.fitment

/-- R16, R17, R20, R22, R23, R25, R26, R94, R98: the control intervals that stop an order or ask its gates again. In STOPPING
f_cmd falls by the stop step to a floor of 0; while it stays above 0 the order goes on stopping. When it reaches 0 the run ends,
the claim is withdrawn, and the order goes by its stop outcome: ARRIVED or END to SETTLING with the settle time of its profile;
BLOCK to BLOCKED with the block window started; PAUSE to PAUSED with the hold window started, or through the gates from gate 2
when its binding is satisfied; BLOCK and PAUSE to ENDED FAILED INHIBITED while an inhibit applies. An interval of a MOVING order
that finds an interlock entry failing makes it the blocking entry and begins such a stop, with outcome BLOCK for STOP_WAIT and
END, pending FAILED INTERLOCK_LOST, for STOP_FAIL; one that finds the phase arrived begins it with outcome ARRIVED. Either takes
the first stop step. An interval of a BLOCKED order records a failing entry, leaves an order that only a stop input holds as it is
(assumption 40), and else lets it go on from gate 3. One of an order in HOLD_WAIT or CLAIMING sends it back to BLOCKED, its claim
withdrawn and the block window started afresh, when an entry fails or the group is obstructed, and else changes nothing. -/
def Obligations.StoppingIntervalStepsDown : Prop :=
  (∀ (g : Group) (o : Order) (p : Phase) (c : MoveClass) (r : ProfileRec) (x : Run) (s : State), s.supply.mode = .run →
    s.active? g = some o → o.state = .stopping → o.phase? = some p → p.cls = some c → s.run? g = some x →
    s.profile? c.profile = some r → (p.sync = true → x.skewState = .normal ∧ s.skew.natAbs ≤ min r.skewWarn r.skewStop) →
    (r.stop < x.fCmd →
      ∃ (t : State) (y : Run), exec (.controlInterval g) s = .next t ∧ t.run? g = some y ∧ y.fCmd = x.fCmd - r.stop ∧
        y.fBase = x.fBase ∧ y.share = x.share ∧ y.stall = x.stall ∧ t.records = s.records ∧ t.faults = s.faults ∧
        t.flow = s.flow ∧ t.trackers = s.trackers ∧ t.beacon = s.beacon) ∧
    (x.fCmd ≤ r.stop → o.outcome = some .arrived ∨ o.outcome = some .finish → s.flow.waiting = [] →
      x.skewState ≠ .warned →
      ∃ t, exec (.controlInterval g) s = .next t ∧ t.run? g = none ∧
        t.records =
          (s.seq.orders.map fun z => if z.number = o.number then { z with state := .settling } else z).map Order.unmarked ∧
        (t.ctl g).settle = some r.settle ∧ claimed o.number t.flow.granted = false ∧ t.faults = s.faults ∧
        t.trackers = s.trackers ∧ t.operator = s.operator) ∧
    (x.fCmd ≤ r.stop → s.flow.waiting = [] → x.skewState ≠ .warned → (s.seq.orders.map (·.number)).Nodup →
      let waits (t : State) (st : OrderState) : Prop :=
        t.records =
            (s.seq.orders.map fun z => if z.number = o.number then { z with state := st, outcome := none } else z).map
              Order.unmarked ∧
          t.run? g = none ∧ claimed o.number t.flow.granted = false ∧ t.faults = s.faults ∧ t.trackers = s.trackers ∧
          t.operator = s.operator
      (o.outcome = some .block → ¬ s.inhibits p o →
        ∃ t, exec (.controlInterval g) s = .next t ∧ waits t .blocked ∧ (t.ctl g).block = some (s.timing (·.block))) ∧
      (o.outcome = some .pause → ¬ s.inhibits p o → s.bindingOk o = false →
        ∃ t, exec (.controlInterval g) s = .next t ∧ waits t .paused ∧ (t.ctl g).hold = some (s.timing (·.hold))) ∧
      (o.outcome = some .pause → ¬ s.inhibits p o → s.bindingOk o = true → p.isMovement = true →
        ∃ (t : State) (y : Order), exec (.controlInterval g) s = .next t ∧ t.order? o.number = some y ∧ y.group = g ∧
          y.index = o.index ∧ y.phases = o.phases ∧ y.outcome = none ∧ s.gateTwo t p y ∧ t.faults = s.faults ∧
          t.trackers = s.trackers) ∧
      (o.outcome = some .block ∨ o.outcome = some .pause → s.inhibits p o → s.oneActiveEach → s.oldestQueued? g = none →
        ∃ t, exec (.controlInterval g) s = .next t ∧ s.endsAs t o .failed (some .inhibited) ∧ t.active? g = none ∧
          t.run? g = none ∧ claimed o.number t.flow.granted = false ∧ t.faults = s.faults))) ∧
  (∀ (g : Group) (o : Order) (p : Phase) (c : MoveClass) (r : ProfileRec) (x : Run) (e : Nat) (n : InterlockRec) (s : State),
    s.supply.mode = .run → s.active? g = some o → o.state = .moving → o.phase? = some p → p.cls = some c →
    s.run? g = some x → s.profile? c.profile = some r →
    (p.sync = true → x.skewState = .normal ∧ s.skew.natAbs ≤ min r.skewWarn r.skewStop) →
    s.askInterlock o = some e → (s.fitment.interlocks.toList[e - 1]?).join = some n → s.isObstructed g = false →
    r.stop < x.fCmd →
    ∃ (t : State) (y : Run), exec (.controlInterval g) s = .next t ∧
      t.records =
        (s.seq.orders.map fun z =>
          if z.number = o.number then
            { z with
              state := .stopping, blocking := e
              outcome := some (if n.loss = .stopWait then .block else .finish)
              pendResult := if n.loss = .stopWait then none else some .failed
              pendReason := if n.loss = .stopWait then none else some .interlockLost }
          else z).map Order.unmarked ∧
      t.run? g = some y ∧ y.fCmd = x.fCmd - r.stop ∧ y.order = x.order ∧ y.share = x.share ∧ t.faults = s.faults ∧
      t.flow = s.flow ∧ t.trackers = s.trackers ∧ t.operator = s.operator) ∧
  (∀ (g : Group) (o : Order) (p : Phase) (c : MoveClass) (r : ProfileRec) (x : Run) (s : State), s.supply.mode = .run →
    s.active? g = some o → o.state = .moving → o.phase? = some p → p.cls = some c → s.run? g = some x →
    s.profile? c.profile = some r → (p.sync = true → x.skewState = .normal ∧ s.skew.natAbs ≤ min r.skewWarn r.skewStop) →
    s.askInterlock o = none → s.isObstructed g = false →
    (p.ending = .target ∧
        ((∀ a ∈ c.axes, ∃ q, s.axisRec? a = some q ∧ (p.target - s.reference c).natAbs ≤ q.arrival) ∨
          (if c.increasing then p.target < s.reference c else s.reference c < p.target)) ∨
      p.ending = .switch ∧ ∀ a ∈ c.axes, (s.tracker a).home = true) →
    (r.stop < x.fCmd →
      ∃ (t : State) (y : Run), exec (.controlInterval g) s = .next t ∧ s.stopsAs t o .arrived none none ∧
        t.run? g = some y ∧ y.fCmd = x.fCmd - r.stop ∧ y.fBase = x.fBase ∧ y.order = x.order ∧ y.index = x.index ∧
        y.share = x.share ∧ y.demands.map (·.1) = c.driven ∧
        (c.profile ≠ .lift → y.demands = c.driven.map fun ch => (ch, x.fCmd - r.stop)) ∧
        t.drive = (sendDemands y.demands s).drive ∧ t.faults = s.faults ∧ t.flow = s.flow ∧ t.trackers = s.trackers ∧
        t.operator = s.operator) ∧
    (x.fCmd ≤ r.stop → s.flow.waiting = [] → x.skewState ≠ .warned →
      ∃ t, exec (.controlInterval g) s = .next t ∧
        t.records =
          (s.seq.orders.map fun z =>
            if z.number = o.number then
              { z with state := .settling, outcome := some .arrived, pendResult := none, pendReason := none }
            else z).map Order.unmarked ∧
        (t.ctl g).settle = some r.settle ∧ t.run? g = none ∧ claimed o.number t.flow.granted = false ∧
        t.faults = s.faults ∧ t.trackers = s.trackers ∧ t.operator = s.operator)) ∧
  (∀ (g : Group) (o : Order) (s : State), s.supply.mode = .run → s.active? g = some o →
    let passed : State := s.modCtl g fun x => { x with interval := 10 }
    let becomes (t : State) (f : Order → Order) : Prop :=
      t.records = (s.seq.orders.map fun z => if z.number = o.number then f z else z).map Order.unmarked ∧
        t.faults = s.faults ∧ t.drive = s.drive ∧ t.runs = s.runs ∧ t.trackers = s.trackers ∧ t.operator = s.operator
    (o.state = .blocked →
      (∀ e, s.askInterlock o = some e →
        ∃ t, exec (.controlInterval g) s = .next t ∧
          t.quiet = (passed.modOrder o.number fun z => { z with blocking := e }).quiet) ∧
      (s.askInterlock o = none → s.isObstructed g = true →
        ∃ t, exec (.controlInterval g) s = .next t ∧ t.quiet = passed.quiet) ∧
      (∀ p, s.askInterlock o = none → s.isObstructed g = false → o.phase? = some p →
        (s.bindingOk o = false →
          ∃ t, exec (.controlInterval g) s = .next t ∧ becomes t (fun z => { z with state := .holdWait }) ∧
            t.ctl g = { s.ctl g with block := none, hold := some (s.timing (·.hold)), interval := 10 } ∧ t.flow = s.flow) ∧
        (s.bindingOk o = true → p.kind ≠ .check → (s.seq.orders.map (·.number)).Nodup →
          claimed o.number s.flow.waiting = false → claimed o.number s.flow.granted = false →
          ∃ (t : State) (y : Order), exec (.controlInterval g) s = .next t ∧ t.order? o.number = some y ∧ y.group = g ∧
            y.kind = o.kind ∧ y.binding = o.binding ∧ y.index = o.index ∧ y.phases = o.phases ∧
            y.startedEdge = o.startedEdge ∧ y.movingTime = o.movingTime ∧ s.passesGates t p y ∧ (t.ctl g).block = none ∧
            t.faults = s.faults ∧ t.trackers = s.trackers ∧ t.operator = s.operator))) ∧
    (o.state = .holdWait ∨ o.state = .claiming →
      (∀ e, s.askInterlock o = some e ∨ s.askInterlock o = none ∧ s.isObstructed g = true ∧ e = 0 →
        (∀ q ∈ s.flow.waiting, q.order = o.number) →
        ∃ t, exec (.controlInterval g) s = .next t ∧ becomes t (fun z => { z with state := .blocked, blocking := e }) ∧
          t.ctl g = { s.ctl g with block := some (s.timing (·.block)), hold := none, interval := 10 } ∧
          t.flow.waiting = [] ∧ t.flow.granted = s.flow.granted.filter (fun q => q.order != o.number)) ∧
      (s.askInterlock o = none → s.isObstructed g = false →
        ∃ t, exec (.controlInterval g) s = .next t ∧ t.quiet = passed.quiet)))

/-- R28, R99, R102, R103: the two ends of a phase that the Motion Law finds. A synchronised phase whose skew is beyond the skew
stop ends at once: the order settles pending FAILED SKEW, every channel of the LIFT group is released, no run is left, and SKEW
stands LATCHED in the Fault Table and sets the LIFT inhibit. A MOVING phase whose commanded demand, after the ramp, is at or above
f_min while every stalling axis is slower than the stall speed, and whose accumulation so reaches the stall time, ends in the same
way, pending FAILED STALL, and STALL stands LATCHED for each stalling axis; those are the supervised axes less, in LIFT_DOWN, a
cylinder on its home switch. STALL sets no inhibit. -/
def Obligations.SkewStopEndsThePhase : Prop :=
  (∀ (o : Order) (p : Phase) (c : MoveClass) (r : ProfileRec) (x : Run) (s : State), s.supply.mode = .run →
    s.active? .lift = some o → o.state = .moving ∨ o.state = .stopping → o.phase? = some p → p.cls = some c →
    s.run? .lift = some x → s.profile? c.profile = some r → p.sync = true → r.skewStop < s.skew.natAbs →
    s.faults.sound → s.faults.entries.length < 16 → s.flow.waiting = [] →
    ∃ t, exec (.controlInterval .lift) s = .next t ∧ s.settlesFailed t o .skew ∧ t.run? .lift = none ∧
      (∀ ch : Channel, ch.val ≤ 5 → t.chan ch = Chan.reset) ∧ (∀ ch : Channel, 5 < ch.val → t.chan ch = s.chan ch) ∧
      (∃ e ∈ t.faults.entries, e.code = .skew ∧ e.subject = .group .lift ∧ e.active = false) ∧
      t.faults.flags.lift = true ∧ claimed o.number t.flow.granted = false ∧ t.trackers = s.trackers) ∧
  (∀ (g : Group) (o : Order) (p : Phase) (c : MoveClass) (r : ProfileRec) (x : Run) (s : State), s.supply.mode = .run →
    s.active? g = some o → o.state = .moving → o.phase? = some p → p.cls = some c → s.run? g = some x →
    s.profile? c.profile = some r → (p.sync = true → x.skewState = .normal ∧ s.skew.natAbs ≤ min r.skewWarn r.skewStop) →
    s.askInterlock o = none → s.isObstructed g = false → s.arrived o p c = false →
    let cap := (match o.speed with | .creep => r.creep | .normal => r.normal | .fast => r.fast) * x.share / 1000
    let base :=
      if o.kind = .home then cap else max r.fMin (min cap ((p.target - s.reference c).natAbs * r.kApp / 1000))
    let cmd := if x.fCmd < base then min base (x.fCmd + r.ramp) else max base (x.fCmd - r.ramp)
    let stalling := c.axes.filter fun a => !(decide (c = .liftDown) && (s.tracker a).home)
    r.fMin ≤ cmd → stalling ≠ [] → (∀ a ∈ stalling, (s.tracker a).speed.natAbs < r.stallSpeed) →
    r.stallTime ≤ x.stall + 10 → s.flow.waiting = [] → s.faults.sound → s.faults.entries.length + 2 ≤ 16 →
    ∃ t, exec (.controlInterval g) s = .next t ∧ s.settlesFailed t o .stall ∧ (t.ctl g).settle = some r.settle ∧
      t.run? g = none ∧ (∀ h, h ≠ g → t.run? h = s.run? h) ∧ (∀ ch, channelGroup ch = g → t.chan ch = Chan.reset) ∧
      (∀ ch, channelGroup ch ≠ g → t.chan ch = s.chan ch) ∧
      (∀ a ∈ stalling, ∃ e ∈ t.faults.entries, e.code = .stall ∧ e.subject = .axis a ∧ e.active = false) ∧
      t.faults.flags = s.faults.flags ∧ claimed o.number t.flow.granted = false ∧ t.trackers = s.trackers ∧
      t.operator = s.operator)

/-- R17, R18, R21, R25, R32: the block window ends a BLOCKED order FAILED INTERLOCK and the hold window one in HOLD_WAIT or PAUSED
FAILED HOLD_TIMEOUT, the group then idle where no record waits; the time limit sends a moving phase to STOPPING toward FAILED
TIMEOUT. -/
def Obligations.OrderTimersEndOrStopTheOrder : Prop :=
  ∀ (g : Group) (o : Order) (s : State), s.supply.mode = .run → (s.seq.orders.map (·.number)).Nodup → s.oneActiveEach →
    s.active? g = some o →
    let ended (t : State) (why : Reason) : Prop :=
      s.endsAs t o .failed (some why) ∧ t.ctl g = { GroupCtl.reset with interval := (s.ctl g).interval } ∧
        t.active? g = none ∧ (∀ a ∈ g.axes, (s.tracker a).referenced = true → (t.tracker a).parked = some (s.tracker a).pos) ∧
        t.faults = s.faults ∧ t.flow = s.flow ∧ t.drive = s.drive ∧ t.fitment = s.fitment
    (o.state = .blocked → (s.ctl g).block ≠ none → s.oldestQueued? g = none → s.run? g = none →
      ∃ t, exec (.blockWindowExpiry g) s = .next t ∧ ended t .interlock) ∧
    (o.state = .holdWait ∨ o.state = .paused → (s.ctl g).hold ≠ none → s.oldestQueued? g = none → s.run? g = none →
      ∃ t, exec (.holdWindowExpiry g) s = .next t ∧ ended t .holdTimeout) ∧
    (o.state = .moving → o.inMovement = true →
      ∃ t, exec (.timeLimitReached g) s = .next t ∧ s.stopsAs t o .finish (some .failed) (some .timeout) ∧
        t.runs = s.runs ∧ t.drive = s.drive ∧ t.flow = s.flow ∧ t.faults = s.faults ∧ t.trackers = s.trackers ∧
        t.seq.ctl = s.seq.ctl)

/-- R27: when the settle timer expires, a settled order with outcome END ends with its pending result and reason, and one with
outcome ARRIVED on its last phase ends COMPLETED. With a further phase its phase index advances and that phase starts (R15 to R20, R30,
R31): an inhibit that applies ends the order FAILED INHIBITED, a CHECK phase completes it or waits for the latch sense, and any
other phase is left BLOCKED, in HOLD_WAIT, CLAIMING or MOVING by the first gate that holds it. R32, R167: a HOME that ends COMPLETED
removes the SKEW entry of LIFT and the REFERENCE_MISMATCH entries of LK and LR. R14, R15, R32: where records of the group wait as
QUEUED and no proving test runs, the oldest one reaches its first phase start in the same event, its GROUP_IDLE terms then finding
no other order of its group. -/
def Obligations.SettledOrderGoesOn : Prop :=
  (∀ (g : Group) (o : Order) (s : State), s.supply.mode = .run → (s.seq.orders.map (·.number)).Nodup → s.oneActiveEach →
    s.active? g = some o → o.state = .settling → (s.ctl g).settle ≠ none → s.oldestQueued? g = none → s.run? g = none →
    (∀ res, o.outcome = some .finish → o.pendResult = some res → res ≠ .completed →
      ∃ t, exec (.settleTimerExpiry g) s = .next t ∧ s.endsAs t o res o.pendReason ∧ (t.ctl g).settle = none ∧
        t.active? g = none ∧ t.faults = s.faults ∧ t.drive = s.drive ∧ t.flow = s.flow) ∧
    (o.outcome = some .arrived → o.index + 1 = o.phases.length → s.faults.sound → o.kind ≠ .home → o.kind ≠ .closeShutter →
      ∃ t, exec (.settleTimerExpiry g) s = .next t ∧ s.endsAs t o .completed none ∧ (t.ctl g).settle = none ∧
        t.active? g = none ∧ t.faults = s.faults ∧ t.drive = s.drive) ∧
    (o.outcome = some .arrived → o.index + 1 = o.phases.length → s.faults.sound → o.kind = .home →
      ∃ t, exec (.settleTimerExpiry g) s = .next t ∧ s.endsAs t o .completed none ∧ (t.ctl g).settle = none ∧
        t.active? g = none ∧
        t.faults.entries = (s.faults.entries.filter fun e =>
          decide (¬ (e.code = .skew ∧ e.subject = .group .lift) ∧ ¬ (e.code = .referenceMismatch ∧ e.subject = .axis .lk) ∧
            ¬ (e.code = .referenceMismatch ∧ e.subject = .axis .lr))) ∧
        t.faults.sound ∧ t.faults.overflowInhibits = s.faults.overflowInhibits ∧ t.flow = s.flow ∧ t.drive = s.drive) ∧
    (o.outcome = some .arrived → o.index + 1 < o.phases.length →
      ∃ (t : State) (y : Order), exec (.settleTimerExpiry g) s = .next t ∧ t.order? o.number = some y ∧
        y.index = o.index + 1) ∧
    (∀ p, o.outcome = some .arrived → o.phases[o.index + 1]? = some p → o.kind ≠ .tiltTo →
      claimed o.number s.flow.waiting = false → claimed o.number s.flow.granted = false →
      ∃ (t : State) (y : Order), exec (.settleTimerExpiry g) s = .next t ∧ t.order? o.number = some y ∧
        y.index = o.index + 1 ∧ y.group = g ∧ y.kind = o.kind ∧ y.binding = o.binding ∧ y.phases = o.phases ∧
        y.startedEdge = o.startedEdge ∧ y.movingTime = o.movingTime ∧ y.outcome = none ∧ s.startsPhase t p y)) ∧
  (∀ (g : Group) (o q : Order) (res : OrderResult) (s : State), s.supply.mode = .run → (s.seq.orders.map (·.number)).Nodup →
    s.oneActiveEach → s.active? g = some o → o.state = .settling → (s.ctl g).settle ≠ none → s.run? g = none →
    o.outcome = some .finish → o.pendResult = some res → res ≠ .completed → s.drive.prove.overall ≠ .running →
    s.oldestQueued? g = some q → q.phase? ≠ none → claimed q.number s.flow.waiting = false →
    claimed q.number s.flow.granted = false →
    ∃ (t : State) (y : Order) (p : Phase) (z : Order), exec (.settleTimerExpiry g) s = .next t ∧
      t.order? o.number = some z ∧ z.state = .ended ∧ z.result = some res ∧ z.reason = o.pendReason ∧
      z.endedAt = some s.supply.time ∧ t.order? q.number = some y ∧ y.group = g ∧ y.kind = q.kind ∧ y.binding = q.binding ∧
      y.index = q.index ∧ (q.kind ≠ .tiltTo → y.phases = q.phases) ∧ y.phase? = some p ∧
      (s.modOrder o.number fun x => { x with state := .ended }).startsPhase t p y)

/-- R31: when the latch check timer expires the order ends FAILED LATCH, and LATCH_FAULT of its group stands LATCHED and sets
the group's inhibit. -/
def Obligations.LatchCheckFailureIsRecorded : Prop :=
  ∀ (g : Group) (o : Order) (s : State), s.supply.mode = .run → (s.seq.orders.map (·.number)).Nodup → s.oneActiveEach →
    s.active? g = some o → o.state = .moving → o.phaseIs .check = true → (s.ctl g).latchCheck ≠ none →
    s.oldestQueued? g = none → s.run? g = none → s.faults.sound → s.faults.entries.length < 16 →
    ∃ t, exec (.latchCheckTimerExpiry g) s = .next t ∧ s.endsAs t o .failed (some .latch) ∧
      (∃ e ∈ t.faults.entries, e.code = .latchFault ∧ e.subject = .group g ∧ e.active = false) ∧
      t.faults.flags.group g = true ∧ (t.ctl g).latchCheck = none ∧ t.drive = s.drive ∧ t.fitment = s.fitment

/-! ### Vehicle status and the power pack -/

/-- R39, R53, R54: the status timer's expiry makes the record STALE with its fields kept, raises STATUS_STALE as an ACTIVE entry
and brings the capacity in force to C_cold. -/
def Obligations.StatusExpiryMakesTheRecordStale : Prop :=
  ∀ s : State, s.supply.mode = .run → s.vehicle.timer ≠ none → s.faults.sound → s.faults.entries.length < 16 →
    s.flow.waiting = [] →
    ∃ t, exec .statusTimerExpiry s = .next t ∧ t.vehicle = { s.vehicle with fresh := false, timer := none } ∧
      (∃ e ∈ t.faults.entries, e.code = .statusStale ∧ e.subject = .none ∧ e.active = true) ∧
      (∀ e ∈ s.faults.entries, e.code ≠ .statusStale → e ∈ t.faults.entries) ∧ t.faults.flags = s.faults.flags ∧
      (s.fitment.locked = true → ∀ r, s.fitment.flow = some r → t.flow.capacity = r.cold ∧ t.flow.cold = true) ∧
      t.flow.granted = s.flow.granted ∧ t.flow.pump = s.flow.pump ∧ t.records = s.records ∧ t.drive = s.drive ∧
      t.trackers = s.trackers

/-- R56, R58, R60, R64: a try of granting keeps the list's order, grants from its head alone, and makes no grant that lifts the
granted total T above the capacity in force K. While the PUMPED inhibit is set it does nothing. Else a head of demand d not above
K − T is granted d with share 1000; one above K, with T 0, is granted K alone with share floor(K × 1000 / d); any other is not
granted and nothing changes. A grant starts an OFF pump, joins the start of a STARTING one, and is ready at once, and reported
with its share, in RUNNING and in RUN_ON, which returns to RUNNING. -/
def Obligations.GrantsStayWithinCapacity : Prop :=
  ∀ s : State, let t := (tryGrant s).1
    (∃ made : List Claim, t.flow.granted.map (·.order) = (s.flow.granted ++ made).map (·.order) ∧
      s.flow.waiting.map (·.order) = (made ++ t.flow.waiting).map (·.order) ∧
      (made ≠ [] → grantedTotal t.flow.granted ≤ s.flow.capacity ∧ s.faults.flags.pumped = false) ∧
      (made = [] → t.flow.granted = s.flow.granted) ∧ t.flow.capacity = s.flow.capacity ∧ t.seq = s.seq) ∧
    (s.faults.flags.pumped = true → tryGrant s = (s, [])) ∧
    (∀ (c : Claim) (rest : List Claim), s.faults.flags.pumped = false → s.flow.waiting = c :: rest →
      let total := grantedTotal s.flow.granted
      let capacity := s.flow.capacity
      let grants (amount share : Nat) : Prop :=
        (∃ y, t.flow.granted[s.flow.granted.length]? = some y ∧
          y = { c with amount := some amount, share := some share,
                       ready := c.ready || decide (s.flow.pump = .running ∨ s.flow.pump = .runOn) }) ∧
          t.faults = s.faults ∧ t.vehicle = s.vehicle ∧ t.drive = s.drive ∧
          (s.flow.pump = .off →
            t.flow.pump = .starting ∧ t.flow.start = some (s.flowField (·.start)) ∧ t.flow.stuck = none ∧
              (tryGrant s).2 = []) ∧
          (s.flow.pump = .starting → t.flow.pump = .starting ∧ t.flow.start = s.flow.start ∧ (tryGrant s).2 = []) ∧
          (s.flow.pump = .running ∨ s.flow.pump = .runOn →
            t.flow.pump = .running ∧ (s.flow.pump = .runOn → t.flow.runOn = none) ∧
              (tryGrant s).2.head? = some (c.order, share))
      (c.demand + total ≤ capacity → grants c.demand 1000) ∧
      (capacity < c.demand → total = 0 →
        grants capacity (capacity * 1000 / c.demand) ∧
          (0 < capacity → (∀ x ∈ rest, 0 < x.demand) → t.flow.waiting = rest)) ∧
      (capacity < c.demand + total → ¬ (capacity < c.demand ∧ total = 0) → t.flow = s.flow ∧ (tryGrant s).2 = []))

/-- R60 to R62, R64, R65: the ends of the pump's timers. -/
def Obligations.PumpTimersMoveThePump : Prop :=
  (∀ s : State, s.supply.mode = .run → s.flow.pump = .starting → s.flow.start ≠ none → s.level .prs = true →
    s.flow.granted ≠ [] →
    ∃ t, exec .startTimerExpiry s = .next t ∧ t.flow.pump = .running ∧ t.flow.start = none ∧
      t.flow.granted = (s.flow.granted.map fun c => { c with ready := true }) ∧ t.flow.waiting = s.flow.waiting ∧
      (∀ c ∈ s.flow.granted, ∀ o, s.order? c.order = some o → o.state = .claiming → o.cls? ≠ none →
        ∃ y, t.order? c.order = some y ∧ y.state = .moving ∧ y.index = o.index) ∧ t.faults = s.faults) ∧
  (∀ s : State, s.supply.mode = .run → s.flow.pump = .starting → s.flow.start ≠ none → s.level .prs = true →
    s.flow.granted = [] → s.flowField (·.runOn) ≠ 0 →
    ∃ t, exec .startTimerExpiry s = .next t ∧
      t.quiet = { s with flow := { s.flow with pump := .runOn, start := none, runOn := some (s.flowField (·.runOn)) } }.quiet) ∧
  (∀ s : State, s.supply.mode = .run → s.flow.pump = .starting → s.flow.start ≠ none → s.level .prs = false →
    s.faults.sound → s.faults.entries.length < 16 → (s.seq.orders.map (·.number)).Nodup →
    (∀ o ∈ s.seq.orders, o.state = .ended ∨ o.state = .claiming ∧ claimed o.number s.flow.granted = true) →
    ∃ t, exec .startTimerExpiry s = .next t ∧ t.flow.pump = .off ∧ t.flow.granted = [] ∧
      (∀ o ∈ s.seq.orders, o.state = .claiming → ∃ y ∈ t.records, y.number = o.number ∧ y.state = .ended ∧
        y.result = some .failed ∧ y.reason = some .pump) ∧
      (∃ e ∈ t.faults.entries, e.code = .pumpNoStart ∧ e.subject = .none ∧ e.active = false) ∧ t.faults.flags.pumped = true) ∧
  (∀ s : State, s.supply.mode = .run → s.flow.pump = .runOn → s.flow.runOn ≠ none →
    ∃ t, exec .runOnTimerExpiry s = .next t ∧
      t.quiet =
        { s with flow :=
            { s.flow with pump := .off, start := none, runOn := none,
                          stuck := if s.level .prs then some 1000 else none } }.quiet) ∧
  (∀ s : State, s.supply.mode = .run → s.flow.pump = .off → s.flow.stuck ≠ none → s.faults.sound →
    s.faults.entries.length < 16 → s.noActive →
    ∃ t, exec .stuckTimerExpiry s = .next t ∧ t.flow = { s.flow with stuck := none } ∧
      (∃ e ∈ t.faults.entries, e.code = .pumpStuck ∧ e.subject = .none ∧ e.active = true) ∧ t.faults.flags.pumped = true ∧
      t.records = s.records ∧ t.drive = s.drive)

/-! ### Axis trackers -/

/-- R71, R72, R84: a counted pulse moves the position and the remainder by N + NUM/DEN exactly: position × DEN + remainder grows or
falls by N × DEN + NUM, the remainder stays in 0 to DEN − 1, and the net count of the window changes by one; a pulse that would
leave the range of a signed 32-bit number is not counted and the axis becomes unreferenced. -/
def Obligations.PulsesCountExactly : Prop :=
  ∀ (a : Axis) (forward : Bool) (r : AxisRec) (s : State), s.supply.mode ≠ .standby → s.axisRec? a = some r →
    r.num < r.den → (s.tracker a).rem < r.den → s.faults.sound →
    let d : Int := if forward then 1 else -1
    let scaled (t : Tracker) : Int := t.pos * r.den + t.rem
    let pos' : Int := (scaled (s.tracker a) + d * (r.n * r.den + r.num)) / r.den
    ∃ t, exec (.pulseCounted a forward) s = .next t ∧ (∀ b, b ≠ a → (t.tracker b) = s.tracker b) ∧ t.fitment = s.fitment ∧
      (-2147483648 ≤ pos' → pos' ≤ 2147483647 →
        (t.tracker a).pos = pos' ∧ (t.tracker a).rem < r.den ∧
        scaled (t.tracker a) = scaled (s.tracker a) + d * (r.n * r.den + r.num) ∧
        (t.tracker a).net = (s.tracker a).net + d ∧ (t.tracker a).referenced = (s.tracker a).referenced ∧
        (t.tracker a).speed = (s.tracker a).speed ∧ (t.tracker a).home = (s.tracker a).home) ∧
      (pos' < -2147483648 ∨ 2147483647 < pos' →
        t.quiet = { s with trackers := s.trackers.set a.idx { s.tracker a with referenced := false, parked := none } }.quiet)

/-- R79, R28: an outward pulse that carries a referenced axis beyond a soft limit, a forward one above the upper limit and a
reverse one below the lower limit while the home switch is not active, ends a movement phase of its group at once, FAILED LIMIT;
below the lower limit with the home switch active the phase runs on. R81: a pulse of either direction that carries a parked axis
further than the drift limit raises DRIFT and moves the parked position. -/
def Obligations.OutwardPulsesAndDriftAreFound : Prop :=
  (∀ (a : Axis) (r : AxisRec) (o : Order) (s : State), s.supply.mode = .run → s.axisRec? a = some r → r.num < r.den →
    (s.tracker a).rem < r.den → (s.tracker a).referenced = true → (s.tracker a).parked = none → s.active? a.group = some o →
    o.state = .moving ∨ o.state = .stopping → o.inMovement = true → s.flow.waiting = [] →
    let limited (t : State) : Prop :=
      s.settlesFailed t o .limit ∧ (∀ c, channelGroup c = a.group → t.chan c = Chan.reset) ∧
        (∀ c, channelGroup c ≠ a.group → t.chan c = s.chan c) ∧ t.run? a.group = none ∧
        claimed o.number t.flow.granted = false
    (r.softUpper < (s.tracker a).pos + r.n → -2147483648 ≤ (s.tracker a).pos + r.n → (s.tracker a).pos + r.n < 2147483647 →
      ∃ t, exec (.pulseCounted a true) s = .next t ∧ limited t) ∧
    ((s.tracker a).pos - r.n < r.softLower → -2147483648 < (s.tracker a).pos - r.n → (s.tracker a).pos - r.n ≤ 2147483647 →
      ((s.tracker a).home = false → ∃ t, exec (.pulseCounted a false) s = .next t ∧ limited t) ∧
      ((s.tracker a).home = true →
        ∃ t, exec (.pulseCounted a false) s = .next t ∧ (t.tracker a).pos < r.softLower ∧ t.records = s.records ∧
          t.runs = s.runs ∧ t.drive = s.drive ∧ t.flow = s.flow ∧ t.faults = s.faults))) ∧
  (∀ (a : Axis) (forward : Bool) (r : AxisRec) (p : Int) (s : State), s.supply.mode ≠ .standby → s.axisRec? a = some r →
    r.num < r.den → (s.tracker a).rem < r.den → (s.tracker a).parked = some p → s.noActive → s.faults.sound →
    s.faults.entries.length < 16 →
    let pos' : Int := (pulseStep r forward (s.tracker a).pos (s.tracker a).rem).1
    pos' ≤ 2147483647 → -2147483648 ≤ pos' → (r.driftLimit : Int) < |pos' - p| →
    ∃ t, exec (.pulseCounted a forward) s = .next t ∧ (t.tracker a).pos = pos' ∧ (t.tracker a).parked = some pos' ∧
      (∃ e ∈ t.faults.entries, e.code = .drift ∧ e.subject = .axis a ∧ e.active = false) ∧
      t.faults.flags = s.faults.flags ∧ t.records = s.records ∧ t.drive = s.drive)

/-- R73, R74: the end of a tracker window gives the speed, truncated toward zero, the motion sense and the window presentation of
TL, SK and SR, and starts the next window. -/
def Obligations.WindowEndPresentsTheAxis : Prop :=
  ∀ (a : Axis) (r : AxisRec) (s : State), s.supply.mode ≠ .standby → s.axisRec? a = some r →
    let n := (s.tracker a).net
    let inside : Bool :=
      match a with
      | .lk | .lr => false
      | .tl => (s.tracker a).referenced && decide ((s.tracker a).pos ≤ r.home + r.stowWindow)
      | .sk | .sr => (s.tracker a).referenced && decide ((s.tracker a).pos ≤ r.home + r.closedWindow)
    ∃ t, exec (.trackerWindowEnd a) s = .next t ∧
      t.trackers = s.trackers.set a.idx
        { s.tracker a with
          speed := Int.tdiv (n * (r.n * r.den + r.num) * 20) r.den
          sense := if n < 0 then .towardHome else if n = 0 then .stationary else .away
          inside := inside, net := 0, windowLeft := 50 } ∧
      t.beacon.active = ((s.beacon.active.set 1 (!(t.tracker .tl).inside)).set 3 (!(t.tracker .sk).inside)).set 4
        (!(t.tracker .sr).inside) ∧
      t.records = s.records ∧ t.faults = s.faults ∧ t.drive = s.drive ∧ t.flow = s.flow ∧ t.operator = s.operator

/-- R75 to R77: a raw change of a home switch restarts its debounce; its expiry takes the level; an activation whose motion sense
is not AWAY puts a present axis at its home value, referenced, and one that is AWAY only takes the level. -/
def Obligations.HomeSwitchReferencesTheAxis : Prop :=
  ∀ (a : Axis) (s : State),
    (∀ level : Bool, s.supply.mode ≠ .standby → (s.tracker a).rawHome ≠ level →
      ∃ t, exec (.homeSwitchRawChange a level) s = .next t ∧
        t.quiet =
          { s with
            trackers := s.trackers.set a.idx
              { s.tracker a with rawHome := level, homeTimer := some s.debounceTime } }.quiet) ∧
    (∀ r : AxisRec, s.supply.mode ≠ .standby → (s.tracker a).homeTimer ≠ none → (s.tracker a).rawHome = true →
      (s.tracker a).home = false → (s.tracker a).sense ≠ .away → s.axisRec? a = some r →
      ((s.tracker a).referenced = true → |(s.tracker a).pos - r.home| ≤ r.homeWindow) →
      ∃ t, exec (.homeSwitchDebounceExpiry a) s = .next t ∧
        t.quiet =
          { s with
            trackers := s.trackers.set a.idx
              { s.tracker a with
                homeTimer := none, home := true, pos := r.home, rem := 0, referenced := true,
                parked := if s.groupIdle a.group then some r.home else (s.tracker a).parked } }.quiet) ∧
    (s.supply.mode ≠ .standby → (s.tracker a).homeTimer ≠ none →
      (s.tracker a).rawHome = false ∨ (s.tracker a).home = true ∨ (s.tracker a).sense = .away →
      ∃ t, exec (.homeSwitchDebounceExpiry a) s = .next t ∧
        t.quiet =
          { s with
            trackers := s.trackers.set a.idx
              { s.tracker a with homeTimer := none, home := (s.tracker a).rawHome } }.quiet) ∧
    (∀ r : AxisRec, s.supply.mode ≠ .standby → (s.tracker a).homeTimer ≠ none → (s.tracker a).rawHome = true →
      (s.tracker a).home = false → (s.tracker a).sense ≠ .away → s.axisRec? a = some r → (s.tracker a).referenced = true →
      (r.homeWindow : Int) < |(s.tracker a).pos - r.home| → s.noActive → s.faults.sound → s.faults.entries.length < 16 →
      ∃ t, exec (.homeSwitchDebounceExpiry a) s = .next t ∧ (t.tracker a).pos = r.home ∧ (t.tracker a).referenced = true ∧
        (∃ e ∈ t.faults.entries, e.code = .referenceMismatch ∧ e.subject = .axis a ∧ e.active = false) ∧
        t.faults.flags.group a.group = true)

/-! ### Operator inputs and the emergency stop -/

/-- R31, R63, R65, R66, R133, R134, R137, R139: a raw change of a line restarts its stability timer; an expiry that finds the
debounced level already there changes nothing else, and one that takes the level hands it on. A general input works the stop
states out afresh, and one that newly obstructs a group ends the phase of the group's order in MOVING or STOPPING at once, FAILED
OBSTRUCTED, with release of the group's channels (R28). A latch sense taken active completes the CHECK phase that watches it. PSW taken active stops the phases near
their targets as ARRIVED, or else raises PRESSURE_RELIEF, which PSW taken inactive latches. PRS taken inactive stops the stuck
timer and latches PUMP_STUCK in OFF, and loses a running pump: PUMP_LOST, and its moving orders stop pending FAILED PUMP; taken
active in OFF it starts the stuck timer. The two-hand window's expiry in HALF locks the set out. -/
def Obligations.LinesAreDebounced : Prop :=
  ∀ s : State, s.supply.mode = .run →
    let due (l : Line) (level : Bool) : Prop :=
      (s.line l).timer ≠ none ∧ (s.line l).raw = level ∧ (s.line l).level = !level
    let taken (l : Line) (level : Bool) : State := s.modLine l fun x => { x with level := level, timer := none }
    let near (o : Order) : Bool :=
      decide (o.state = .moving) && (s.flow.granted.any fun q => q.order == o.number && q.ready) &&
        match o.phase? with
        | some ⟨.pumped, some c, target, _, _⟩ => decide (|target - s.reference c| ≤ 20000)
        | _ => false
    let pump (f : Flow) (q : FaultTable) (level : Bool) : State := { taken .prs level with flow := f, faults := q }
    let unstuck : FaultTable := s.faults.latch .pumpStuck .none
    (∀ (l : Line) (level : Bool), (s.line l).raw ≠ level →
      ∃ t, exec (.inputRawChange l level) s = .next t ∧
        t.quiet = (s.modLine l fun x => { x with raw := level, timer := some s.debounceTime }).quiet) ∧
    (∀ l : Line, (s.line l).timer ≠ none → (s.line l).raw = (s.line l).level →
      ∃ t, exec (.inputDebounceExpiry l) s = .next t ∧ t.quiet = (s.modLine l fun x => { x with timer := none }).quiet) ∧
    (∀ i : Fin 8, (s.line (.g i)).timer ≠ none → (s.line (.g i)).raw ≠ (s.line (.g i)).level → s.noActive →
      ∃ t, exec (.inputDebounceExpiry (.g i)) s = .next t ∧
        t.line (.g i) = { raw := (s.line (.g i)).raw, level := (s.line (.g i)).raw, timer := none } ∧
        (∀ l, l ≠ .g i → t.line l = s.line l) ∧ (∀ g, t.isObstructed g = t.stopStateNow g) ∧
        t.operator.estop = s.operator.estop ∧ t.records = s.records ∧ t.faults = s.faults ∧ t.drive = s.drive) ∧
    (∀ (i : Fin 8) (level : Bool) (g : Group) (o : Order) (r : PolicyRec) (x y : StopSlot), due (.g i) level →
      s.fitment.policy = some r → r.slots[2 * g.idx.val]? = some x → r.slots[2 * g.idx.val + 1]? = some y →
      x.input = some i ∧ x.stopsOn = level ∨ y.input = some i ∧ y.stopsOn = level → s.isObstructed g = false →
      s.active? g = some o → o.state = .moving ∨ o.state = .stopping → (∀ h, h ≠ g → s.active? h = none) →
      s.flow.waiting = [] →
      ∃ t, exec (.inputDebounceExpiry (.g i)) s = .next t ∧ s.settlesFailed t o .obstructed ∧ t.isObstructed g = true ∧
        (∀ c, channelGroup c = g → t.chan c = Chan.reset) ∧ (∀ c, channelGroup c ≠ g → t.chan c = s.chan c) ∧
        t.run? g = none ∧ claimed o.number t.flow.granted = false ∧ t.faults.flags = s.faults.flags ∧
        t.trackers = s.trackers) ∧
    (∀ d : Side,
      (due (.latchSense d) false →
        ∃ t, exec (.inputDebounceExpiry (.latchSense d)) s = .next t ∧ t.quiet = (taken (.latchSense d) false).quiet) ∧
      (due (.latchSense d) true → (∀ o, s.active? d.group = some o → o.state ≠ .moving ∨ o.phaseIs .check = false) →
        ∃ t, exec (.inputDebounceExpiry (.latchSense d)) s = .next t ∧ t.quiet = (taken (.latchSense d) true).quiet) ∧
      (∀ o, due (.latchSense d) true → s.active? d.group = some o → o.state = .moving → o.phaseIs .check = true →
        o.kind = .closeShutter → (s.seq.orders.map (·.number)).Nodup → s.oneActiveEach → s.oldestQueued? d.group = none →
        s.run? d.group = none → s.faults.sound →
        ∃ t, exec (.inputDebounceExpiry (.latchSense d)) s = .next t ∧ s.endsAs t o .completed none ∧
          t.active? d.group = none ∧ (t.ctl d.group).latchCheck = none ∧
          t.line (.latchSense d) = { raw := true, level := true, timer := none } ∧
          t.faults.entries = (s.faults.entries.filter fun e =>
            decide (¬ (e.code = .latchFault ∧ e.subject = .group d.group))) ∧
          t.drive = s.drive ∧ t.flow = s.flow)) ∧
    ((due .psw false →
        ∃ t, exec (.inputDebounceExpiry .psw) s = .next t ∧
          t.quiet = { taken .psw false with faults := s.faults.latch .pressureRelief .none }.quiet) ∧
      (due .psw true → s.seq.orders.any near = false → s.faults.sound → s.faults.entries.length < 16 →
        ∃ t, exec (.inputDebounceExpiry .psw) s = .next t ∧
          (∃ e ∈ t.faults.entries, e.code = .pressureRelief ∧ e.subject = .none ∧ e.active = true) ∧
          t.faults.flags = s.faults.flags ∧ t.records = s.records ∧ t.flow = s.flow ∧ t.drive = s.drive) ∧
      (due .psw true → s.seq.orders.any near = true → (s.seq.orders.map (·.number)).Nodup →
        ∃ t, exec (.inputDebounceExpiry .psw) s = .next t ∧
          t.records =
            (s.seq.orders.map fun o =>
              if near o then { o with state := .stopping, outcome := some .arrived, pendResult := none, pendReason := none }
              else o).map Order.unmarked ∧
          t.faults = s.faults ∧ t.flow = s.flow ∧ t.drive = s.drive)) ∧
    ((due .prs true →
        ∃ t, exec (.inputDebounceExpiry .prs) s = .next t ∧
          t.quiet =
            (pump (if s.flow.pump = .off then { s.flow with stuck := some 1000 } else s.flow) s.faults true).quiet) ∧
      (due .prs false → s.flow.pump = .off →
        ∃ t, exec (.inputDebounceExpiry .prs) s = .next t ∧ t.quiet = (pump { s.flow with stuck := none } unstuck false).quiet) ∧
      (due .prs false → s.flow.pump = .starting →
        ∃ t, exec (.inputDebounceExpiry .prs) s = .next t ∧ t.quiet = (pump s.flow unstuck false).quiet) ∧
      (due .prs false → s.flow.pump = .running ∨ s.flow.pump = .runOn → s.faults.sound → s.faults.entries.length < 16 →
        (s.seq.orders.map (·.number)).Nodup →
        (∀ o ∈ s.seq.orders, o.state.isActive = true → o.state = .moving ∧ o.phaseIs .pumped = true) →
        ∃ t, exec (.inputDebounceExpiry .prs) s = .next t ∧
          t.flow = { s.flow with pump := .off, start := none, runOn := none, stuck := none, granted := [] } ∧
          t.records =
            (s.seq.orders.map fun o =>
              if o.state = .moving then
                { o with state := .stopping, outcome := some .finish, pendResult := some .failed, pendReason := some .pump }
              else o).map Order.unmarked ∧
          (∃ e ∈ t.faults.entries, e.code = .pumpLost ∧ e.subject = .none ∧ e.active = false) ∧
          (∀ e ∈ t.faults.entries, e.code = .pumpStuck → e.subject = .none → e.active = false) ∧
          t.faults.flags.pumped = true ∧ t.drive = s.drive)) ∧
    (∀ h : Fin 2, (s.hand h).state = .half → (s.hand h).window ≠ none →
      ∃ t, exec (.twoHandWindowExpiry h) s = .next t ∧ t.quiet = (s.setHand h ⟨.lockout, none⟩).quiet)

/-- R18, R20, R24, R25, R136, R137: a hold input taken active or released moves its two-hand set by Table 7-2, and with no order
bound to it nothing else changes. An activation satisfies the binding of a LEVEL order, and of a TWO_HAND order when it brings the
set to HELD: one in HOLD_WAIT goes on past gate 3, one in PAUSED through the gates from gate 2, any other is left as it is; it is
an edge for an EDGE order, which counts it in HOLD_WAIT alone. A release is a loss to a LEVEL order, and to a TWO_HAND order whose
set was HELD: one in CLAIMING gives its claim up and returns to HOLD_WAIT, a movement phase in MOVING is stopped with outcome
PAUSE, any other order is left as it is; an EDGE order loses nothing. -/
def Obligations.HoldInputsMoveTheTwoHandSet : Prop :=
  ∀ (h : Fin 4) (s : State), s.supply.mode = .run → (s.line (.h h)).timer ≠ none →
    (s.line (.h h)).raw ≠ (s.line (.h h)).level →
    let active : Bool := (s.line (.h h)).raw
    let other : Bool := s.level (.h (partner h))
    let hand' : TwoHand :=
      match active, (s.hand (handOf h)).state with
      | true, .released => ⟨.half, some s.twoHandTime⟩
      | true, .half => ⟨.held, none⟩
      | false, .half => ⟨.released, none⟩
      | false, .held => ⟨.lockout, none⟩
      | false, .lockout => if other then s.hand (handOf h) else ⟨.released, none⟩
      | _, _ => s.hand (handOf h)
    let moved : State := (s.modLine (.h h) fun x => { x with level := active, timer := none }).setHand (handOf h) hand'
    let unmoved : Prop := ∃ t, exec (.inputDebounceExpiry (.h h)) s = .next t ∧ t.quiet = moved.quiet
    ((∀ o ∈ s.seq.orders, o.binding = .none) → unmoved) ∧
    (∀ o, s.order? o.number = some o → (s.seq.orders.map (·.number)).Nodup →
      (∀ x ∈ s.seq.orders, x.number ≠ o.number → x.binding = .none) →
      let goesOn (edge : Bool) (how : State → Phase → Order → Prop) : Prop :=
        ∀ p, o.phase? = some p → p.kind ≠ .check → claimed o.number s.flow.waiting = false →
          claimed o.number s.flow.granted = false →
          ∃ (t : State) (y : Order), exec (.inputDebounceExpiry (.h h)) s = .next t ∧ t.order? o.number = some y ∧
            y.group = o.group ∧ y.kind = o.kind ∧ y.binding = o.binding ∧ y.index = o.index ∧ y.phases = o.phases ∧
            y.startedEdge = (o.startedEdge || edge) ∧ how t p y ∧ t.operator = moved.operator
      (active = true → o.binding = .level h ∨ o.binding = .twoHand (handOf h) ∧ (s.hand (handOf h)).state = .half →
        (o.state = .holdWait → goesOn false moved.passesGates) ∧ (o.state = .paused → goesOn false moved.gateTwo) ∧
        (o.state ≠ .holdWait → o.state ≠ .paused → unmoved)) ∧
      (active = true → o.binding = .edge h →
        (o.state = .holdWait → goesOn true moved.passesGates) ∧ (o.state ≠ .holdWait → unmoved)) ∧
      (active = false → o.binding = .edge h → unmoved) ∧
      (o.binding ≠ .level h → o.binding ≠ .edge h →
        (o.binding = .twoHand (handOf h) → (s.hand (handOf h)).state ≠ if active then .half else .held) → unmoved) ∧
      (active = false → o.binding = .level h ∨ o.binding = .twoHand (handOf h) ∧ (s.hand (handOf h)).state = .held →
        (o.state = .claiming → (∀ q ∈ s.flow.waiting, q.order = o.number) →
          ∃ t, exec (.inputDebounceExpiry (.h h)) s = .next t ∧
            t.records =
              (s.seq.orders.map fun z => if z.number = o.number then { z with state := .holdWait } else z).map
                Order.unmarked ∧
            (t.ctl o.group).hold = some (s.timing (·.hold)) ∧ t.flow.waiting = [] ∧
            t.flow.granted = s.flow.granted.filter (fun q => q.order != o.number) ∧ t.operator = moved.operator ∧
            t.faults = s.faults ∧ t.drive = s.drive) ∧
        (o.state = .moving → o.inMovement = true →
          ∃ t, exec (.inputDebounceExpiry (.h h)) s = .next t ∧ s.stopsAs t o .pause none none ∧
            t.operator = moved.operator ∧ t.runs = s.runs ∧ t.flow = s.flow ∧ t.faults = s.faults ∧ t.drive = s.drive) ∧
        (o.state ≠ .claiming → ¬ (o.state = .moving ∧ o.inMovement = true) → unmoved)))

/-- R34, R67, R119, R129, R140, R141: an opening of the loop in CLEAR sends the machine to ACTIVE, releases every channel, turns the
pump OFF with no claim left, ends every order not ENDED ABORTED ESTOP, abandons a running proving test, enters ESTOP as an
ACTIVE entry and makes the STOP scene active; in HELD and RELEASABLE it only sends the machine to ACTIVE. Outside RUN the machine
does not take it (R143) and only the line's level changes; that this holds also between a power-on reset and the first taking
of ENABLE is the model's reading (assumption 16). -/
def Obligations.LoopOpeningStopsEverything : Prop :=
  (∀ s : State, s.supply.mode = .run → s.operator.estop = .clear → s.faults.sound → s.faults.entries.length < 16 →
    (s.seq.orders.map (·.number)).Nodup →
    ∃ t, exec .loopOpening s = .next t ∧ t.operator.estop = .active ∧ t.operator.loopLine = true ∧ t.operator.loopOpen = true ∧
      t.operator.release = none ∧ (∀ c, t.chan c = Chan.reset) ∧ (∀ p, (t.pair p).waiting = none ∧ (t.pair p).resumable = none) ∧
      t.flow.pump = .off ∧ t.flow.waiting = [] ∧ t.flow.granted = [] ∧
      t.records =
        (s.seq.orders.map fun o =>
          if o.state ≠ .ended then
            { o with state := .ended, endedAt := some s.supply.time, result := some .aborted, reason := some .estop,
                     residual := if o.group = .lift then some s.skew else none, outcome := none, pendResult := none,
                     pendReason := none, endRank := s.seq.endRank }
          else o).map Order.unmarked ∧
      t.drive.prove.overall = (if s.drive.prove.overall = .running then .abandoned else s.drive.prove.overall) ∧
      t.drive.prove.results = s.drive.prove.results ∧
      (∃ e ∈ t.faults.entries, e.code = .estop ∧ e.subject = .none ∧ e.active = true) ∧ t.faults.flags = s.faults.flags ∧
      t.beacon.active[7] = true ∧ t.fitment = s.fitment) ∧
  (∀ s : State, s.supply.mode = .run → s.operator.estop = .held ∨ s.operator.estop = .releasable →
    ∃ t, exec .loopOpening s = .next t ∧
      t.quiet =
        { s with operator :=
            { s.operator with loopLine := true, loopOpen := true, estop := .active, release := none } }.quiet) ∧
  (∀ s : State, s.supply.mode ≠ .run →
    ∃ t, exec .loopOpening s = .next t ∧ t.quiet = { s with operator := { s.operator with loopLine := true } }.quiet)

/-- R140, R142: a closing in ACTIVE sends the machine to HELD for the release time, whose expiry makes it RELEASABLE; STOP_RESET
returns a RELEASABLE machine to CLEAR and removes the ESTOP entry, is refused STOPPED in ACTIVE and HELD, and changes nothing in
CLEAR. -/
def Obligations.StopIsLeftByReleaseAndReset : Prop :=
  (∀ s : State, s.supply.mode = .run → s.operator.estop = .active →
    ∃ t, exec .loopClosing s = .next t ∧
      t.quiet =
        { s with operator :=
            { s.operator with loopLine := false, loopOpen := false, estop := .held,
                              release := some ((s.fitment.timing.map TimingRec.release).getD 2000) } }.quiet) ∧
  (∀ s : State, s.supply.mode = .run → s.operator.estop = .held → s.operator.release ≠ none →
    ∃ t, exec .releaseTimerExpiry s = .next t ∧
      t.quiet = { s with operator := { s.operator with estop := .releasable, release := none } }.quiet) ∧
  (∀ (tag : Byte) (s : State), s.answers →
    (s.operator.estop = .clear →
      ∃ t, exec (.stopReset tag) s = .next t ∧ t.quiet = (s.doneReply 0x26 tag [0]).quiet) ∧
    (s.operator.estop = .active ∨ s.operator.estop = .held →
      ∃ t, exec (.stopReset tag) s = .next t ∧ t.quiet = (s.refusedReply 0x26 tag 13 0 0 0).quiet) ∧
    (s.operator.estop = .releasable → s.faults.sound →
      ∃ t, exec (.stopReset tag) s = .next t ∧ t.operator = { s.operator with estop := .clear, release := none } ∧
        t.faults.entries = (s.faults.entries.filter fun e => decide (¬ (e.code = .estop ∧ e.subject = .none))) ∧
        t.faults.flags = s.faults.flags ∧ t.link.outgoing = (s.doneReply 0x26 tag [0]).link.outgoing ∧
        t.beacon.active[7] = false ∧ t.records = s.records ∧ t.drive = s.drive ∧ t.flow = s.flow ∧ t.trackers = s.trackers))

/-! ### Drive -/

/-- R110, R111: the valve map: a demand of 0 gives opening 0, any other lo plus the rounded part of the span, which lies between lo
and hi; the on time of a period is the rounded part of the period that the opening names, the whole period for 1000. -/
def Obligations.ValveMapOpensBetweenItsEnds : Prop :=
  ∀ (r : ChannelRec) (f o : Nat), r.lo < r.hi → r.hi ≤ 1000 → f ≤ 1000 → o ≤ 1000 →
    opening r 0 = 0 ∧ (f ≠ 0 → opening r f = r.lo + (f * (r.hi - r.lo) + 500) / 1000) ∧
    (f ≠ 0 → r.lo ≤ opening r f ∧ opening r f ≤ r.hi) ∧ (opening r f = 0 → f = 0 ∨ r.lo = 0) ∧ opening r 1000 = r.hi ∧
    onTime r o = (o * r.period + 500) / 1000 ∧ onTime r 1000 = r.period ∧ onTime r o ≤ r.period ∧
    (∀ f', f ≤ f' → f' ≤ 1000 → opening r f ≤ opening r f')

/-- R110, R112 to R115, R119: what the Drive Unit does with a demand command of the Motion Law, by the state of the channel, of
its pair's other member and of the dead-time timer; the channel and its pair alone change, and nothing while the stop machine is
not CLEAR or outside RUN. That a command which the resumable member takes at once discards a waiting command of that same member
is the model's choice (assumption 41). R113, R114, R116, R117: a period boundary applies a buffered opening or repeats the period, and brings an ENDING channel to
IDLE, which starts its pair's dead-time with the channel resumable; the dead-time's expiry starts a waiting command whose other
member is IDLE. -/
def Obligations.PeriodsAndDeadTimes : Prop :=
  (∀ (p : PairNo) (m : Member) (r : ChannelRec) (f : Nat) (s : State), s.chanRec? (memberChannel p m) = some r →
    let c := memberChannel p m
    let o := if f = 0 then 0 else r.lo + (f * (r.hi - r.lo) + 500) / 1000
    let x := s.chan c
    let y := s.pair p
    let started : Chan := { x with state := .running, opening := o, onTime := (o * r.period + 500) / 1000, buffer := none }
    let without (n : Member) : Pair := if y.waiting.map (·.1) = some n then { y with waiting := none } else y
    let held : Pair := { y with waiting := some (m, o) }
    let after : Chan × Pair :=
      match x.state with
      | .idle =>
        if o = 0 then (x, without m)
        else if (s.chan (memberChannel p (otherMember m))).state ≠ .idle then (x, held)
        else if y.dead = none then (started, without m)
        else if y.resumable = some m ∧ y.waiting.map (·.1) ≠ some (otherMember m) then (started, ⟨none, none, none⟩)
        else (x, held)
      | .running =>
        if o = 0 then ({ x with state := .ending, buffer := some 0 }, y)
        else ({ x with buffer := some o }, without (otherMember m))
      | .ending =>
        if o = 0 then (x, y) else ({ x with state := .running, buffer := some o }, without (otherMember m))
    (s.supply.mode = .run → s.operator.estop = .clear →
      demandCommand c f s = (s.modChan c fun _ => after.1).modPair p fun _ => after.2) ∧
    (s.supply.mode ≠ .run ∨ s.operator.estop ≠ .clear → demandCommand c f s = s)) ∧
  (∀ (c : Channel) (f : Nat) (ds : List (Channel × Nat)) (s : State),
    sendDemands ((c, f) :: ds) s = sendDemands ds (demandCommand c f s) ∧ sendDemands [] s = s) ∧
  (∀ (c : PropChannel) (ch : Channel) (r : ChannelRec) (s : State), s.supply.mode = .run → ch.val = c.val →
    s.chanRec? ch = some r → (s.chan ch).state = .running →
    ∃ t, exec (.periodBoundary c) s = .next t ∧
      t.quiet =
        (s.modChan ch fun x =>
          { x with opening := x.buffer.getD x.opening, onTime := (x.buffer.getD x.opening * r.period + 500) / 1000,
                   buffer := none }).quiet) ∧
  (∀ (c : PropChannel) (ch : Channel) (p : PairNo) (r : ChannelRec) (s : State), s.supply.mode = .run → ch.val = c.val →
    p.val = c.val / 2 → s.chanRec? (memberChannel p .even) = some r → (s.chan ch).state = .ending →
    ∃ t, exec (.periodBoundary c) s = .next t ∧ t.chan ch = Chan.reset ∧ (∀ c', c' ≠ ch → t.chan c' = s.chan c') ∧
      t.pair p = { s.pair p with dead := some r.dead, resumable := some (if c.val % 2 = 0 then .even else .odd) } ∧
      (∀ q, q ≠ p → t.pair q = s.pair q) ∧ t.faults = s.faults.latch .coilOpen (.channel ch) ∧ t.records = s.records) ∧
  (∀ (p : PairNo) (m : Member) (o : Nat) (r : ChannelRec) (s : State), s.supply.mode ≠ .standby → (s.pair p).dead ≠ none →
    (s.pair p).waiting = some (m, o) → (s.chan (memberChannel p m)).state = .idle →
    (s.chan (memberChannel p (otherMember m))).state = .idle → s.chanRec? (memberChannel p m) = some r →
    ∃ t, exec (.deadTimeExpiry p) s = .next t ∧
      t.quiet =
        ((s.modPair p fun _ => { dead := none, resumable := none, waiting := none }).modChan (memberChannel p m) fun x =>
          { x with state := .running, opening := o, onTime := (o * r.period + 500) / 1000, buffer := none }).quiet) ∧
  (∀ (p : PairNo) (s : State), s.supply.mode ≠ .standby → (s.pair p).dead ≠ none → (s.pair p).waiting = none →
    ∃ t, exec (.deadTimeExpiry p) s = .next t ∧
      t.quiet = (s.modPair p fun x => { x with dead := none, resumable := none }).quiet)

/-- R30, R120: the pulse timer's expiry turns the latch output off, and advances the PULSE phase of the order that asked for the
pulse. -/
def Obligations.PulseEndAdvancesTheOrder : Prop :=
  (∀ (d : Side) (n w : Nat) (s : State), s.supply.mode = .run → (s.chan d.latch).state = .running →
    (s.chan d.latch).pulse = some w → (s.chan d.latch).requester = some n → s.order? n = none →
    ∃ t, exec (.pulseTimerExpiry d) s = .next t ∧
      t.quiet = { s.modChan d.latch fun _ => Chan.reset with faults := s.faults.latch .coilOpen (.channel d.latch) }.quiet) ∧
  (∀ (d : Side) (n w : Nat) (o : Order) (q : Phase) (s : State), s.supply.mode = .run → (s.chan d.latch).state = .running →
    (s.chan d.latch).pulse = some w → (s.chan d.latch).requester = some n → s.order? n = some o → o.group = d.group →
    o.kind = .openShutter → o.state = .moving → o.phaseIs .pulse = true → o.phases[o.index + 1]? = some q →
    q.kind = .pumped → s.oldestQueued? d.group = none → (s.seq.orders.map (·.number)).Nodup →
    ∃ (t : State) (y : Order), exec (.pulseTimerExpiry d) s = .next t ∧ t.chan d.latch = Chan.reset ∧
      t.order? n = some y ∧ y.index = o.index + 1 ∧ y.state ≠ .stopping ∧ y.state ≠ .settling ∧
      (∀ c, c ≠ d.latch → t.chan c = s.chan c))

/-- R111, R122 to R125: the measurement of a driven proportional channel completes with the low-current count cleared by a current
at or above the open threshold and raised by one below it, and the third low one raises COIL_OPEN, ACTIVE while the channel is
still driven, and sets the group's inhibit. The check of a latch pulse finds a current at or above the threshold in order; one below
it raises COIL_OPEN. A current above the short threshold on a channel whose output is on releases the channel and leaves COIL_SHORT
LATCHED; a channel whose output is off is not watched. Where the phase of a MOVING or STOPPING order drives the channel, the finding
ends that phase at once, FAILED COIL, with every channel of the group released, so that COIL_OPEN goes LATCHED in the same event. That
a measurement of an IDLE channel and a check without a running pulse change nothing is the model's choice (assumption 22). -/
def Obligations.CoilFaultsAreFound : Prop :=
  ∀ s : State, s.supply.mode = .run →
    let found (t : State) (c : Channel) (code : FaultCode) (active : Bool) : Prop :=
      (∃ e ∈ t.faults.entries, e.code = code ∧ e.subject = .channel c ∧ e.active = active) ∧
        t.faults.flags.group (channelGroup c) = true
    let phaseEnded (t : State) (o : Order) (g : Group) : Prop :=
      s.settlesFailed t o .coil ∧ (∀ c, channelGroup c = g → t.chan c = Chan.reset) ∧
        (∀ c, channelGroup c ≠ g → t.chan c = s.chan c) ∧ t.run? g = none ∧ claimed o.number t.flow.granted = false ∧
        t.trackers = s.trackers ∧ t.operator = s.operator
    let drives (o : Order) (c : Channel) : Prop :=
      s.active? (channelGroup c) = some o ∧ (o.state = .moving ∨ o.state = .stopping) ∧ c ∈ o.drives ∧ s.flow.waiting = []
    let room : Prop := s.faults.sound ∧ s.faults.entries.length < 16
    (∀ (c : PropChannel) (ch : Channel) (r : ChannelRec) (current : Nat), ch.val = c.val → s.chanRec? ch = some r →
      (s.chan ch).state ≠ .idle → 100 ≤ (s.chan ch).onTime →
      (r.openThr ≤ current →
        ∃ t, exec (.coilMeasurement c current) s = .next t ∧ t.quiet = (s.modChan ch fun x => { x with low := 0 }).quiet) ∧
      (current < r.openThr → (s.chan ch).low + 1 < 3 →
        ∃ t, exec (.coilMeasurement c current) s = .next t ∧
          t.quiet = (s.modChan ch fun x => { x with low := x.low + 1 }).quiet) ∧
      (current < r.openThr → 2 ≤ (s.chan ch).low → room → s.noActive →
        ∃ t, exec (.coilMeasurement c current) s = .next t ∧ found t ch .coilOpen true ∧
          t.drive = (s.modChan ch fun x => { x with low := 0 }).drive ∧ t.records = s.records) ∧
      (∀ o, current < r.openThr → 2 ≤ (s.chan ch).low → room → drives o ch →
        ∃ t, exec (.coilMeasurement c current) s = .next t ∧ found t ch .coilOpen false ∧
          phaseEnded t o (channelGroup ch))) ∧
    (∀ (c : PropChannel) (ch : Channel) (current : Nat), ch.val = c.val →
      (s.chan ch).state = .idle ∨ (s.chan ch).onTime < 100 →
      ∃ t, exec (.coilMeasurement c current) s = .next t ∧ t.quiet = s.quiet) ∧
    (∀ (d : Side) (current : Nat), (s.chan d.latch).state ≠ .running →
      ∃ t, exec (.latchCoilCheck d current) s = .next t ∧ t.quiet = s.quiet) ∧
    (∀ (d : Side) (r : ChannelRec) (current : Nat), (s.chan d.latch).state = .running → s.chanRec? d.latch = some r →
      (r.openThr ≤ current → ∃ t, exec (.latchCoilCheck d current) s = .next t ∧ t.quiet = s.quiet) ∧
      (∀ o, current < r.openThr → room → s.active? d.group = some o → o.state = .moving → o.phaseIs .pulse = true →
        s.flow.waiting = [] →
        ∃ t, exec (.latchCoilCheck d current) s = .next t ∧ found t d.latch .coilOpen false ∧ phaseEnded t o d.group)) ∧
    (∀ c : Channel, s.drive.prove.driving ≠ some c → (s.chan c).state ≠ .idle → 10 ≤ c.val ∨ 0 < (s.chan c).onTime →
      (room → s.noActive →
        ∃ t, exec (.coilShortDetected c) s = .next t ∧ found t c .coilShort false ∧ t.chan c = Chan.reset ∧
          (∀ c', c' ≠ c → t.chan c' = s.chan c') ∧ t.records = s.records) ∧
      (∀ o, room → drives o c →
        ∃ t, exec (.coilShortDetected c) s = .next t ∧ found t c .coilShort false ∧ phaseEnded t o (channelGroup c))) ∧
    (∀ c : Channel, s.outputOn c = false → ∃ t, exec (.coilShortDetected c) s = .next t ∧ t.quiet = s.quiet)

/-- R127: a proving drive starts on the next fitted channel once 20 ms have passed since the previous drive and its pair's dead-time
has run, and waits until then; it ends with result OPEN below the open threshold and PASS otherwise, or SHORT when a short is
found, and is followed by a wait of 20 ms; no entry is made for it. R14, R128: the end of the drive of the last visited channel
ends the test: the failure count is the number of channels found OPEN or SHORT; PASSED, with any PROVING_FAILED entry removed, if
every fitted channel has result PASS, and else FAILED, with PROVING_FAILED made ACTIVE; the oldest QUEUED record of each group
then reaches its first phase start, stated in full for a record that waits alone. That the channel machine of the channel stays IDLE under its
drive, and that the drive's end acts whatever is left of its 5 ms, are the model's (assumptions 18 and 6). -/
def Obligations.ProvingVisitsTheChannels : Prop :=
  (∀ (c : Channel) (s : State), s.supply.mode = .run → s.drive.prove.overall = .running → s.drive.prove.driving = none →
    s.nextVisit s.drive.prove.next = some c →
    (s.drive.prove.gap = none ∨ s.drive.prove.gap = some 0 → (∀ p, channelPair c = some p → (s.pair p).dead = none) →
      ∃ t, exec .provingDriveStart s = .next t ∧
        t.quiet = (s.modProve fun x => { x with driving := some c, drive := some 5, gap := none }).quiet) ∧
    ((∃ n, s.drive.prove.gap = some (n + 1)) ∨ (∃ p, channelPair c = some p ∧ (s.pair p).dead ≠ none) →
      ∃ t, exec .provingDriveStart s = .next t ∧ t.quiet = s.quiet)) ∧
  (∀ (c : Channel) (r : ChannelRec) (current : Nat) (s : State), s.supply.mode = .run →
    s.drive.prove.driving = some c → s.chanRec? c = some r → (s.nextVisit (c.val + 1)).isSome →
    (∀ p, channelPair c = some p → (s.chanRec? (memberChannel p .even)).isSome) →
    let after (res : ChanResult) (t : State) : Prop :=
      t.drive.prove =
          { s.drive.prove with results := s.drive.prove.results.set c res, driving := none, drive := none,
                               next := c.val + 1, gap := some 20 } ∧
        t.drive.chans = s.drive.chans ∧
        (∀ p, t.pair p =
          match channelPair c, s.chanRec? (memberChannel p .even) with
          | some q, some e => if q = p then { s.pair p with dead := some e.dead, resumable := none } else s.pair p
          | _, _ => s.pair p) ∧
        t.faults = s.faults ∧ t.records = s.records ∧ t.flow = s.flow
    (current < r.openThr → ∃ t, exec (.provingDriveEnd current) s = .next t ∧ after .open_ t) ∧
    (r.openThr ≤ current → ∃ t, exec (.provingDriveEnd current) s = .next t ∧ after .pass t) ∧
    (∃ t, exec (.coilShortDetected c) s = .next t ∧ after .short t)) ∧
  (∀ (c : Channel) (r : ChannelRec) (current : Nat) (s : State), s.supply.mode = .run → s.drive.prove.driving = some c →
    s.chanRec? c = some r → s.nextVisit (c.val + 1) = none → s.faults.sound → s.faults.entries.length < 16 → s.noActive →
    (s.seq.orders.map (·.number)).Nodup →
    let concludes (res : ChanResult) (t : State) : Prop :=
      let results := s.drive.prove.results.set c res
      let passed : Prop := ∀ ch : Channel, s.fitted (channelGroup ch) = true → results[ch] = .pass
      let judged (v : ProveResult) : State := s.modProve fun x => { x with overall := v }
      let starts (v : ProveResult) : Prop :=
        ∀ q, (∀ x ∈ s.seq.orders, x.state = .queued ↔ x = q) → s.order? q.number = some q → q.phase? ≠ none →
          claimed q.number s.flow.waiting = false → claimed q.number s.flow.granted = false →
          ∃ (y : Order) (p : Phase), t.order? q.number = some y ∧ y.group = q.group ∧ y.kind = q.kind ∧ y.index = q.index ∧
            (q.kind ≠ .tiltTo → y.phases = q.phases) ∧ y.phase? = some p ∧ (judged v).startsPhase t p y
      t.drive.prove.results = results ∧ t.drive.prove.endedAt = some s.supply.time ∧
        t.drive.prove.failures = (results.toList.filter fun x => decide (x = .open_ ∨ x = .short)).length ∧
        t.drive.prove.driving = none ∧ t.drive.prove.drive = none ∧ t.drive.prove.gap = none ∧
        (passed → t.drive.prove.overall = .passed ∧ starts .passed ∧
          ∀ e ∈ t.faults.entries, ¬ (e.code = .provingFailed ∧ e.subject = .none)) ∧
        (¬ passed → t.drive.prove.overall = .failed ∧ starts .failed ∧
          ∃ e ∈ t.faults.entries, e.code = .provingFailed ∧ e.subject = .none ∧ e.active = true) ∧
        ((∀ x ∈ s.seq.orders, x.state ≠ .queued) →
          t.records = s.records ∧ t.flow = s.flow ∧ t.faults.flags = s.faults.flags) ∧
        (∀ g q, s.oldestQueued? g = some q → q.phase? ≠ none →
          ∃ y, t.order? q.number = some y ∧ y.state ≠ .queued ∧ y.index = q.index)
    (current < r.openThr → ∃ t, exec (.provingDriveEnd current) s = .next t ∧ concludes .open_ t) ∧
    (r.openThr ≤ current → ∃ t, exec (.provingDriveEnd current) s = .next t ∧ concludes .pass t) ∧
    (∃ t, exec (.coilShortDetected c) s = .next t ∧ concludes .short t))

/-! ### Beacons -/

/-- R146, R147: what the expiry of a PLAYING player's step timer does: a pending selection starts; else the next step; else, at the
end of a cycle, a new cycle from the library or FINISHED. That the new cycle takes the repeat count of the fresh copy, one that
has become endless counting from 1, and that a cycle above the repeat count ends FINISHED, are the model's readings (assumptions
24 and 44). -/
def Obligations.StepTimerPlaysThePattern : Prop :=
  ∀ (p : LampPair) (s : State), s.supply.mode = .run → (s.player p).cond = .playing → (s.player p).timer ≠ none →
    (∀ sel, (s.player p).pending = some sel →
      ∃ t, exec (.stepTimerExpiry p) s = .next t ∧ t.player p = s.startedPlayer sel ∧
        (∀ q, q ≠ p → t.player q = s.player q) ∧ t.records = s.records ∧ t.faults = s.faults) ∧
    ((s.player p).pending = none → (s.player p).step + 1 < (s.player p).steps.length →
      ∃ t, exec (.stepTimerExpiry p) s = .next t ∧
        t.quiet =
          (s.setPlayer p
            { s.player p with step := (s.player p).step + 1
                              timer := some (stepTime (s.player p).steps ((s.player p).step + 1)) }).quiet) ∧
    (∀ r : PatternRec, (s.player p).pending = none → (s.player p).steps.length ≤ (s.player p).step + 1 →
      (s.player p).repeats = 0 ∨ (s.player p).cycle < (s.player p).repeats →
      s.pattern? (s.player p).sel.pattern = some r →
      ∃ t, exec (.stepTimerExpiry p) s = .next t ∧
        t.quiet =
          (s.setPlayer p
            { s.player p with steps := r.steps, repeats := r.repeats, step := 0,
                              cycle := if r.repeats = 0 then 1 else (s.player p).cycle + 1,
                              timer := some (stepTime r.steps 0) }).quiet) ∧
    ((s.player p).pending = none → (s.player p).steps.length ≤ (s.player p).step + 1 →
      (s.player p).repeats ≠ 0 → (s.player p).repeats ≤ (s.player p).cycle →
      ∃ t, exec (.stepTimerExpiry p) s = .next t ∧
        t.quiet = (s.setPlayer p { s.player p with cond := .finished, timer := none }).quiet)

/-- R156 to R159: a measurement of a lit lamp below 50 mA makes it OPEN and raises LAMP_OPEN, one of 50 mA or more makes it HEALTHY
and latches the entry; a short cuts the line, makes the lamp SHORTED, leaves LAMP_SHORT LATCHED and turns a discrete latch off.
That a measured current above 3 A, which cuts the line first in the part, counts as HEALTHY too, is the model's choice
(assumption 23). -/
def Obligations.LampCurrentsAreJudged : Prop :=
  ∀ (l : Lamp) (s : State), s.supply.mode = .run → s.lampDriven l = true →
    (∀ current : Nat, s.lampIsDiscrete l = false → 50 ≤ current →
      ∃ t, exec (.lampMeasurement l current) s = .next t ∧
        t.quiet =
          { s.setLamp l { s.lamp l with health := .healthy } with faults := s.faults.latch .lampOpen (.lamp l) }.quiet) ∧
    (∀ current : Nat, s.lampIsDiscrete l = false → current < 50 → s.faults.sound → s.faults.entries.length < 16 →
      ∃ t, exec (.lampMeasurement l current) s = .next t ∧ t.lamp l = { s.lamp l with health := .open_ } ∧
        (∀ m, m ≠ l → t.lamp m = s.lamp m) ∧
        (∃ e ∈ t.faults.entries, e.code = .lampOpen ∧ e.subject = .lamp l ∧ e.active = true) ∧
        t.faults.flags = s.faults.flags ∧ t.records = s.records ∧ t.beacon.players = s.beacon.players) ∧
    (s.faults.sound → s.faults.entries.length < 16 →
      ∃ t, exec (.lampShortDetected l) s = .next t ∧ t.lamp l = ⟨.shorted, true⟩ ∧ t.lampDriven l = false ∧
        (∀ m, m ≠ l → t.lamp m = s.lamp m) ∧
        (∃ e ∈ t.faults.entries, e.code = .lampShort ∧ e.subject = .lamp l ∧ e.active = false) ∧
        (∀ e ∈ t.faults.entries, e.code = .lampOpen → e.subject = .lamp l → e.active = false) ∧
        t.latch l.pair = (s.latch l.pair && !s.lampIsDiscrete l) ∧ t.faults.flags = s.faults.flags ∧
        t.beacon.players = s.beacon.players ∧ t.records = s.records)
end

