-- ==== Sys2Proof/Laws/State.lean ====
section
/-! SUPPORT. The small lemmas of the state's updates: which blocks each update of one place leaves as they were, what the updated
place then holds, and that the other places of its table keep what they held. Each is
true by rfl; `(rfl)` keeps it out of the rules that simp applies without a proof, which its discharger cannot use. -/

namespace Sys2Proof.Machine

variable (s : State)

/-! ### modTracker -/

@[simp] theorem State.modTracker_pending (a : Axis) (f : Tracker → Tracker) : (s.modTracker a f).pending = s.pending := (rfl)
@[simp] theorem State.modTracker_supply (a : Axis) (f : Tracker → Tracker) : (s.modTracker a f).supply = s.supply := (rfl)
@[simp] theorem State.modTracker_fitment (a : Axis) (f : Tracker → Tracker) : (s.modTracker a f).fitment = s.fitment := (rfl)
@[simp] theorem State.modTracker_link (a : Axis) (f : Tracker → Tracker) : (s.modTracker a f).link = s.link := (rfl)
@[simp] theorem State.modTracker_seq (a : Axis) (f : Tracker → Tracker) : (s.modTracker a f).seq = s.seq := (rfl)
@[simp] theorem State.modTracker_vehicle (a : Axis) (f : Tracker → Tracker) : (s.modTracker a f).vehicle = s.vehicle := (rfl)
@[simp] theorem State.modTracker_flow (a : Axis) (f : Tracker → Tracker) : (s.modTracker a f).flow = s.flow := (rfl)
@[simp] theorem State.modTracker_runs (a : Axis) (f : Tracker → Tracker) : (s.modTracker a f).runs = s.runs := (rfl)
@[simp] theorem State.modTracker_drive (a : Axis) (f : Tracker → Tracker) : (s.modTracker a f).drive = s.drive := (rfl)
@[simp] theorem State.modTracker_operator (a : Axis) (f : Tracker → Tracker) : (s.modTracker a f).operator = s.operator := (rfl)
@[simp] theorem State.modTracker_beacon (a : Axis) (f : Tracker → Tracker) : (s.modTracker a f).beacon = s.beacon := (rfl)
@[simp] theorem State.modTracker_faults (a : Axis) (f : Tracker → Tracker) : (s.modTracker a f).faults = s.faults := (rfl)
@[simp] theorem State.modTracker_free (a : Axis) (f : Tracker → Tracker) : (s.modTracker a f).free = s.free := (rfl)

/-! ### setRun -/

@[simp] theorem State.setRun_pending (g : Group) (r : Option Run) : (s.setRun g r).pending = s.pending := (rfl)
@[simp] theorem State.setRun_supply (g : Group) (r : Option Run) : (s.setRun g r).supply = s.supply := (rfl)
@[simp] theorem State.setRun_fitment (g : Group) (r : Option Run) : (s.setRun g r).fitment = s.fitment := (rfl)
@[simp] theorem State.setRun_link (g : Group) (r : Option Run) : (s.setRun g r).link = s.link := (rfl)
@[simp] theorem State.setRun_seq (g : Group) (r : Option Run) : (s.setRun g r).seq = s.seq := (rfl)
@[simp] theorem State.setRun_vehicle (g : Group) (r : Option Run) : (s.setRun g r).vehicle = s.vehicle := (rfl)
@[simp] theorem State.setRun_flow (g : Group) (r : Option Run) : (s.setRun g r).flow = s.flow := (rfl)
@[simp] theorem State.setRun_trackers (g : Group) (r : Option Run) : (s.setRun g r).trackers = s.trackers := (rfl)
@[simp] theorem State.setRun_drive (g : Group) (r : Option Run) : (s.setRun g r).drive = s.drive := (rfl)
@[simp] theorem State.setRun_operator (g : Group) (r : Option Run) : (s.setRun g r).operator = s.operator := (rfl)
@[simp] theorem State.setRun_beacon (g : Group) (r : Option Run) : (s.setRun g r).beacon = s.beacon := (rfl)
@[simp] theorem State.setRun_faults (g : Group) (r : Option Run) : (s.setRun g r).faults = s.faults := (rfl)
@[simp] theorem State.setRun_free (g : Group) (r : Option Run) : (s.setRun g r).free = s.free := (rfl)

/-! ### modCtl -/

@[simp] theorem State.modCtl_pending (g : Group) (f : GroupCtl → GroupCtl) : (s.modCtl g f).pending = s.pending := (rfl)
@[simp] theorem State.modCtl_supply (g : Group) (f : GroupCtl → GroupCtl) : (s.modCtl g f).supply = s.supply := (rfl)
@[simp] theorem State.modCtl_fitment (g : Group) (f : GroupCtl → GroupCtl) : (s.modCtl g f).fitment = s.fitment := (rfl)
@[simp] theorem State.modCtl_link (g : Group) (f : GroupCtl → GroupCtl) : (s.modCtl g f).link = s.link := (rfl)
@[simp] theorem State.modCtl_vehicle (g : Group) (f : GroupCtl → GroupCtl) : (s.modCtl g f).vehicle = s.vehicle := (rfl)
@[simp] theorem State.modCtl_flow (g : Group) (f : GroupCtl → GroupCtl) : (s.modCtl g f).flow = s.flow := (rfl)
@[simp] theorem State.modCtl_trackers (g : Group) (f : GroupCtl → GroupCtl) : (s.modCtl g f).trackers = s.trackers := (rfl)
@[simp] theorem State.modCtl_runs (g : Group) (f : GroupCtl → GroupCtl) : (s.modCtl g f).runs = s.runs := (rfl)
@[simp] theorem State.modCtl_drive (g : Group) (f : GroupCtl → GroupCtl) : (s.modCtl g f).drive = s.drive := (rfl)
@[simp] theorem State.modCtl_operator (g : Group) (f : GroupCtl → GroupCtl) : (s.modCtl g f).operator = s.operator := (rfl)
@[simp] theorem State.modCtl_beacon (g : Group) (f : GroupCtl → GroupCtl) : (s.modCtl g f).beacon = s.beacon := (rfl)
@[simp] theorem State.modCtl_faults (g : Group) (f : GroupCtl → GroupCtl) : (s.modCtl g f).faults = s.faults := (rfl)
@[simp] theorem State.modCtl_free (g : Group) (f : GroupCtl → GroupCtl) : (s.modCtl g f).free = s.free := (rfl)

/-! ### modChan -/

@[simp] theorem State.modChan_pending (c : Channel) (f : Chan → Chan) : (s.modChan c f).pending = s.pending := (rfl)
@[simp] theorem State.modChan_supply (c : Channel) (f : Chan → Chan) : (s.modChan c f).supply = s.supply := (rfl)
@[simp] theorem State.modChan_fitment (c : Channel) (f : Chan → Chan) : (s.modChan c f).fitment = s.fitment := (rfl)
@[simp] theorem State.modChan_link (c : Channel) (f : Chan → Chan) : (s.modChan c f).link = s.link := (rfl)
@[simp] theorem State.modChan_seq (c : Channel) (f : Chan → Chan) : (s.modChan c f).seq = s.seq := (rfl)
@[simp] theorem State.modChan_vehicle (c : Channel) (f : Chan → Chan) : (s.modChan c f).vehicle = s.vehicle := (rfl)
@[simp] theorem State.modChan_flow (c : Channel) (f : Chan → Chan) : (s.modChan c f).flow = s.flow := (rfl)
@[simp] theorem State.modChan_trackers (c : Channel) (f : Chan → Chan) : (s.modChan c f).trackers = s.trackers := (rfl)
@[simp] theorem State.modChan_runs (c : Channel) (f : Chan → Chan) : (s.modChan c f).runs = s.runs := (rfl)
@[simp] theorem State.modChan_operator (c : Channel) (f : Chan → Chan) : (s.modChan c f).operator = s.operator := (rfl)
@[simp] theorem State.modChan_beacon (c : Channel) (f : Chan → Chan) : (s.modChan c f).beacon = s.beacon := (rfl)
@[simp] theorem State.modChan_faults (c : Channel) (f : Chan → Chan) : (s.modChan c f).faults = s.faults := (rfl)
@[simp] theorem State.modChan_free (c : Channel) (f : Chan → Chan) : (s.modChan c f).free = s.free := (rfl)

/-! ### modPair -/

@[simp] theorem State.modPair_pending (p : PairNo) (f : Pair → Pair) : (s.modPair p f).pending = s.pending := (rfl)
@[simp] theorem State.modPair_supply (p : PairNo) (f : Pair → Pair) : (s.modPair p f).supply = s.supply := (rfl)
@[simp] theorem State.modPair_fitment (p : PairNo) (f : Pair → Pair) : (s.modPair p f).fitment = s.fitment := (rfl)
@[simp] theorem State.modPair_link (p : PairNo) (f : Pair → Pair) : (s.modPair p f).link = s.link := (rfl)
@[simp] theorem State.modPair_seq (p : PairNo) (f : Pair → Pair) : (s.modPair p f).seq = s.seq := (rfl)
@[simp] theorem State.modPair_vehicle (p : PairNo) (f : Pair → Pair) : (s.modPair p f).vehicle = s.vehicle := (rfl)
@[simp] theorem State.modPair_flow (p : PairNo) (f : Pair → Pair) : (s.modPair p f).flow = s.flow := (rfl)
@[simp] theorem State.modPair_trackers (p : PairNo) (f : Pair → Pair) : (s.modPair p f).trackers = s.trackers := (rfl)
@[simp] theorem State.modPair_runs (p : PairNo) (f : Pair → Pair) : (s.modPair p f).runs = s.runs := (rfl)
@[simp] theorem State.modPair_operator (p : PairNo) (f : Pair → Pair) : (s.modPair p f).operator = s.operator := (rfl)
@[simp] theorem State.modPair_beacon (p : PairNo) (f : Pair → Pair) : (s.modPair p f).beacon = s.beacon := (rfl)
@[simp] theorem State.modPair_faults (p : PairNo) (f : Pair → Pair) : (s.modPair p f).faults = s.faults := (rfl)
@[simp] theorem State.modPair_free (p : PairNo) (f : Pair → Pair) : (s.modPair p f).free = s.free := (rfl)

/-! ### modProve -/

@[simp] theorem State.modProve_pending (f : Prove → Prove) : (s.modProve f).pending = s.pending := (rfl)
@[simp] theorem State.modProve_supply (f : Prove → Prove) : (s.modProve f).supply = s.supply := (rfl)
@[simp] theorem State.modProve_fitment (f : Prove → Prove) : (s.modProve f).fitment = s.fitment := (rfl)
@[simp] theorem State.modProve_link (f : Prove → Prove) : (s.modProve f).link = s.link := (rfl)
@[simp] theorem State.modProve_seq (f : Prove → Prove) : (s.modProve f).seq = s.seq := (rfl)
@[simp] theorem State.modProve_vehicle (f : Prove → Prove) : (s.modProve f).vehicle = s.vehicle := (rfl)
@[simp] theorem State.modProve_flow (f : Prove → Prove) : (s.modProve f).flow = s.flow := (rfl)
@[simp] theorem State.modProve_trackers (f : Prove → Prove) : (s.modProve f).trackers = s.trackers := (rfl)
@[simp] theorem State.modProve_runs (f : Prove → Prove) : (s.modProve f).runs = s.runs := (rfl)
@[simp] theorem State.modProve_operator (f : Prove → Prove) : (s.modProve f).operator = s.operator := (rfl)
@[simp] theorem State.modProve_beacon (f : Prove → Prove) : (s.modProve f).beacon = s.beacon := (rfl)
@[simp] theorem State.modProve_faults (f : Prove → Prove) : (s.modProve f).faults = s.faults := (rfl)
@[simp] theorem State.modProve_free (f : Prove → Prove) : (s.modProve f).free = s.free := (rfl)

/-! ### modLine -/

@[simp] theorem State.modLine_pending (l : Line) (f : LineState → LineState) : (s.modLine l f).pending = s.pending := (rfl)
@[simp] theorem State.modLine_supply (l : Line) (f : LineState → LineState) : (s.modLine l f).supply = s.supply := (rfl)
@[simp] theorem State.modLine_fitment (l : Line) (f : LineState → LineState) : (s.modLine l f).fitment = s.fitment := (rfl)
@[simp] theorem State.modLine_link (l : Line) (f : LineState → LineState) : (s.modLine l f).link = s.link := (rfl)
@[simp] theorem State.modLine_seq (l : Line) (f : LineState → LineState) : (s.modLine l f).seq = s.seq := (rfl)
@[simp] theorem State.modLine_vehicle (l : Line) (f : LineState → LineState) : (s.modLine l f).vehicle = s.vehicle := (rfl)
@[simp] theorem State.modLine_flow (l : Line) (f : LineState → LineState) : (s.modLine l f).flow = s.flow := (rfl)
@[simp] theorem State.modLine_trackers (l : Line) (f : LineState → LineState) : (s.modLine l f).trackers = s.trackers := (rfl)
@[simp] theorem State.modLine_runs (l : Line) (f : LineState → LineState) : (s.modLine l f).runs = s.runs := (rfl)
@[simp] theorem State.modLine_drive (l : Line) (f : LineState → LineState) : (s.modLine l f).drive = s.drive := (rfl)
@[simp] theorem State.modLine_beacon (l : Line) (f : LineState → LineState) : (s.modLine l f).beacon = s.beacon := (rfl)
@[simp] theorem State.modLine_faults (l : Line) (f : LineState → LineState) : (s.modLine l f).faults = s.faults := (rfl)
@[simp] theorem State.modLine_free (l : Line) (f : LineState → LineState) : (s.modLine l f).free = s.free := (rfl)

/-! ### setHand -/

@[simp] theorem State.setHand_pending (h : Fin 2) (x : TwoHand) : (s.setHand h x).pending = s.pending := (rfl)
@[simp] theorem State.setHand_supply (h : Fin 2) (x : TwoHand) : (s.setHand h x).supply = s.supply := (rfl)
@[simp] theorem State.setHand_fitment (h : Fin 2) (x : TwoHand) : (s.setHand h x).fitment = s.fitment := (rfl)
@[simp] theorem State.setHand_link (h : Fin 2) (x : TwoHand) : (s.setHand h x).link = s.link := (rfl)
@[simp] theorem State.setHand_seq (h : Fin 2) (x : TwoHand) : (s.setHand h x).seq = s.seq := (rfl)
@[simp] theorem State.setHand_vehicle (h : Fin 2) (x : TwoHand) : (s.setHand h x).vehicle = s.vehicle := (rfl)
@[simp] theorem State.setHand_flow (h : Fin 2) (x : TwoHand) : (s.setHand h x).flow = s.flow := (rfl)
@[simp] theorem State.setHand_trackers (h : Fin 2) (x : TwoHand) : (s.setHand h x).trackers = s.trackers := (rfl)
@[simp] theorem State.setHand_runs (h : Fin 2) (x : TwoHand) : (s.setHand h x).runs = s.runs := (rfl)
@[simp] theorem State.setHand_drive (h : Fin 2) (x : TwoHand) : (s.setHand h x).drive = s.drive := (rfl)
@[simp] theorem State.setHand_beacon (h : Fin 2) (x : TwoHand) : (s.setHand h x).beacon = s.beacon := (rfl)
@[simp] theorem State.setHand_faults (h : Fin 2) (x : TwoHand) : (s.setHand h x).faults = s.faults := (rfl)
@[simp] theorem State.setHand_free (h : Fin 2) (x : TwoHand) : (s.setHand h x).free = s.free := (rfl)

/-! ### setPlayer -/

@[simp] theorem State.setPlayer_pending (p : LampPair) (x : Player) : (s.setPlayer p x).pending = s.pending := (rfl)
@[simp] theorem State.setPlayer_supply (p : LampPair) (x : Player) : (s.setPlayer p x).supply = s.supply := (rfl)
@[simp] theorem State.setPlayer_fitment (p : LampPair) (x : Player) : (s.setPlayer p x).fitment = s.fitment := (rfl)
@[simp] theorem State.setPlayer_link (p : LampPair) (x : Player) : (s.setPlayer p x).link = s.link := (rfl)
@[simp] theorem State.setPlayer_seq (p : LampPair) (x : Player) : (s.setPlayer p x).seq = s.seq := (rfl)
@[simp] theorem State.setPlayer_vehicle (p : LampPair) (x : Player) : (s.setPlayer p x).vehicle = s.vehicle := (rfl)
@[simp] theorem State.setPlayer_flow (p : LampPair) (x : Player) : (s.setPlayer p x).flow = s.flow := (rfl)
@[simp] theorem State.setPlayer_trackers (p : LampPair) (x : Player) : (s.setPlayer p x).trackers = s.trackers := (rfl)
@[simp] theorem State.setPlayer_runs (p : LampPair) (x : Player) : (s.setPlayer p x).runs = s.runs := (rfl)
@[simp] theorem State.setPlayer_drive (p : LampPair) (x : Player) : (s.setPlayer p x).drive = s.drive := (rfl)
@[simp] theorem State.setPlayer_operator (p : LampPair) (x : Player) : (s.setPlayer p x).operator = s.operator := (rfl)
@[simp] theorem State.setPlayer_faults (p : LampPair) (x : Player) : (s.setPlayer p x).faults = s.faults := (rfl)
@[simp] theorem State.setPlayer_free (p : LampPair) (x : Player) : (s.setPlayer p x).free = s.free := (rfl)

/-! ### setOverride -/

@[simp] theorem State.setOverride_pending (p : LampPair) (x : Option Override) : (s.setOverride p x).pending = s.pending := (rfl)
@[simp] theorem State.setOverride_supply (p : LampPair) (x : Option Override) : (s.setOverride p x).supply = s.supply := (rfl)
@[simp] theorem State.setOverride_fitment (p : LampPair) (x : Option Override) : (s.setOverride p x).fitment = s.fitment := (rfl)
@[simp] theorem State.setOverride_link (p : LampPair) (x : Option Override) : (s.setOverride p x).link = s.link := (rfl)
@[simp] theorem State.setOverride_seq (p : LampPair) (x : Option Override) : (s.setOverride p x).seq = s.seq := (rfl)
@[simp] theorem State.setOverride_vehicle (p : LampPair) (x : Option Override) : (s.setOverride p x).vehicle = s.vehicle := (rfl)
@[simp] theorem State.setOverride_flow (p : LampPair) (x : Option Override) : (s.setOverride p x).flow = s.flow := (rfl)
@[simp] theorem State.setOverride_trackers (p : LampPair) (x : Option Override) : (s.setOverride p x).trackers = s.trackers := (rfl)
@[simp] theorem State.setOverride_runs (p : LampPair) (x : Option Override) : (s.setOverride p x).runs = s.runs := (rfl)
@[simp] theorem State.setOverride_drive (p : LampPair) (x : Option Override) : (s.setOverride p x).drive = s.drive := (rfl)
@[simp] theorem State.setOverride_operator (p : LampPair) (x : Option Override) : (s.setOverride p x).operator = s.operator := (rfl)
@[simp] theorem State.setOverride_faults (p : LampPair) (x : Option Override) : (s.setOverride p x).faults = s.faults := (rfl)
@[simp] theorem State.setOverride_free (p : LampPair) (x : Option Override) : (s.setOverride p x).free = s.free := (rfl)

/-! ### setLamp -/

@[simp] theorem State.setLamp_pending (l : Lamp) (x : LampState) : (s.setLamp l x).pending = s.pending := (rfl)
@[simp] theorem State.setLamp_supply (l : Lamp) (x : LampState) : (s.setLamp l x).supply = s.supply := (rfl)
@[simp] theorem State.setLamp_fitment (l : Lamp) (x : LampState) : (s.setLamp l x).fitment = s.fitment := (rfl)
@[simp] theorem State.setLamp_link (l : Lamp) (x : LampState) : (s.setLamp l x).link = s.link := (rfl)
@[simp] theorem State.setLamp_seq (l : Lamp) (x : LampState) : (s.setLamp l x).seq = s.seq := (rfl)
@[simp] theorem State.setLamp_vehicle (l : Lamp) (x : LampState) : (s.setLamp l x).vehicle = s.vehicle := (rfl)
@[simp] theorem State.setLamp_flow (l : Lamp) (x : LampState) : (s.setLamp l x).flow = s.flow := (rfl)
@[simp] theorem State.setLamp_trackers (l : Lamp) (x : LampState) : (s.setLamp l x).trackers = s.trackers := (rfl)
@[simp] theorem State.setLamp_runs (l : Lamp) (x : LampState) : (s.setLamp l x).runs = s.runs := (rfl)
@[simp] theorem State.setLamp_drive (l : Lamp) (x : LampState) : (s.setLamp l x).drive = s.drive := (rfl)
@[simp] theorem State.setLamp_operator (l : Lamp) (x : LampState) : (s.setLamp l x).operator = s.operator := (rfl)
@[simp] theorem State.setLamp_faults (l : Lamp) (x : LampState) : (s.setLamp l x).faults = s.faults := (rfl)
@[simp] theorem State.setLamp_free (l : Lamp) (x : LampState) : (s.setLamp l x).free = s.free := (rfl)

/-! ### setLatch -/

@[simp] theorem State.setLatch_pending (p : LampPair) (x : Bool) : (s.setLatch p x).pending = s.pending := (rfl)
@[simp] theorem State.setLatch_supply (p : LampPair) (x : Bool) : (s.setLatch p x).supply = s.supply := (rfl)
@[simp] theorem State.setLatch_fitment (p : LampPair) (x : Bool) : (s.setLatch p x).fitment = s.fitment := (rfl)
@[simp] theorem State.setLatch_link (p : LampPair) (x : Bool) : (s.setLatch p x).link = s.link := (rfl)
@[simp] theorem State.setLatch_seq (p : LampPair) (x : Bool) : (s.setLatch p x).seq = s.seq := (rfl)
@[simp] theorem State.setLatch_vehicle (p : LampPair) (x : Bool) : (s.setLatch p x).vehicle = s.vehicle := (rfl)
@[simp] theorem State.setLatch_flow (p : LampPair) (x : Bool) : (s.setLatch p x).flow = s.flow := (rfl)
@[simp] theorem State.setLatch_trackers (p : LampPair) (x : Bool) : (s.setLatch p x).trackers = s.trackers := (rfl)
@[simp] theorem State.setLatch_runs (p : LampPair) (x : Bool) : (s.setLatch p x).runs = s.runs := (rfl)
@[simp] theorem State.setLatch_drive (p : LampPair) (x : Bool) : (s.setLatch p x).drive = s.drive := (rfl)
@[simp] theorem State.setLatch_operator (p : LampPair) (x : Bool) : (s.setLatch p x).operator = s.operator := (rfl)
@[simp] theorem State.setLatch_faults (p : LampPair) (x : Bool) : (s.setLatch p x).faults = s.faults := (rfl)
@[simp] theorem State.setLatch_free (p : LampPair) (x : Bool) : (s.setLatch p x).free = s.free := (rfl)

/-! ### modOrder -/

@[simp] theorem State.modOrder_pending (n : Nat) (f : Order → Order) : (s.modOrder n f).pending = s.pending := (rfl)
@[simp] theorem State.modOrder_supply (n : Nat) (f : Order → Order) : (s.modOrder n f).supply = s.supply := (rfl)
@[simp] theorem State.modOrder_fitment (n : Nat) (f : Order → Order) : (s.modOrder n f).fitment = s.fitment := (rfl)
@[simp] theorem State.modOrder_link (n : Nat) (f : Order → Order) : (s.modOrder n f).link = s.link := (rfl)
@[simp] theorem State.modOrder_vehicle (n : Nat) (f : Order → Order) : (s.modOrder n f).vehicle = s.vehicle := (rfl)
@[simp] theorem State.modOrder_flow (n : Nat) (f : Order → Order) : (s.modOrder n f).flow = s.flow := (rfl)
@[simp] theorem State.modOrder_trackers (n : Nat) (f : Order → Order) : (s.modOrder n f).trackers = s.trackers := (rfl)
@[simp] theorem State.modOrder_runs (n : Nat) (f : Order → Order) : (s.modOrder n f).runs = s.runs := (rfl)
@[simp] theorem State.modOrder_drive (n : Nat) (f : Order → Order) : (s.modOrder n f).drive = s.drive := (rfl)
@[simp] theorem State.modOrder_operator (n : Nat) (f : Order → Order) : (s.modOrder n f).operator = s.operator := (rfl)
@[simp] theorem State.modOrder_beacon (n : Nat) (f : Order → Order) : (s.modOrder n f).beacon = s.beacon := (rfl)
@[simp] theorem State.modOrder_faults (n : Nat) (f : Order → Order) : (s.modOrder n f).faults = s.faults := (rfl)
@[simp] theorem State.modOrder_free (n : Nat) (f : Order → Order) : (s.modOrder n f).free = s.free := (rfl)

/-! ### noticeStop -/

@[simp] theorem State.noticeStop_pending : (s.noticeStop).pending = s.pending := (rfl)
@[simp] theorem State.noticeStop_supply : (s.noticeStop).supply = s.supply := (rfl)
@[simp] theorem State.noticeStop_fitment : (s.noticeStop).fitment = s.fitment := (rfl)
@[simp] theorem State.noticeStop_seq : (s.noticeStop).seq = s.seq := (rfl)
@[simp] theorem State.noticeStop_vehicle : (s.noticeStop).vehicle = s.vehicle := (rfl)
@[simp] theorem State.noticeStop_flow : (s.noticeStop).flow = s.flow := (rfl)
@[simp] theorem State.noticeStop_trackers : (s.noticeStop).trackers = s.trackers := (rfl)
@[simp] theorem State.noticeStop_runs : (s.noticeStop).runs = s.runs := (rfl)
@[simp] theorem State.noticeStop_drive : (s.noticeStop).drive = s.drive := (rfl)
@[simp] theorem State.noticeStop_operator : (s.noticeStop).operator = s.operator := (rfl)
@[simp] theorem State.noticeStop_beacon : (s.noticeStop).beacon = s.beacon := (rfl)
@[simp] theorem State.noticeStop_faults : (s.noticeStop).faults = s.faults := (rfl)
@[simp] theorem State.noticeStop_free : (s.noticeStop).free = s.free := (rfl)

/-! ### noticeFault -/

@[simp] theorem State.noticeFault_pending : (s.noticeFault).pending = s.pending := (rfl)
@[simp] theorem State.noticeFault_supply : (s.noticeFault).supply = s.supply := (rfl)
@[simp] theorem State.noticeFault_fitment : (s.noticeFault).fitment = s.fitment := (rfl)
@[simp] theorem State.noticeFault_seq : (s.noticeFault).seq = s.seq := (rfl)
@[simp] theorem State.noticeFault_vehicle : (s.noticeFault).vehicle = s.vehicle := (rfl)
@[simp] theorem State.noticeFault_flow : (s.noticeFault).flow = s.flow := (rfl)
@[simp] theorem State.noticeFault_trackers : (s.noticeFault).trackers = s.trackers := (rfl)
@[simp] theorem State.noticeFault_runs : (s.noticeFault).runs = s.runs := (rfl)
@[simp] theorem State.noticeFault_drive : (s.noticeFault).drive = s.drive := (rfl)
@[simp] theorem State.noticeFault_operator : (s.noticeFault).operator = s.operator := (rfl)
@[simp] theorem State.noticeFault_beacon : (s.noticeFault).beacon = s.beacon := (rfl)
@[simp] theorem State.noticeFault_faults : (s.noticeFault).faults = s.faults := (rfl)
@[simp] theorem State.noticeFault_free : (s.noticeFault).free = s.free := (rfl)

/-! ### noticeOrder -/

@[simp] theorem State.noticeOrder_pending : (s.noticeOrder).pending = s.pending := (rfl)
@[simp] theorem State.noticeOrder_supply : (s.noticeOrder).supply = s.supply := (rfl)
@[simp] theorem State.noticeOrder_fitment : (s.noticeOrder).fitment = s.fitment := (rfl)
@[simp] theorem State.noticeOrder_seq : (s.noticeOrder).seq = s.seq := (rfl)
@[simp] theorem State.noticeOrder_vehicle : (s.noticeOrder).vehicle = s.vehicle := (rfl)
@[simp] theorem State.noticeOrder_flow : (s.noticeOrder).flow = s.flow := (rfl)
@[simp] theorem State.noticeOrder_trackers : (s.noticeOrder).trackers = s.trackers := (rfl)
@[simp] theorem State.noticeOrder_runs : (s.noticeOrder).runs = s.runs := (rfl)
@[simp] theorem State.noticeOrder_drive : (s.noticeOrder).drive = s.drive := (rfl)
@[simp] theorem State.noticeOrder_operator : (s.noticeOrder).operator = s.operator := (rfl)
@[simp] theorem State.noticeOrder_beacon : (s.noticeOrder).beacon = s.beacon := (rfl)
@[simp] theorem State.noticeOrder_faults : (s.noticeOrder).faults = s.faults := (rfl)
@[simp] theorem State.noticeOrder_free : (s.noticeOrder).free = s.free := (rfl)

/-! ### modFlow -/

@[simp] theorem State.modFlow_pending (f : Flow → Flow) : (s.modFlow f).pending = s.pending := (rfl)
@[simp] theorem State.modFlow_supply (f : Flow → Flow) : (s.modFlow f).supply = s.supply := (rfl)
@[simp] theorem State.modFlow_fitment (f : Flow → Flow) : (s.modFlow f).fitment = s.fitment := (rfl)
@[simp] theorem State.modFlow_link (f : Flow → Flow) : (s.modFlow f).link = s.link := (rfl)
@[simp] theorem State.modFlow_seq (f : Flow → Flow) : (s.modFlow f).seq = s.seq := (rfl)
@[simp] theorem State.modFlow_vehicle (f : Flow → Flow) : (s.modFlow f).vehicle = s.vehicle := (rfl)
@[simp] theorem State.modFlow_trackers (f : Flow → Flow) : (s.modFlow f).trackers = s.trackers := (rfl)
@[simp] theorem State.modFlow_runs (f : Flow → Flow) : (s.modFlow f).runs = s.runs := (rfl)
@[simp] theorem State.modFlow_drive (f : Flow → Flow) : (s.modFlow f).drive = s.drive := (rfl)
@[simp] theorem State.modFlow_operator (f : Flow → Flow) : (s.modFlow f).operator = s.operator := (rfl)
@[simp] theorem State.modFlow_beacon (f : Flow → Flow) : (s.modFlow f).beacon = s.beacon := (rfl)
@[simp] theorem State.modFlow_faults (f : Flow → Flow) : (s.modFlow f).faults = s.faults := (rfl)
@[simp] theorem State.modFlow_free (f : Flow → Flow) : (s.modFlow f).free = s.free := (rfl)

/-! ### modFitment -/

@[simp] theorem State.modFitment_pending (f : Fitment → Fitment) : (s.modFitment f).pending = s.pending := (rfl)
@[simp] theorem State.modFitment_supply (f : Fitment → Fitment) : (s.modFitment f).supply = s.supply := (rfl)
@[simp] theorem State.modFitment_link (f : Fitment → Fitment) : (s.modFitment f).link = s.link := (rfl)
@[simp] theorem State.modFitment_seq (f : Fitment → Fitment) : (s.modFitment f).seq = s.seq := (rfl)
@[simp] theorem State.modFitment_vehicle (f : Fitment → Fitment) : (s.modFitment f).vehicle = s.vehicle := (rfl)
@[simp] theorem State.modFitment_flow (f : Fitment → Fitment) : (s.modFitment f).flow = s.flow := (rfl)
@[simp] theorem State.modFitment_trackers (f : Fitment → Fitment) : (s.modFitment f).trackers = s.trackers := (rfl)
@[simp] theorem State.modFitment_runs (f : Fitment → Fitment) : (s.modFitment f).runs = s.runs := (rfl)
@[simp] theorem State.modFitment_drive (f : Fitment → Fitment) : (s.modFitment f).drive = s.drive := (rfl)
@[simp] theorem State.modFitment_operator (f : Fitment → Fitment) : (s.modFitment f).operator = s.operator := (rfl)
@[simp] theorem State.modFitment_beacon (f : Fitment → Fitment) : (s.modFitment f).beacon = s.beacon := (rfl)
@[simp] theorem State.modFitment_faults (f : Fitment → Fitment) : (s.modFitment f).faults = s.faults := (rfl)
@[simp] theorem State.modFitment_free (f : Fitment → Fitment) : (s.modFitment f).free = s.free := (rfl)

/-! ### modLink -/

@[simp] theorem State.modLink_pending (f : Link → Link) : (s.modLink f).pending = s.pending := (rfl)
@[simp] theorem State.modLink_supply (f : Link → Link) : (s.modLink f).supply = s.supply := (rfl)
@[simp] theorem State.modLink_fitment (f : Link → Link) : (s.modLink f).fitment = s.fitment := (rfl)
@[simp] theorem State.modLink_seq (f : Link → Link) : (s.modLink f).seq = s.seq := (rfl)
@[simp] theorem State.modLink_vehicle (f : Link → Link) : (s.modLink f).vehicle = s.vehicle := (rfl)
@[simp] theorem State.modLink_flow (f : Link → Link) : (s.modLink f).flow = s.flow := (rfl)
@[simp] theorem State.modLink_trackers (f : Link → Link) : (s.modLink f).trackers = s.trackers := (rfl)
@[simp] theorem State.modLink_runs (f : Link → Link) : (s.modLink f).runs = s.runs := (rfl)
@[simp] theorem State.modLink_drive (f : Link → Link) : (s.modLink f).drive = s.drive := (rfl)
@[simp] theorem State.modLink_operator (f : Link → Link) : (s.modLink f).operator = s.operator := (rfl)
@[simp] theorem State.modLink_beacon (f : Link → Link) : (s.modLink f).beacon = s.beacon := (rfl)
@[simp] theorem State.modLink_faults (f : Link → Link) : (s.modLink f).faults = s.faults := (rfl)
@[simp] theorem State.modLink_free (f : Link → Link) : (s.modLink f).free = s.free := (rfl)

/-! ### modSupply -/

@[simp] theorem State.modSupply_pending (f : SupplyState → SupplyState) : (s.modSupply f).pending = s.pending := (rfl)
@[simp] theorem State.modSupply_fitment (f : SupplyState → SupplyState) : (s.modSupply f).fitment = s.fitment := (rfl)
@[simp] theorem State.modSupply_link (f : SupplyState → SupplyState) : (s.modSupply f).link = s.link := (rfl)
@[simp] theorem State.modSupply_seq (f : SupplyState → SupplyState) : (s.modSupply f).seq = s.seq := (rfl)
@[simp] theorem State.modSupply_vehicle (f : SupplyState → SupplyState) : (s.modSupply f).vehicle = s.vehicle := (rfl)
@[simp] theorem State.modSupply_flow (f : SupplyState → SupplyState) : (s.modSupply f).flow = s.flow := (rfl)
@[simp] theorem State.modSupply_trackers (f : SupplyState → SupplyState) : (s.modSupply f).trackers = s.trackers := (rfl)
@[simp] theorem State.modSupply_runs (f : SupplyState → SupplyState) : (s.modSupply f).runs = s.runs := (rfl)
@[simp] theorem State.modSupply_drive (f : SupplyState → SupplyState) : (s.modSupply f).drive = s.drive := (rfl)
@[simp] theorem State.modSupply_operator (f : SupplyState → SupplyState) : (s.modSupply f).operator = s.operator := (rfl)
@[simp] theorem State.modSupply_beacon (f : SupplyState → SupplyState) : (s.modSupply f).beacon = s.beacon := (rfl)
@[simp] theorem State.modSupply_faults (f : SupplyState → SupplyState) : (s.modSupply f).faults = s.faults := (rfl)
@[simp] theorem State.modSupply_free (f : SupplyState → SupplyState) : (s.modSupply f).free = s.free := (rfl)

/-! ### The other parts of an updated block -/

@[simp] theorem State.modCtl_seq_orders (g : Group) (f : GroupCtl → GroupCtl) : (s.modCtl g f).seq.orders = s.seq.orders := (rfl)
@[simp] theorem State.modCtl_seq_nextNumber (g : Group) (f : GroupCtl → GroupCtl) : (s.modCtl g f).seq.nextNumber = s.seq.nextNumber := (rfl)
@[simp] theorem State.modCtl_seq_endRank (g : Group) (f : GroupCtl → GroupCtl) : (s.modCtl g f).seq.endRank = s.seq.endRank := (rfl)
@[simp] theorem State.modOrder_seq_nextNumber (n : Nat) (f : Order → Order) : (s.modOrder n f).seq.nextNumber = s.seq.nextNumber := (rfl)
@[simp] theorem State.modOrder_seq_endRank (n : Nat) (f : Order → Order) : (s.modOrder n f).seq.endRank = s.seq.endRank := (rfl)
@[simp] theorem State.modOrder_seq_ctl (n : Nat) (f : Order → Order) : (s.modOrder n f).seq.ctl = s.seq.ctl := (rfl)
@[simp] theorem State.modChan_drive_pairs (c : Channel) (f : Chan → Chan) : (s.modChan c f).drive.pairs = s.drive.pairs := (rfl)
@[simp] theorem State.modChan_drive_prove (c : Channel) (f : Chan → Chan) : (s.modChan c f).drive.prove = s.drive.prove := (rfl)
@[simp] theorem State.modPair_drive_chans (p : PairNo) (f : Pair → Pair) : (s.modPair p f).drive.chans = s.drive.chans := (rfl)
@[simp] theorem State.modPair_drive_prove (p : PairNo) (f : Pair → Pair) : (s.modPair p f).drive.prove = s.drive.prove := (rfl)
@[simp] theorem State.modProve_drive_chans (f : Prove → Prove) : (s.modProve f).drive.chans = s.drive.chans := (rfl)
@[simp] theorem State.modProve_drive_pairs (f : Prove → Prove) : (s.modProve f).drive.pairs = s.drive.pairs := (rfl)
@[simp] theorem State.modLine_operator_hands (l : Line) (f : LineState → LineState) : (s.modLine l f).operator.hands = s.operator.hands := (rfl)
@[simp] theorem State.modLine_operator_obstructed (l : Line) (f : LineState → LineState) : (s.modLine l f).operator.obstructed = s.operator.obstructed := (rfl)
@[simp] theorem State.modLine_operator_loopLine (l : Line) (f : LineState → LineState) : (s.modLine l f).operator.loopLine = s.operator.loopLine := (rfl)
@[simp] theorem State.modLine_operator_loopOpen (l : Line) (f : LineState → LineState) : (s.modLine l f).operator.loopOpen = s.operator.loopOpen := (rfl)
@[simp] theorem State.modLine_operator_estop (l : Line) (f : LineState → LineState) : (s.modLine l f).operator.estop = s.operator.estop := (rfl)
@[simp] theorem State.modLine_operator_release (l : Line) (f : LineState → LineState) : (s.modLine l f).operator.release = s.operator.release := (rfl)
@[simp] theorem State.setHand_operator_lines (h : Fin 2) (x : TwoHand) : (s.setHand h x).operator.lines = s.operator.lines := (rfl)
@[simp] theorem State.setHand_operator_obstructed (h : Fin 2) (x : TwoHand) : (s.setHand h x).operator.obstructed = s.operator.obstructed := (rfl)
@[simp] theorem State.setHand_operator_loopLine (h : Fin 2) (x : TwoHand) : (s.setHand h x).operator.loopLine = s.operator.loopLine := (rfl)
@[simp] theorem State.setHand_operator_loopOpen (h : Fin 2) (x : TwoHand) : (s.setHand h x).operator.loopOpen = s.operator.loopOpen := (rfl)
@[simp] theorem State.setHand_operator_estop (h : Fin 2) (x : TwoHand) : (s.setHand h x).operator.estop = s.operator.estop := (rfl)
@[simp] theorem State.setHand_operator_release (h : Fin 2) (x : TwoHand) : (s.setHand h x).operator.release = s.operator.release := (rfl)
@[simp] theorem State.setPlayer_beacon_active (p : LampPair) (x : Player) : (s.setPlayer p x).beacon.active = s.beacon.active := (rfl)
@[simp] theorem State.setPlayer_beacon_overrides (p : LampPair) (x : Player) : (s.setPlayer p x).beacon.overrides = s.beacon.overrides := (rfl)
@[simp] theorem State.setPlayer_beacon_lamps (p : LampPair) (x : Player) : (s.setPlayer p x).beacon.lamps = s.beacon.lamps := (rfl)
@[simp] theorem State.setPlayer_beacon_latches (p : LampPair) (x : Player) : (s.setPlayer p x).beacon.latches = s.beacon.latches := (rfl)
@[simp] theorem State.setOverride_beacon_active (p : LampPair) (x : Option Override) : (s.setOverride p x).beacon.active = s.beacon.active := (rfl)
@[simp] theorem State.setOverride_beacon_players (p : LampPair) (x : Option Override) : (s.setOverride p x).beacon.players = s.beacon.players := (rfl)
@[simp] theorem State.setOverride_beacon_lamps (p : LampPair) (x : Option Override) : (s.setOverride p x).beacon.lamps = s.beacon.lamps := (rfl)
@[simp] theorem State.setOverride_beacon_latches (p : LampPair) (x : Option Override) : (s.setOverride p x).beacon.latches = s.beacon.latches := (rfl)
@[simp] theorem State.setLamp_beacon_active (l : Lamp) (x : LampState) : (s.setLamp l x).beacon.active = s.beacon.active := (rfl)
@[simp] theorem State.setLamp_beacon_players (l : Lamp) (x : LampState) : (s.setLamp l x).beacon.players = s.beacon.players := (rfl)
@[simp] theorem State.setLamp_beacon_overrides (l : Lamp) (x : LampState) : (s.setLamp l x).beacon.overrides = s.beacon.overrides := (rfl)
@[simp] theorem State.setLamp_beacon_latches (l : Lamp) (x : LampState) : (s.setLamp l x).beacon.latches = s.beacon.latches := (rfl)
@[simp] theorem State.setLatch_beacon_active (p : LampPair) (x : Bool) : (s.setLatch p x).beacon.active = s.beacon.active := (rfl)
@[simp] theorem State.setLatch_beacon_players (p : LampPair) (x : Bool) : (s.setLatch p x).beacon.players = s.beacon.players := (rfl)
@[simp] theorem State.setLatch_beacon_overrides (p : LampPair) (x : Bool) : (s.setLatch p x).beacon.overrides = s.beacon.overrides := (rfl)
@[simp] theorem State.setLatch_beacon_lamps (p : LampPair) (x : Bool) : (s.setLatch p x).beacon.lamps = s.beacon.lamps := (rfl)

/-! ### Places of tables differ -/

theorem Group_idx_ne {a b : Group} (h : a ≠ b) : a.idx ≠ b.idx := by cases a <;> cases b <;> simp_all [Group.idx]
theorem Axis_idx_ne {a b : Axis} (h : a ≠ b) : a.idx ≠ b.idx := by cases a <;> cases b <;> simp_all [Axis.idx]
theorem LampPair_idx_ne {a b : LampPair} (h : a ≠ b) : a.idx ≠ b.idx := by
  cases a <;> cases b <;> simp_all [LampPair.idx]
theorem Lamp_idx_ne {a b : Lamp} (h : a ≠ b) : a.idx ≠ b.idx := by
  rcases a with (_ | _ | _) | (_ | _ | _) <;> rcases b with (_ | _ | _) | (_ | _ | _) <;> simp_all [Lamp.idx]
theorem Line_idx_ne {a b : Line} (h : a ≠ b) : a.idx ≠ b.idx := by
  rcases a with i | i | (_ | _) | _ | _ <;> rcases b with j | j | (_ | _) | _ | _ <;>
    simp_all [Line.idx, Fin.ext_iff] <;> omega

/-- Reading a place of a table after a write of that place. -/
theorem table_get_set_self {α : Type} {n : Nat} (v : Vector α n) (i : Fin n) (x : α) : (v.set i x)[i] = x := by simp

/-- Reading a place of a table after a write of another. -/
theorem table_get_set_ne {α : Type} {n : Nat} (v : Vector α n) {i j : Fin n} (x : α) (h : i ≠ j) : (v.set i x)[j] = v[j] := by
  have : i.val ≠ j.val := fun e => h (Fin.ext e)
  simp [this]

/-! ### The updated place, and the others -/

@[simp] theorem State.modTracker_tracker_self (a : Axis) (f : Tracker → Tracker) : (s.modTracker a f).tracker a = f (s.tracker a) :=
  table_get_set_self _ _ _
theorem State.modTracker_tracker_ne {a b : Axis} (h : a ≠ b) (f : Tracker → Tracker) : (s.modTracker a f).tracker b = s.tracker b :=
  table_get_set_ne _ _ (Axis_idx_ne h)
@[simp] theorem State.setRun_run_self (a : Group) (r : Option Run) : (s.setRun a r).run? a = r :=
  table_get_set_self _ _ _
theorem State.setRun_run_ne {a b : Group} (h : a ≠ b) (r : Option Run) : (s.setRun a r).run? b = s.run? b :=
  table_get_set_ne _ _ (Group_idx_ne h)
@[simp] theorem State.modCtl_ctl_self (a : Group) (f : GroupCtl → GroupCtl) : (s.modCtl a f).ctl a = f (s.ctl a) :=
  table_get_set_self _ _ _
theorem State.modCtl_ctl_ne {a b : Group} (h : a ≠ b) (f : GroupCtl → GroupCtl) : (s.modCtl a f).ctl b = s.ctl b :=
  table_get_set_ne _ _ (Group_idx_ne h)
@[simp] theorem State.modChan_chan_self (a : Channel) (f : Chan → Chan) : (s.modChan a f).chan a = f (s.chan a) :=
  table_get_set_self _ _ _
theorem State.modChan_chan_ne {a b : Channel} (h : a ≠ b) (f : Chan → Chan) : (s.modChan a f).chan b = s.chan b :=
  table_get_set_ne _ _ h
@[simp] theorem State.modPair_pair_self (a : PairNo) (f : Pair → Pair) : (s.modPair a f).pair a = f (s.pair a) :=
  table_get_set_self _ _ _
theorem State.modPair_pair_ne {a b : PairNo} (h : a ≠ b) (f : Pair → Pair) : (s.modPair a f).pair b = s.pair b :=
  table_get_set_ne _ _ h
@[simp] theorem State.modLine_line_self (a : Line) (f : LineState → LineState) : (s.modLine a f).line a = f (s.line a) :=
  table_get_set_self _ _ _
theorem State.modLine_line_ne {a b : Line} (h : a ≠ b) (f : LineState → LineState) : (s.modLine a f).line b = s.line b :=
  table_get_set_ne _ _ (Line_idx_ne h)
@[simp] theorem State.setHand_hand_self (a : Fin 2) (x : TwoHand) : (s.setHand a x).hand a = x :=
  table_get_set_self _ _ _
theorem State.setHand_hand_ne {a b : Fin 2} (h : a ≠ b) (x : TwoHand) : (s.setHand a x).hand b = s.hand b :=
  table_get_set_ne _ _ h
@[simp] theorem State.setPlayer_player_self (a : LampPair) (x : Player) : (s.setPlayer a x).player a = x :=
  table_get_set_self _ _ _
theorem State.setPlayer_player_ne {a b : LampPair} (h : a ≠ b) (x : Player) : (s.setPlayer a x).player b = s.player b :=
  table_get_set_ne _ _ (LampPair_idx_ne h)
@[simp] theorem State.setOverride_override_self (a : LampPair) (x : Option Override) : (s.setOverride a x).override? a = x :=
  table_get_set_self _ _ _
theorem State.setOverride_override_ne {a b : LampPair} (h : a ≠ b) (x : Option Override) : (s.setOverride a x).override? b = s.override? b :=
  table_get_set_ne _ _ (LampPair_idx_ne h)
@[simp] theorem State.setLamp_lamp_self (a : Lamp) (x : LampState) : (s.setLamp a x).lamp a = x :=
  table_get_set_self _ _ _
theorem State.setLamp_lamp_ne {a b : Lamp} (h : a ≠ b) (x : LampState) : (s.setLamp a x).lamp b = s.lamp b :=
  table_get_set_ne _ _ (Lamp_idx_ne h)
@[simp] theorem State.setLatch_latch_self (a : LampPair) (x : Bool) : (s.setLatch a x).latch a = x :=
  table_get_set_self _ _ _
theorem State.setLatch_latch_ne {a b : LampPair} (h : a ≠ b) (x : Bool) : (s.setLatch a x).latch b = s.latch b :=
  table_get_set_ne _ _ (LampPair_idx_ne h)

/-! ### Outputs, the proving wait, scenes -/

/-- R111, R120: what an output that is on comes from. -/
theorem State.outputOn_iff (c : Channel) :
    s.outputOn c = true ↔
      s.drive.prove.driving = some c ∨ (s.chan c).state ≠ .idle ∧ (10 ≤ c.val ∨ 0 < (s.chan c).onTime) := by
  simp [State.outputOn]

theorem State.outputOn_of_idle {c : Channel} (hd : s.drive.prove.driving ≠ some c) (hi : (s.chan c).state = .idle) :
    s.outputOn c = false := by simp [State.outputOn, hd, hi]

@[simp] theorem Prove.gapOver_none {x : Prove} (h : x.gap = none) : x.gapOver = true := by simp [Prove.gapOver, h, Timer.left]
@[simp] theorem Prove.gapOver_zero {x : Prove} (h : x.gap = some 0) : x.gapOver = true := by simp [Prove.gapOver, h, Timer.left]
@[simp] theorem Prove.gapOver_succ {x : Prove} {n : Nat} (h : x.gap = some (n + 1)) : x.gapOver = false := by
  simp [Prove.gapOver, h, Timer.left]

/-- R150: the entry of a scene never written has priority 1 and claims no pair. -/
theorem State.sceneClaim?_blank {n : Nat} (h : (s.fitment.scenes.toList[n - 1]?).join = none) (p : LampPair) :
    s.sceneClaim? n p = none := by
  have e : s.sceneEntry n = SceneRec.blank := by unfold State.sceneEntry; rw [h]; rfl
  cases p <;> (unfold State.sceneClaim?; rw [e]; rfl)

end Sys2Proof.Machine
end

