-- ==== Sys2Proof/Laws/Finish.lean ====
section
/-! SUPPORT. What the end of an event does (finish): it leaves every block but the link and the Order Table as it is, and of
those two it changes only what State.quiet leaves out. -/

namespace Sys2Proof.Machine

theorem unmarked_unmarked (o : Order) : o.unmarked.unmarked = o.unmarked := rfl

theorem records_markNoticed (s : State) : (markNoticed s).records = s.records := by
  simp only [State.records, markNoticed, List.map_map]
  apply List.map_congr_left
  intro o _
  simp only [Function.comp]
  split <;> rfl

theorem quiet_markNoticed (s : State) : (markNoticed s).quiet = s.quiet := by
  have h := records_markNoticed s
  unfold State.quiet
  rw [h]; rfl

theorem quiet_faultNotice (b a : State) : (faultNotice b a).quiet = a.quiet := by
  unfold faultNotice
  split <;> rfl

theorem quiet_closeRank (s : State) : (closeRank s).quiet = s.quiet := by
  unfold closeRank
  split <;> rfl

/-- An idle transmitter's start of a notice leaves quiet as it is. -/
theorem quiet_transmit_notice (f : Frame) (s : State) (h : s.link.tx = none) :
    (transmit (.notice f) s).quiet = s.quiet := by
  simp only [State.quiet, transmit, State.modLink, State.records, Link.outgoing, h]

theorem quiet_sendNotice (s : State) (h : s.link.tx = none) : (sendNotice s).quiet = s.quiet := by
  unfold sendNotice
  split
  · rw [quiet_transmit_notice _ _ (by simpa [State.modLink] using h)]; rfl
  split
  · rw [quiet_transmit_notice _ _ (by simpa [State.modLink] using h)]; rfl
  split
  · dsimp only
    split
    · rfl
    · rw [quiet_transmit_notice _ _ (by simpa [State.modLink, markNoticed] using h), quiet_markNoticed]; rfl
  · rfl

theorem quiet_kick (s : State) : (kick s).quiet = s.quiet := by
  unfold kick
  split
  · rename_i h
    split
    · rename_i r rest hr
      simp only [State.quiet, transmit, State.modLink, State.records, Link.outgoing, h.2.1, hr]
    · exact quiet_sendNotice s h.2.1
  · rfl

/-- The end of an event changes nothing that quiet keeps. -/
theorem quiet_finish (b a : State) : (finish b a).quiet = a.quiet := by
  unfold finish
  rw [quiet_kick, quiet_closeRank, quiet_faultNotice]

/-- From equal quiet: the blocks that quiet keeps whole are equal. -/
theorem State.quiet_blocks {s t : State} (h : t.quiet = s.quiet) :
    t.pending = s.pending ∧ t.supply = s.supply ∧ t.fitment = s.fitment ∧ t.vehicle = s.vehicle ∧ t.flow = s.flow ∧
      t.trackers = s.trackers ∧ t.runs = s.runs ∧ t.drive = s.drive ∧ t.operator = s.operator ∧ t.beacon = s.beacon ∧
      t.faults = s.faults ∧ t.free = s.free := by
  unfold State.quiet at h
  injection h
  simp_all

/-- From equal quiet: the Order Table's records but for their noticed fields, its counter and its timers are equal. -/
theorem State.quiet_seq {s t : State} (h : t.quiet = s.quiet) :
    t.records = s.records ∧ t.seq.nextNumber = s.seq.nextNumber ∧ t.seq.ctl = s.seq.ctl := by
  unfold State.quiet at h
  injection h with _ _ _ _ h5
  injection h5
  simp_all

/-- From equal quiet: the receiver, the request buffer and the outgoing replies are equal. -/
theorem State.quiet_link {s t : State} (h : t.quiet = s.quiet) :
    t.link.rx = s.link.rx ∧ t.link.gap = s.link.gap ∧ t.link.rxLen = s.link.rxLen ∧ t.link.rxBody = s.link.rxBody ∧
      t.link.rxCheck = s.link.rxCheck ∧ t.link.breakReported = s.link.breakReported ∧ t.link.places = s.link.places ∧
      t.link.outgoing = s.link.outgoing := by
  unfold State.quiet at h
  injection h with _ _ _ h4
  injection h4
  simp_all

/-- From equal quiet: every place of every table is equal. -/
theorem State.quiet_places {s t : State} (h : t.quiet = s.quiet) :
    (∀ a : Axis, t.axisRec? a = s.axisRec? a) ∧ (∀ c : Channel, t.chanRec? c = s.chanRec? c) ∧
      (∀ p : Profile, t.profile? p = s.profile? p) ∧ (∀ g : Group, t.fitted g = s.fitted g) ∧
      (∀ a : Axis, t.tracker a = s.tracker a) ∧ (∀ g : Group, t.run? g = s.run? g) ∧
      (∀ g : Group, t.ctl g = s.ctl g) ∧ (∀ c : Channel, t.chan c = s.chan c) ∧
      (∀ p : PairNo, t.pair p = s.pair p) ∧ (∀ l : Line, t.line l = s.line l) ∧
      (∀ l : Line, t.level l = s.level l) ∧ (∀ h : Fin 2, t.hand h = s.hand h) ∧
      (∀ g : Group, t.isObstructed g = s.isObstructed g) ∧ (∀ p : LampPair, t.player p = s.player p) ∧
      (∀ p : LampPair, t.override? p = s.override? p) ∧ (∀ l : Lamp, t.lamp l = s.lamp l) ∧
      (∀ p : LampPair, t.latch p = s.latch p) := by
  obtain ⟨-, -, h3, -, -, h6, h7, h8, h9, h10, -⟩ := State.quiet_blocks h
  obtain ⟨-, -, h13⟩ := State.quiet_seq h
  simp only [State.axisRec?, State.chanRec?, State.profile?, State.fitted, State.tracker, State.run?, State.ctl, State.chan,
    State.pair, State.line, State.level, State.hand, State.isObstructed, State.player, State.override?, State.lamp,
    State.latch, h3, h6, h7, h8, h9, h10, h13, implies_true, and_self]

/-! ### Commands -/

/-- An event answers its effect, followed by the end of the event. -/
theorem event_next (f : State → State) (s : State) : ∃ t, event f s = .next t ∧ t.quiet = (f s).quiet :=
  ⟨_, rfl, quiet_finish _ _⟩

/-- An event of RUN. -/
theorem runEvent_next (f : State → State) {s : State} (h : s.supply.mode = .run) :
    ∃ t, runEvent f s = .next t ∧ t.quiet = (f s).quiet := by
  unfold runEvent; rw [if_pos h]; exact event_next f s

/-- An event of RUN and HELD. -/
theorem awakeEvent_next (f : State → State) {s : State} (h : s.supply.mode ≠ .standby) :
    ∃ t, awakeEvent f s = .next t ∧ t.quiet = (f s).quiet := by
  unfold awakeEvent; rw [if_neg h]; exact event_next f s

/-- A request that is answered. -/
theorem request_next (k : ReqKind) (tag : Byte) (f : State → State × Reply) {s : State} (h : s.answers) :
    ∃ t, request k tag f s = .next t ∧ t.quiet = (queueReply false k.code tag (f s).2 (f s).1).quiet := by
  unfold request; rw [if_pos (show s.supply.mode = .run ∧ s.supply.standby = .none from h)]; exact event_next _ s

/-- R186: the reply path after a DONE. -/
theorem queueReply_done (k tag : Byte) (p : List Byte) (s : State) :
    queueReply false k tag (.done p) s = s.doneReply k tag p := rfl

/-- R186: the reply path after a REFUSED. -/
theorem queueReply_refused (k tag : Byte) (w : Why) (d1 d2 d3 : Nat) (s : State) :
    queueReply false k tag (.refused w d1 d2 d3) s =
      s.refusedReply k tag (BitVec.ofNat 8 w.code) (BitVec.ofNat 8 d1) (BitVec.ofNat 8 d2) (BitVec.ofNat 8 d3) := rfl

/-- A request that its owner answers DONE. -/
theorem request_done (k : ReqKind) (tag : Byte) (f : State → State × Reply) {s s' : State} {p : List Byte} (h : s.answers)
    (hf : f s = (s', .done p)) : ∃ t, request k tag f s = .next t ∧ t.quiet = (s'.doneReply k.code tag p).quiet := by
  obtain ⟨t, h1, h2⟩ := request_next k tag f h
  exact ⟨t, h1, by rw [h2, hf]; rfl⟩

/-- A request that its owner refuses. -/
theorem request_refused (k : ReqKind) (tag : Byte) (f : State → State × Reply) {s s' : State} {w : Why} {d1 d2 d3 : Nat}
    (h : s.answers) (hf : f s = (s', .refused w d1 d2 d3)) :
    ∃ t, request k tag f s = .next t ∧
      t.quiet =
        (s'.refusedReply k.code tag (BitVec.ofNat 8 w.code) (BitVec.ofNat 8 d1) (BitVec.ofNat 8 d2)
          (BitVec.ofNat 8 d3)).quiet := by
  obtain ⟨t, h1, h2⟩ := request_next k tag f h
  exact ⟨t, h1, by rw [h2, hf]; rfl⟩

end Sys2Proof.Machine
end

