-- ==== Sys2Proof/Laws/Frames.lean ====
section
/-! SUPPORT. The frame of each shared operation: the blocks of the state that it leaves as they were, said once for each. -/

namespace Sys2Proof.Machine

@[simp] theorem latch_frame (code : FaultCode) (x : Subject) (s : State) :
    (latch code x s).pending = s.pending ∧ (latch code x s).supply = s.supply ∧ (latch code x s).fitment = s.fitment ∧
    (latch code x s).link = s.link ∧ (latch code x s).seq = s.seq ∧ (latch code x s).vehicle = s.vehicle ∧
    (latch code x s).flow = s.flow ∧ (latch code x s).trackers = s.trackers ∧ (latch code x s).runs = s.runs ∧
    (latch code x s).drive = s.drive ∧ (latch code x s).operator = s.operator ∧ (latch code x s).beacon = s.beacon ∧
    (latch code x s).free = s.free := by
  simp [latch]

@[simp] theorem raise_frame (code : FaultCode) (x : Subject) (s : State) :
    (raise code x s).pending = s.pending ∧ (raise code x s).supply = s.supply ∧ (raise code x s).fitment = s.fitment ∧
    (raise code x s).seq = s.seq ∧ (raise code x s).vehicle = s.vehicle ∧ (raise code x s).flow = s.flow ∧
    (raise code x s).trackers = s.trackers ∧ (raise code x s).runs = s.runs ∧ (raise code x s).drive = s.drive ∧
    (raise code x s).operator = s.operator ∧ (raise code x s).beacon = s.beacon ∧ (raise code x s).free = s.free := by
  unfold raise; dsimp only; split <;> simp

@[simp] theorem raiseOnce_frame (code : FaultCode) (x : Subject) (s : State) :
    (raiseOnce code x s).pending = s.pending ∧ (raiseOnce code x s).supply = s.supply ∧ (raiseOnce code x s).fitment = s.fitment ∧
    (raiseOnce code x s).seq = s.seq ∧ (raiseOnce code x s).vehicle = s.vehicle ∧ (raiseOnce code x s).flow = s.flow ∧
    (raiseOnce code x s).trackers = s.trackers ∧ (raiseOnce code x s).runs = s.runs ∧ (raiseOnce code x s).drive = s.drive ∧
    (raiseOnce code x s).operator = s.operator ∧ (raiseOnce code x s).beacon = s.beacon ∧ (raiseOnce code x s).free = s.free := by
  simp [raiseOnce]

@[simp] theorem removeFaults_frame (q : Entry → Bool) (s : State) :
    (removeFaults q s).pending = s.pending ∧ (removeFaults q s).supply = s.supply ∧ (removeFaults q s).fitment = s.fitment ∧
    (removeFaults q s).seq = s.seq ∧ (removeFaults q s).vehicle = s.vehicle ∧ (removeFaults q s).flow = s.flow ∧
    (removeFaults q s).trackers = s.trackers ∧ (removeFaults q s).runs = s.runs ∧ (removeFaults q s).drive = s.drive ∧
    (removeFaults q s).operator = s.operator ∧ (removeFaults q s).beacon = s.beacon ∧ (removeFaults q s).free = s.free := by
  unfold removeFaults; dsimp only; split <;> simp

@[simp] theorem startDead_frame (p : PairNo) (m : Option Member) (s : State) :
    (startDead p m s).pending = s.pending ∧ (startDead p m s).supply = s.supply ∧ (startDead p m s).fitment = s.fitment ∧
    (startDead p m s).link = s.link ∧ (startDead p m s).seq = s.seq ∧ (startDead p m s).vehicle = s.vehicle ∧
    (startDead p m s).flow = s.flow ∧ (startDead p m s).trackers = s.trackers ∧ (startDead p m s).runs = s.runs ∧
    (startDead p m s).operator = s.operator ∧ (startDead p m s).beacon = s.beacon ∧ (startDead p m s).faults = s.faults := by
  unfold startDead; (repeat' split) <;> simp

@[simp] theorem clearWaiting_frame (p : PairNo) (m : Member) (s : State) :
    (clearWaiting p m s).pending = s.pending ∧ (clearWaiting p m s).supply = s.supply ∧ (clearWaiting p m s).fitment = s.fitment ∧
    (clearWaiting p m s).link = s.link ∧ (clearWaiting p m s).seq = s.seq ∧ (clearWaiting p m s).vehicle = s.vehicle ∧
    (clearWaiting p m s).flow = s.flow ∧ (clearWaiting p m s).trackers = s.trackers ∧ (clearWaiting p m s).runs = s.runs ∧
    (clearWaiting p m s).operator = s.operator ∧ (clearWaiting p m s).beacon = s.beacon ∧ (clearWaiting p m s).faults = s.faults ∧
    (clearWaiting p m s).free = s.free := by
  simp [clearWaiting]

@[simp] theorem holdCommand_frame (p : PairNo) (m : Member) (o : Nat) (s : State) :
    (holdCommand p m o s).pending = s.pending ∧ (holdCommand p m o s).supply = s.supply ∧ (holdCommand p m o s).fitment = s.fitment ∧
    (holdCommand p m o s).link = s.link ∧ (holdCommand p m o s).seq = s.seq ∧ (holdCommand p m o s).vehicle = s.vehicle ∧
    (holdCommand p m o s).flow = s.flow ∧ (holdCommand p m o s).trackers = s.trackers ∧ (holdCommand p m o s).runs = s.runs ∧
    (holdCommand p m o s).operator = s.operator ∧ (holdCommand p m o s).beacon = s.beacon ∧ (holdCommand p m o s).faults = s.faults ∧
    (holdCommand p m o s).free = s.free := by
  simp [holdCommand]

@[simp] theorem startChannel_frame (c : Channel) (o : Nat) (s : State) :
    (startChannel c o s).pending = s.pending ∧ (startChannel c o s).supply = s.supply ∧ (startChannel c o s).fitment = s.fitment ∧
    (startChannel c o s).link = s.link ∧ (startChannel c o s).seq = s.seq ∧ (startChannel c o s).vehicle = s.vehicle ∧
    (startChannel c o s).flow = s.flow ∧ (startChannel c o s).trackers = s.trackers ∧ (startChannel c o s).runs = s.runs ∧
    (startChannel c o s).operator = s.operator ∧ (startChannel c o s).beacon = s.beacon ∧ (startChannel c o s).faults = s.faults ∧
    (startChannel c o s).free = s.free := by
  simp [startChannel]

@[simp] theorem commandIdle_frame (p : PairNo) (m : Member) (o : Nat) (s : State) :
    (commandIdle p m o s).pending = s.pending ∧ (commandIdle p m o s).supply = s.supply ∧ (commandIdle p m o s).fitment = s.fitment ∧
    (commandIdle p m o s).link = s.link ∧ (commandIdle p m o s).seq = s.seq ∧ (commandIdle p m o s).vehicle = s.vehicle ∧
    (commandIdle p m o s).flow = s.flow ∧ (commandIdle p m o s).trackers = s.trackers ∧ (commandIdle p m o s).runs = s.runs ∧
    (commandIdle p m o s).operator = s.operator ∧ (commandIdle p m o s).beacon = s.beacon ∧ (commandIdle p m o s).faults = s.faults ∧
    (commandIdle p m o s).free = s.free := by
  unfold commandIdle; dsimp only; (repeat' split) <;> simp

@[simp] theorem command_frame (p : PairNo) (m : Member) (o : Nat) (s : State) :
    (command p m o s).pending = s.pending ∧ (command p m o s).supply = s.supply ∧ (command p m o s).fitment = s.fitment ∧
    (command p m o s).link = s.link ∧ (command p m o s).seq = s.seq ∧ (command p m o s).vehicle = s.vehicle ∧
    (command p m o s).flow = s.flow ∧ (command p m o s).trackers = s.trackers ∧ (command p m o s).runs = s.runs ∧
    (command p m o s).operator = s.operator ∧ (command p m o s).beacon = s.beacon ∧ (command p m o s).faults = s.faults ∧
    (command p m o s).free = s.free := by
  unfold command; dsimp only; (repeat' split) <;> simp

@[simp] theorem demandCommand_frame (c : Channel) (f : Nat) (s : State) :
    (demandCommand c f s).pending = s.pending ∧ (demandCommand c f s).supply = s.supply ∧ (demandCommand c f s).fitment = s.fitment ∧
    (demandCommand c f s).link = s.link ∧ (demandCommand c f s).seq = s.seq ∧ (demandCommand c f s).vehicle = s.vehicle ∧
    (demandCommand c f s).flow = s.flow ∧ (demandCommand c f s).trackers = s.trackers ∧ (demandCommand c f s).runs = s.runs ∧
    (demandCommand c f s).operator = s.operator ∧ (demandCommand c f s).beacon = s.beacon ∧ (demandCommand c f s).faults = s.faults ∧
    (demandCommand c f s).free = s.free := by
  unfold demandCommand; (repeat' split) <;> simp

@[simp] theorem normalEnd_frame (c : Channel) (s : State) :
    (normalEnd c s).pending = s.pending ∧ (normalEnd c s).supply = s.supply ∧ (normalEnd c s).fitment = s.fitment ∧
    (normalEnd c s).link = s.link ∧ (normalEnd c s).seq = s.seq ∧ (normalEnd c s).vehicle = s.vehicle ∧
    (normalEnd c s).flow = s.flow ∧ (normalEnd c s).trackers = s.trackers ∧ (normalEnd c s).runs = s.runs ∧
    (normalEnd c s).operator = s.operator ∧ (normalEnd c s).beacon = s.beacon := by
  unfold normalEnd; dsimp only; split <;> simp

@[simp] theorem release_frame (c : Channel) (s : State) :
    (release c s).pending = s.pending ∧ (release c s).supply = s.supply ∧ (release c s).fitment = s.fitment ∧
    (release c s).link = s.link ∧ (release c s).seq = s.seq ∧ (release c s).vehicle = s.vehicle ∧
    (release c s).flow = s.flow ∧ (release c s).trackers = s.trackers ∧ (release c s).runs = s.runs ∧
    (release c s).operator = s.operator ∧ (release c s).beacon = s.beacon := by
  unfold release; dsimp only; split <;> simp

@[simp] theorem releaseAll_frame (cs : List Channel) (s : State) :
    (releaseAll cs s).pending = s.pending ∧ (releaseAll cs s).supply = s.supply ∧ (releaseAll cs s).fitment = s.fitment ∧
    (releaseAll cs s).link = s.link ∧ (releaseAll cs s).seq = s.seq ∧ (releaseAll cs s).vehicle = s.vehicle ∧
    (releaseAll cs s).flow = s.flow ∧ (releaseAll cs s).trackers = s.trackers ∧ (releaseAll cs s).runs = s.runs ∧
    (releaseAll cs s).operator = s.operator ∧ (releaseAll cs s).beacon = s.beacon := by
  induction cs generalizing s with
  | nil => simp [releaseAll]
  | cons c cs ih => simpa [releaseAll] using ih (release c s)

@[simp] theorem boundary_frame (c : Channel) (s : State) :
    (boundary c s).pending = s.pending ∧ (boundary c s).supply = s.supply ∧ (boundary c s).fitment = s.fitment ∧
    (boundary c s).link = s.link ∧ (boundary c s).seq = s.seq ∧ (boundary c s).vehicle = s.vehicle ∧
    (boundary c s).flow = s.flow ∧ (boundary c s).trackers = s.trackers ∧ (boundary c s).runs = s.runs ∧
    (boundary c s).operator = s.operator ∧ (boundary c s).beacon = s.beacon := by
  unfold boundary; dsimp only; split <;> simp

@[simp] theorem deadExpiry_frame (p : PairNo) (s : State) :
    (deadExpiry p s).pending = s.pending ∧ (deadExpiry p s).supply = s.supply ∧ (deadExpiry p s).fitment = s.fitment ∧
    (deadExpiry p s).link = s.link ∧ (deadExpiry p s).seq = s.seq ∧ (deadExpiry p s).vehicle = s.vehicle ∧
    (deadExpiry p s).flow = s.flow ∧ (deadExpiry p s).trackers = s.trackers ∧ (deadExpiry p s).runs = s.runs ∧
    (deadExpiry p s).operator = s.operator ∧ (deadExpiry p s).beacon = s.beacon ∧ (deadExpiry p s).faults = s.faults ∧
    (deadExpiry p s).free = s.free := by
  unfold deadExpiry; dsimp only; (repeat' split) <;> simp

@[simp] theorem pulseRequest_frame (d : Side) (o : Nat) (s : State) :
    (pulseRequest d o s).pending = s.pending ∧ (pulseRequest d o s).supply = s.supply ∧ (pulseRequest d o s).fitment = s.fitment ∧
    (pulseRequest d o s).link = s.link ∧ (pulseRequest d o s).seq = s.seq ∧ (pulseRequest d o s).vehicle = s.vehicle ∧
    (pulseRequest d o s).flow = s.flow ∧ (pulseRequest d o s).trackers = s.trackers ∧ (pulseRequest d o s).runs = s.runs ∧
    (pulseRequest d o s).operator = s.operator ∧ (pulseRequest d o s).beacon = s.beacon ∧ (pulseRequest d o s).faults = s.faults ∧
    (pulseRequest d o s).free = s.free := by
  unfold pulseRequest; (repeat' split) <;> simp

@[simp] theorem abandonProve_frame (s : State) :
    (abandonProve s).pending = s.pending ∧ (abandonProve s).supply = s.supply ∧ (abandonProve s).fitment = s.fitment ∧
    (abandonProve s).link = s.link ∧ (abandonProve s).seq = s.seq ∧ (abandonProve s).vehicle = s.vehicle ∧
    (abandonProve s).flow = s.flow ∧ (abandonProve s).trackers = s.trackers ∧ (abandonProve s).runs = s.runs ∧
    (abandonProve s).operator = s.operator ∧ (abandonProve s).beacon = s.beacon ∧ (abandonProve s).faults = s.faults ∧
    (abandonProve s).free = s.free := by
  unfold abandonProve; (repeat' split) <;> simp

@[simp] theorem tryGrant_frame (s : State) :
    (tryGrant s).1.pending = s.pending ∧ (tryGrant s).1.supply = s.supply ∧ (tryGrant s).1.fitment = s.fitment ∧
    (tryGrant s).1.link = s.link ∧ (tryGrant s).1.seq = s.seq ∧ (tryGrant s).1.vehicle = s.vehicle ∧
    (tryGrant s).1.trackers = s.trackers ∧ (tryGrant s).1.runs = s.runs ∧ (tryGrant s).1.drive = s.drive ∧
    (tryGrant s).1.operator = s.operator ∧ (tryGrant s).1.beacon = s.beacon ∧ (tryGrant s).1.faults = s.faults ∧
    (tryGrant s).1.free = s.free := by
  unfold tryGrant; dsimp only; (repeat' split) <;> simp

@[simp] theorem pumpOff_frame (s : State) :
    (pumpOff s).pending = s.pending ∧ (pumpOff s).supply = s.supply ∧ (pumpOff s).fitment = s.fitment ∧
    (pumpOff s).link = s.link ∧ (pumpOff s).seq = s.seq ∧ (pumpOff s).vehicle = s.vehicle ∧
    (pumpOff s).trackers = s.trackers ∧ (pumpOff s).runs = s.runs ∧ (pumpOff s).drive = s.drive ∧
    (pumpOff s).operator = s.operator ∧ (pumpOff s).beacon = s.beacon ∧ (pumpOff s).faults = s.faults ∧
    (pumpOff s).free = s.free := by
  unfold pumpOff; (repeat' split) <;> simp

@[simp] theorem enterRunOn_frame (s : State) :
    (enterRunOn s).pending = s.pending ∧ (enterRunOn s).supply = s.supply ∧ (enterRunOn s).fitment = s.fitment ∧
    (enterRunOn s).link = s.link ∧ (enterRunOn s).seq = s.seq ∧ (enterRunOn s).vehicle = s.vehicle ∧
    (enterRunOn s).trackers = s.trackers ∧ (enterRunOn s).runs = s.runs ∧ (enterRunOn s).drive = s.drive ∧
    (enterRunOn s).operator = s.operator ∧ (enterRunOn s).beacon = s.beacon ∧ (enterRunOn s).faults = s.faults ∧
    (enterRunOn s).free = s.free := by
  unfold enterRunOn; dsimp only; split <;> simp

@[simp] theorem withdrawClaim_frame (n : Nat) (s : State) :
    (withdrawClaim n s).1.pending = s.pending ∧ (withdrawClaim n s).1.supply = s.supply ∧ (withdrawClaim n s).1.fitment = s.fitment ∧
    (withdrawClaim n s).1.link = s.link ∧ (withdrawClaim n s).1.seq = s.seq ∧ (withdrawClaim n s).1.vehicle = s.vehicle ∧
    (withdrawClaim n s).1.trackers = s.trackers ∧ (withdrawClaim n s).1.runs = s.runs ∧ (withdrawClaim n s).1.drive = s.drive ∧
    (withdrawClaim n s).1.operator = s.operator ∧ (withdrawClaim n s).1.beacon = s.beacon ∧ (withdrawClaim n s).1.faults = s.faults ∧
    (withdrawClaim n s).1.free = s.free := by
  unfold withdrawClaim; dsimp only; (repeat' split) <;> simp

@[simp] theorem enterClaim_frame (g : Group) (n : Nat) (c : MoveClass) (s : State) :
    (enterClaim g n c s).pending = s.pending ∧ (enterClaim g n c s).supply = s.supply ∧ (enterClaim g n c s).fitment = s.fitment ∧
    (enterClaim g n c s).link = s.link ∧ (enterClaim g n c s).seq = s.seq ∧ (enterClaim g n c s).vehicle = s.vehicle ∧
    (enterClaim g n c s).trackers = s.trackers ∧ (enterClaim g n c s).runs = s.runs ∧ (enterClaim g n c s).drive = s.drive ∧
    (enterClaim g n c s).operator = s.operator ∧ (enterClaim g n c s).beacon = s.beacon ∧ (enterClaim g n c s).faults = s.faults ∧
    (enterClaim g n c s).free = s.free := by
  unfold enterClaim; (repeat' split) <;> simp

@[simp] theorem recomputeCapacity_frame (s : State) :
    (recomputeCapacity s).pending = s.pending ∧ (recomputeCapacity s).supply = s.supply ∧ (recomputeCapacity s).fitment = s.fitment ∧
    (recomputeCapacity s).link = s.link ∧ (recomputeCapacity s).seq = s.seq ∧ (recomputeCapacity s).vehicle = s.vehicle ∧
    (recomputeCapacity s).trackers = s.trackers ∧ (recomputeCapacity s).runs = s.runs ∧ (recomputeCapacity s).drive = s.drive ∧
    (recomputeCapacity s).operator = s.operator ∧ (recomputeCapacity s).beacon = s.beacon ∧ (recomputeCapacity s).faults = s.faults ∧
    (recomputeCapacity s).free = s.free := by
  simp [recomputeCapacity]

@[simp] theorem emptyFlow_frame (s : State) :
    (emptyFlow s).pending = s.pending ∧ (emptyFlow s).supply = s.supply ∧ (emptyFlow s).fitment = s.fitment ∧
    (emptyFlow s).link = s.link ∧ (emptyFlow s).seq = s.seq ∧ (emptyFlow s).vehicle = s.vehicle ∧
    (emptyFlow s).trackers = s.trackers ∧ (emptyFlow s).runs = s.runs ∧ (emptyFlow s).drive = s.drive ∧
    (emptyFlow s).operator = s.operator ∧ (emptyFlow s).beacon = s.beacon ∧ (emptyFlow s).faults = s.faults ∧
    (emptyFlow s).free = s.free := by
  simp [emptyFlow]

@[simp] theorem liftCut_frame (l : Lamp) (s : State) :
    (liftCut l s).pending = s.pending ∧ (liftCut l s).supply = s.supply ∧ (liftCut l s).fitment = s.fitment ∧
    (liftCut l s).link = s.link ∧ (liftCut l s).seq = s.seq ∧ (liftCut l s).vehicle = s.vehicle ∧
    (liftCut l s).flow = s.flow ∧ (liftCut l s).trackers = s.trackers ∧ (liftCut l s).runs = s.runs ∧
    (liftCut l s).drive = s.drive ∧ (liftCut l s).operator = s.operator ∧ (liftCut l s).faults = s.faults ∧
    (liftCut l s).free = s.free := by
  unfold liftCut; (repeat' split) <;> simp

@[simp] theorem startChanged_frame (p : LampPair) (sel : Selection) (s : State) :
    (startChanged p sel s).pending = s.pending ∧ (startChanged p sel s).supply = s.supply ∧ (startChanged p sel s).fitment = s.fitment ∧
    (startChanged p sel s).link = s.link ∧ (startChanged p sel s).seq = s.seq ∧ (startChanged p sel s).vehicle = s.vehicle ∧
    (startChanged p sel s).flow = s.flow ∧ (startChanged p sel s).trackers = s.trackers ∧ (startChanged p sel s).runs = s.runs ∧
    (startChanged p sel s).drive = s.drive ∧ (startChanged p sel s).operator = s.operator ∧ (startChanged p sel s).faults = s.faults ∧
    (startChanged p sel s).free = s.free := by
  unfold startChanged; dsimp only; split <;> simp

@[simp] theorem rederive_frame (b : Bool) (p : LampPair) (s : State) :
    (rederive b p s).pending = s.pending ∧ (rederive b p s).supply = s.supply ∧ (rederive b p s).fitment = s.fitment ∧
    (rederive b p s).link = s.link ∧ (rederive b p s).seq = s.seq ∧ (rederive b p s).vehicle = s.vehicle ∧
    (rederive b p s).flow = s.flow ∧ (rederive b p s).trackers = s.trackers ∧ (rederive b p s).runs = s.runs ∧
    (rederive b p s).drive = s.drive ∧ (rederive b p s).operator = s.operator ∧ (rederive b p s).faults = s.faults ∧
    (rederive b p s).free = s.free := by
  unfold rederive; dsimp only; (repeat' split) <;> simp

@[simp] theorem rederiveAll_frame (b : Bool) (s : State) :
    (rederiveAll b s).pending = s.pending ∧ (rederiveAll b s).supply = s.supply ∧ (rederiveAll b s).fitment = s.fitment ∧
    (rederiveAll b s).link = s.link ∧ (rederiveAll b s).seq = s.seq ∧ (rederiveAll b s).vehicle = s.vehicle ∧
    (rederiveAll b s).flow = s.flow ∧ (rederiveAll b s).trackers = s.trackers ∧ (rederiveAll b s).runs = s.runs ∧
    (rederiveAll b s).drive = s.drive ∧ (rederiveAll b s).operator = s.operator ∧ (rederiveAll b s).faults = s.faults ∧
    (rederiveAll b s).free = s.free := by
  unfold rederiveAll; split <;> simp [LampPair.all]

@[simp] theorem reportScene_frame (i : Fin 8) (v : Bool) (s : State) :
    (reportScene i v s).pending = s.pending ∧ (reportScene i v s).supply = s.supply ∧ (reportScene i v s).fitment = s.fitment ∧
    (reportScene i v s).link = s.link ∧ (reportScene i v s).seq = s.seq ∧ (reportScene i v s).vehicle = s.vehicle ∧
    (reportScene i v s).flow = s.flow ∧ (reportScene i v s).trackers = s.trackers ∧ (reportScene i v s).runs = s.runs ∧
    (reportScene i v s).drive = s.drive ∧ (reportScene i v s).operator = s.operator ∧ (reportScene i v s).faults = s.faults ∧
    (reportScene i v s).free = s.free := by
  unfold reportScene; (repeat' split) <;> simp

@[simp] theorem reportMoving_frame (s : State) :
    (reportMoving s).pending = s.pending ∧ (reportMoving s).supply = s.supply ∧ (reportMoving s).fitment = s.fitment ∧
    (reportMoving s).link = s.link ∧ (reportMoving s).seq = s.seq ∧ (reportMoving s).vehicle = s.vehicle ∧
    (reportMoving s).flow = s.flow ∧ (reportMoving s).trackers = s.trackers ∧ (reportMoving s).runs = s.runs ∧
    (reportMoving s).drive = s.drive ∧ (reportMoving s).operator = s.operator ∧ (reportMoving s).faults = s.faults ∧
    (reportMoving s).free = s.free := by
  simp [reportMoving]

@[simp] theorem reportFaultScene_frame (s : State) :
    (reportFaultScene s).pending = s.pending ∧ (reportFaultScene s).supply = s.supply ∧ (reportFaultScene s).fitment = s.fitment ∧
    (reportFaultScene s).link = s.link ∧ (reportFaultScene s).seq = s.seq ∧ (reportFaultScene s).vehicle = s.vehicle ∧
    (reportFaultScene s).flow = s.flow ∧ (reportFaultScene s).trackers = s.trackers ∧ (reportFaultScene s).runs = s.runs ∧
    (reportFaultScene s).drive = s.drive ∧ (reportFaultScene s).operator = s.operator ∧ (reportFaultScene s).faults = s.faults ∧
    (reportFaultScene s).free = s.free := by
  simp [reportFaultScene]

@[simp] theorem reportStopScene_frame (s : State) :
    (reportStopScene s).pending = s.pending ∧ (reportStopScene s).supply = s.supply ∧ (reportStopScene s).fitment = s.fitment ∧
    (reportStopScene s).link = s.link ∧ (reportStopScene s).seq = s.seq ∧ (reportStopScene s).vehicle = s.vehicle ∧
    (reportStopScene s).flow = s.flow ∧ (reportStopScene s).trackers = s.trackers ∧ (reportStopScene s).runs = s.runs ∧
    (reportStopScene s).drive = s.drive ∧ (reportStopScene s).operator = s.operator ∧ (reportStopScene s).faults = s.faults ∧
    (reportStopScene s).free = s.free := by
  simp [reportStopScene]

@[simp] theorem reportWindows_frame (s : State) :
    (reportWindows s).pending = s.pending ∧ (reportWindows s).supply = s.supply ∧ (reportWindows s).fitment = s.fitment ∧
    (reportWindows s).link = s.link ∧ (reportWindows s).seq = s.seq ∧ (reportWindows s).vehicle = s.vehicle ∧
    (reportWindows s).flow = s.flow ∧ (reportWindows s).trackers = s.trackers ∧ (reportWindows s).runs = s.runs ∧
    (reportWindows s).drive = s.drive ∧ (reportWindows s).operator = s.operator ∧ (reportWindows s).faults = s.faults ∧
    (reportWindows s).free = s.free := by
  simp [reportWindows]

@[simp] theorem stepExpiry_frame (p : LampPair) (s : State) :
    (stepExpiry p s).pending = s.pending ∧ (stepExpiry p s).supply = s.supply ∧ (stepExpiry p s).fitment = s.fitment ∧
    (stepExpiry p s).link = s.link ∧ (stepExpiry p s).seq = s.seq ∧ (stepExpiry p s).vehicle = s.vehicle ∧
    (stepExpiry p s).flow = s.flow ∧ (stepExpiry p s).trackers = s.trackers ∧ (stepExpiry p s).runs = s.runs ∧
    (stepExpiry p s).drive = s.drive ∧ (stepExpiry p s).operator = s.operator ∧ (stepExpiry p s).faults = s.faults ∧
    (stepExpiry p s).free = s.free := by
  unfold stepExpiry; dsimp only; (repeat' split) <;> simp

@[simp] theorem adoptPattern_frame (n : Nat) (s : State) :
    (adoptPattern n s).pending = s.pending ∧ (adoptPattern n s).supply = s.supply ∧ (adoptPattern n s).fitment = s.fitment ∧
    (adoptPattern n s).link = s.link ∧ (adoptPattern n s).seq = s.seq ∧ (adoptPattern n s).vehicle = s.vehicle ∧
    (adoptPattern n s).flow = s.flow ∧ (adoptPattern n s).trackers = s.trackers ∧ (adoptPattern n s).runs = s.runs ∧
    (adoptPattern n s).drive = s.drive ∧ (adoptPattern n s).operator = s.operator ∧ (adoptPattern n s).faults = s.faults ∧
    (adoptPattern n s).free = s.free := by
  unfold adoptPattern; simp only [LampPair.all, List.foldl_cons, List.foldl_nil]; (repeat' split) <;> simp

@[simp] theorem setOrder_frame (n : Nat) (f : Order → Order) (s : State) :
    (setOrder n f s).pending = s.pending ∧ (setOrder n f s).supply = s.supply ∧ (setOrder n f s).fitment = s.fitment ∧
    (setOrder n f s).link = s.link ∧ (setOrder n f s).vehicle = s.vehicle ∧ (setOrder n f s).flow = s.flow ∧
    (setOrder n f s).trackers = s.trackers ∧ (setOrder n f s).runs = s.runs ∧ (setOrder n f s).drive = s.drive ∧
    (setOrder n f s).operator = s.operator ∧ (setOrder n f s).faults = s.faults ∧ (setOrder n f s).free = s.free := by
  simp [setOrder]

@[simp] theorem endRun_frame (g : Group) (s : State) :
    (endRun g s).pending = s.pending ∧ (endRun g s).supply = s.supply ∧ (endRun g s).fitment = s.fitment ∧
    (endRun g s).link = s.link ∧ (endRun g s).seq = s.seq ∧ (endRun g s).vehicle = s.vehicle ∧
    (endRun g s).flow = s.flow ∧ (endRun g s).trackers = s.trackers ∧ (endRun g s).drive = s.drive ∧
    (endRun g s).operator = s.operator ∧ (endRun g s).beacon = s.beacon ∧ (endRun g s).free = s.free := by
  unfold endRun; (repeat' split) <;> simp

@[simp] theorem beginRun_frame (o : Order) (p : Phase) (c : MoveClass) (n : Nat) (s : State) :
    (beginRun o p c n s).pending = s.pending ∧ (beginRun o p c n s).supply = s.supply ∧ (beginRun o p c n s).fitment = s.fitment ∧
    (beginRun o p c n s).link = s.link ∧ (beginRun o p c n s).seq = s.seq ∧ (beginRun o p c n s).vehicle = s.vehicle ∧
    (beginRun o p c n s).flow = s.flow ∧ (beginRun o p c n s).trackers = s.trackers ∧ (beginRun o p c n s).drive = s.drive ∧
    (beginRun o p c n s).operator = s.operator ∧ (beginRun o p c n s).beacon = s.beacon ∧ (beginRun o p c n s).faults = s.faults ∧
    (beginRun o p c n s).free = s.free := by
  simp [beginRun]

@[simp] theorem stopTimers_frame (g : Group) (s : State) :
    (stopTimers g s).pending = s.pending ∧ (stopTimers g s).supply = s.supply ∧ (stopTimers g s).fitment = s.fitment ∧
    (stopTimers g s).link = s.link ∧ (stopTimers g s).vehicle = s.vehicle ∧ (stopTimers g s).flow = s.flow ∧
    (stopTimers g s).trackers = s.trackers ∧ (stopTimers g s).runs = s.runs ∧ (stopTimers g s).drive = s.drive ∧
    (stopTimers g s).operator = s.operator ∧ (stopTimers g s).beacon = s.beacon ∧ (stopTimers g s).faults = s.faults ∧
    (stopTimers g s).free = s.free := by
  simp [stopTimers]

@[simp] theorem recordParked_frame (a : Axis) (s : State) :
    (recordParked a s).pending = s.pending ∧ (recordParked a s).supply = s.supply ∧ (recordParked a s).fitment = s.fitment ∧
    (recordParked a s).link = s.link ∧ (recordParked a s).seq = s.seq ∧ (recordParked a s).vehicle = s.vehicle ∧
    (recordParked a s).flow = s.flow ∧ (recordParked a s).runs = s.runs ∧ (recordParked a s).drive = s.drive ∧
    (recordParked a s).operator = s.operator ∧ (recordParked a s).beacon = s.beacon ∧ (recordParked a s).faults = s.faults ∧
    (recordParked a s).free = s.free := by
  simp [recordParked]

@[simp] theorem becomeIdle_frame (g : Group) (s : State) :
    (becomeIdle g s).pending = s.pending ∧ (becomeIdle g s).supply = s.supply ∧ (becomeIdle g s).fitment = s.fitment ∧
    (becomeIdle g s).link = s.link ∧ (becomeIdle g s).seq = s.seq ∧ (becomeIdle g s).vehicle = s.vehicle ∧
    (becomeIdle g s).flow = s.flow ∧ (becomeIdle g s).runs = s.runs ∧ (becomeIdle g s).drive = s.drive ∧
    (becomeIdle g s).operator = s.operator ∧ (becomeIdle g s).beacon = s.beacon ∧ (becomeIdle g s).faults = s.faults ∧
    (becomeIdle g s).free = s.free := by
  cases g <;> simp [becomeIdle, Group.axes]

@[simp] theorem ceaseIdle_frame (g : Group) (s : State) :
    (ceaseIdle g s).pending = s.pending ∧ (ceaseIdle g s).supply = s.supply ∧ (ceaseIdle g s).fitment = s.fitment ∧
    (ceaseIdle g s).link = s.link ∧ (ceaseIdle g s).seq = s.seq ∧ (ceaseIdle g s).vehicle = s.vehicle ∧
    (ceaseIdle g s).flow = s.flow ∧ (ceaseIdle g s).runs = s.runs ∧ (ceaseIdle g s).drive = s.drive ∧
    (ceaseIdle g s).operator = s.operator ∧ (ceaseIdle g s).beacon = s.beacon ∧ (ceaseIdle g s).faults = s.faults ∧
    (ceaseIdle g s).free = s.free := by
  cases g <;> simp [ceaseIdle, Group.axes]

@[simp] theorem onReady_frame (n : Nat) (k : Nat) (s : State) :
    (onReady n k s).pending = s.pending ∧ (onReady n k s).supply = s.supply ∧ (onReady n k s).fitment = s.fitment ∧
    (onReady n k s).link = s.link ∧ (onReady n k s).vehicle = s.vehicle ∧ (onReady n k s).flow = s.flow ∧
    (onReady n k s).trackers = s.trackers ∧ (onReady n k s).drive = s.drive ∧ (onReady n k s).operator = s.operator ∧
    (onReady n k s).faults = s.faults ∧ (onReady n k s).free = s.free := by
  unfold onReady; (repeat' split) <;> simp

@[simp] theorem reportReady_frame (r : State × List (Nat × Nat)) :
    (reportReady r).pending = r.1.pending ∧ (reportReady r).supply = r.1.supply ∧ (reportReady r).fitment = r.1.fitment ∧
    (reportReady r).link = r.1.link ∧ (reportReady r).vehicle = r.1.vehicle ∧ (reportReady r).flow = r.1.flow ∧
    (reportReady r).trackers = r.1.trackers ∧ (reportReady r).drive = r.1.drive ∧ (reportReady r).operator = r.1.operator ∧
    (reportReady r).faults = r.1.faults ∧ (reportReady r).free = r.1.free := by
  obtain ⟨s, l⟩ := r
  induction l generalizing s with
  | nil => simp [reportReady]
  | cons x l ih => simpa [reportReady] using ih (onReady x.1 x.2 s)

@[simp] theorem grantNow_frame (s : State) :
    (grantNow s).pending = s.pending ∧ (grantNow s).supply = s.supply ∧ (grantNow s).fitment = s.fitment ∧
    (grantNow s).link = s.link ∧ (grantNow s).vehicle = s.vehicle ∧ (grantNow s).trackers = s.trackers ∧
    (grantNow s).drive = s.drive ∧ (grantNow s).operator = s.operator ∧ (grantNow s).faults = s.faults ∧
    (grantNow s).free = s.free := by
  simp [grantNow]

@[simp] theorem withdraw_frame (n : Nat) (s : State) :
    (withdraw n s).pending = s.pending ∧ (withdraw n s).supply = s.supply ∧ (withdraw n s).fitment = s.fitment ∧
    (withdraw n s).link = s.link ∧ (withdraw n s).vehicle = s.vehicle ∧ (withdraw n s).trackers = s.trackers ∧
    (withdraw n s).drive = s.drive ∧ (withdraw n s).operator = s.operator ∧ (withdraw n s).faults = s.faults ∧
    (withdraw n s).free = s.free := by
  simp [withdraw]

@[simp] theorem lodge_frame (o : Order) (c : MoveClass) (s : State) :
    (lodge o c s).pending = s.pending ∧ (lodge o c s).supply = s.supply ∧ (lodge o c s).fitment = s.fitment ∧
    (lodge o c s).link = s.link ∧ (lodge o c s).vehicle = s.vehicle ∧ (lodge o c s).trackers = s.trackers ∧
    (lodge o c s).drive = s.drive ∧ (lodge o c s).operator = s.operator ∧ (lodge o c s).faults = s.faults ∧
    (lodge o c s).free = s.free := by
  simp [lodge]

@[simp] theorem reportCleared_frame (old : Inhibits) (s : State) :
    (reportCleared old s).pending = s.pending ∧ (reportCleared old s).supply = s.supply ∧ (reportCleared old s).fitment = s.fitment ∧
    (reportCleared old s).link = s.link ∧ (reportCleared old s).vehicle = s.vehicle ∧ (reportCleared old s).trackers = s.trackers ∧
    (reportCleared old s).drive = s.drive ∧ (reportCleared old s).operator = s.operator ∧ (reportCleared old s).faults = s.faults ∧
    (reportCleared old s).free = s.free := by
  unfold reportCleared; dsimp only; split <;> simp

@[simp] theorem reportCompletion_frame (o : Order) (s : State) :
    (reportCompletion o s).pending = s.pending ∧ (reportCompletion o s).supply = s.supply ∧ (reportCompletion o s).fitment = s.fitment ∧
    (reportCompletion o s).vehicle = s.vehicle ∧ (reportCompletion o s).trackers = s.trackers ∧ (reportCompletion o s).drive = s.drive ∧
    (reportCompletion o s).operator = s.operator ∧ (reportCompletion o s).free = s.free := by
  simp [reportCompletion]

@[simp] theorem markEnded_frame (n : Nat) (res : OrderResult) (why : Option Reason) (s : State) :
    (markEnded n res why s).pending = s.pending ∧ (markEnded n res why s).supply = s.supply ∧ (markEnded n res why s).fitment = s.fitment ∧
    (markEnded n res why s).vehicle = s.vehicle ∧ (markEnded n res why s).trackers = s.trackers ∧ (markEnded n res why s).drive = s.drive ∧
    (markEnded n res why s).operator = s.operator ∧ (markEnded n res why s).free = s.free := by
  unfold markEnded; dsimp only; (repeat' split) <;> simp

@[simp] theorem enterBlocked_frame (o : Order) (e : Nat) (s : State) :
    (enterBlocked o e s).pending = s.pending ∧ (enterBlocked o e s).supply = s.supply ∧ (enterBlocked o e s).fitment = s.fitment ∧
    (enterBlocked o e s).link = s.link ∧ (enterBlocked o e s).vehicle = s.vehicle ∧ (enterBlocked o e s).flow = s.flow ∧
    (enterBlocked o e s).trackers = s.trackers ∧ (enterBlocked o e s).runs = s.runs ∧ (enterBlocked o e s).drive = s.drive ∧
    (enterBlocked o e s).operator = s.operator ∧ (enterBlocked o e s).faults = s.faults ∧ (enterBlocked o e s).free = s.free := by
  simp [enterBlocked]

@[simp] theorem enterHoldWait_frame (o : Order) (s : State) :
    (enterHoldWait o s).pending = s.pending ∧ (enterHoldWait o s).supply = s.supply ∧ (enterHoldWait o s).fitment = s.fitment ∧
    (enterHoldWait o s).link = s.link ∧ (enterHoldWait o s).vehicle = s.vehicle ∧ (enterHoldWait o s).flow = s.flow ∧
    (enterHoldWait o s).trackers = s.trackers ∧ (enterHoldWait o s).runs = s.runs ∧ (enterHoldWait o s).drive = s.drive ∧
    (enterHoldWait o s).operator = s.operator ∧ (enterHoldWait o s).faults = s.faults ∧ (enterHoldWait o s).free = s.free := by
  simp [enterHoldWait]

@[simp] theorem enterMoving_frame (o : Order) (p : Phase) (s : State) :
    (enterMoving o p s).pending = s.pending ∧ (enterMoving o p s).supply = s.supply ∧ (enterMoving o p s).fitment = s.fitment ∧
    (enterMoving o p s).vehicle = s.vehicle ∧ (enterMoving o p s).trackers = s.trackers ∧ (enterMoving o p s).operator = s.operator ∧
    (enterMoving o p s).free = s.free := by
  unfold enterMoving; dsimp only; (repeat' split) <;> simp

@[simp] theorem gateFlow_frame (o : Order) (p : Phase) (s : State) :
    (gateFlow o p s).pending = s.pending ∧ (gateFlow o p s).supply = s.supply ∧ (gateFlow o p s).fitment = s.fitment ∧
    (gateFlow o p s).vehicle = s.vehicle ∧ (gateFlow o p s).trackers = s.trackers ∧ (gateFlow o p s).operator = s.operator ∧
    (gateFlow o p s).free = s.free := by
  unfold gateFlow; dsimp only; (repeat' split) <;> simp

@[simp] theorem gateBinding_frame (o : Order) (p : Phase) (s : State) :
    (gateBinding o p s).pending = s.pending ∧ (gateBinding o p s).supply = s.supply ∧ (gateBinding o p s).fitment = s.fitment ∧
    (gateBinding o p s).vehicle = s.vehicle ∧ (gateBinding o p s).trackers = s.trackers ∧ (gateBinding o p s).operator = s.operator ∧
    (gateBinding o p s).free = s.free := by
  unfold gateBinding; (repeat' split) <;> simp

@[simp] theorem gateInterlock_frame (o : Order) (p : Phase) (s : State) :
    (gateInterlock o p s).pending = s.pending ∧ (gateInterlock o p s).supply = s.supply ∧ (gateInterlock o p s).fitment = s.fitment ∧
    (gateInterlock o p s).vehicle = s.vehicle ∧ (gateInterlock o p s).trackers = s.trackers ∧ (gateInterlock o p s).operator = s.operator ∧
    (gateInterlock o p s).free = s.free := by
  unfold gateInterlock; (repeat' split) <;> simp

@[simp] theorem phaseStart_frame (n : Nat) (s : State) :
    (phaseStart n s).pending = s.pending ∧ (phaseStart n s).supply = s.supply ∧ (phaseStart n s).fitment = s.fitment ∧
    (phaseStart n s).vehicle = s.vehicle ∧ (phaseStart n s).trackers = s.trackers ∧ (phaseStart n s).operator = s.operator ∧
    (phaseStart n s).free = s.free := by
  unfold phaseStart; dsimp only; (repeat' split) <;> simp

@[simp] theorem startQueued_frame (g : Group) (k : Nat) (s : State) :
    (startQueued g k s).pending = s.pending ∧ (startQueued g k s).supply = s.supply ∧ (startQueued g k s).fitment = s.fitment ∧
    (startQueued g k s).vehicle = s.vehicle ∧ (startQueued g k s).operator = s.operator ∧ (startQueued g k s).free = s.free := by
  induction k generalizing s with
  | zero => simp [startQueued]
  | succ k ih => unfold startQueued; (repeat' split) <;> simp [ih]

@[simp] theorem advanceGroup_frame (g : Group) (s : State) :
    (advanceGroup g s).pending = s.pending ∧ (advanceGroup g s).supply = s.supply ∧ (advanceGroup g s).fitment = s.fitment ∧
    (advanceGroup g s).vehicle = s.vehicle ∧ (advanceGroup g s).operator = s.operator ∧ (advanceGroup g s).free = s.free := by
  simp [advanceGroup]

@[simp] theorem endOrder_frame (o : Order) (res : OrderResult) (why : Option Reason) (s : State) :
    (endOrder o res why s).pending = s.pending ∧ (endOrder o res why s).supply = s.supply ∧ (endOrder o res why s).fitment = s.fitment ∧
    (endOrder o res why s).vehicle = s.vehicle ∧ (endOrder o res why s).operator = s.operator ∧ (endOrder o res why s).free = s.free := by
  simp [endOrder]

@[simp] theorem endWaiting_frame (o : Order) (res : OrderResult) (why : Option Reason) (s : State) :
    (endWaiting o res why s).pending = s.pending ∧ (endWaiting o res why s).supply = s.supply ∧ (endWaiting o res why s).fitment = s.fitment ∧
    (endWaiting o res why s).vehicle = s.vehicle ∧ (endWaiting o res why s).operator = s.operator ∧ (endWaiting o res why s).free = s.free := by
  simp [endWaiting]

@[simp] theorem endPulse_frame (o : Order) (res : OrderResult) (why : Option Reason) (s : State) :
    (endPulse o res why s).pending = s.pending ∧ (endPulse o res why s).supply = s.supply ∧ (endPulse o res why s).fitment = s.fitment ∧
    (endPulse o res why s).vehicle = s.vehicle ∧ (endPulse o res why s).operator = s.operator := by
  unfold endPulse; dsimp only; (repeat' split) <;> simp

@[simp] theorem toStopping_frame (n : Nat) (x : StopOutcome) (res : Option OrderResult) (why : Option Reason) (s : State) :
    (toStopping n x res why s).pending = s.pending ∧ (toStopping n x res why s).supply = s.supply ∧ (toStopping n x res why s).fitment = s.fitment ∧
    (toStopping n x res why s).link = s.link ∧ (toStopping n x res why s).vehicle = s.vehicle ∧ (toStopping n x res why s).flow = s.flow ∧
    (toStopping n x res why s).trackers = s.trackers ∧ (toStopping n x res why s).runs = s.runs ∧ (toStopping n x res why s).drive = s.drive ∧
    (toStopping n x res why s).operator = s.operator ∧ (toStopping n x res why s).faults = s.faults ∧ (toStopping n x res why s).free = s.free := by
  simp [toStopping]

@[simp] theorem stopFailed_frame (n : Nat) (why : Reason) (s : State) :
    (stopFailed n why s).pending = s.pending ∧ (stopFailed n why s).supply = s.supply ∧ (stopFailed n why s).fitment = s.fitment ∧
    (stopFailed n why s).link = s.link ∧ (stopFailed n why s).vehicle = s.vehicle ∧ (stopFailed n why s).flow = s.flow ∧
    (stopFailed n why s).trackers = s.trackers ∧ (stopFailed n why s).runs = s.runs ∧ (stopFailed n why s).drive = s.drive ∧
    (stopFailed n why s).operator = s.operator ∧ (stopFailed n why s).faults = s.faults ∧ (stopFailed n why s).free = s.free := by
  simp [stopFailed]

@[simp] theorem enterSettling_frame (o : Order) (f : Order → Order) (s : State) :
    (enterSettling o f s).pending = s.pending ∧ (enterSettling o f s).supply = s.supply ∧ (enterSettling o f s).fitment = s.fitment ∧
    (enterSettling o f s).link = s.link ∧ (enterSettling o f s).vehicle = s.vehicle ∧ (enterSettling o f s).flow = s.flow ∧
    (enterSettling o f s).trackers = s.trackers ∧ (enterSettling o f s).runs = s.runs ∧ (enterSettling o f s).drive = s.drive ∧
    (enterSettling o f s).operator = s.operator ∧ (enterSettling o f s).faults = s.faults ∧ (enterSettling o f s).free = s.free := by
  simp [enterSettling]

@[simp] theorem immediateEnd_frame (g : Group) (why : Reason) (s : State) :
    (immediateEnd g why s).pending = s.pending ∧ (immediateEnd g why s).supply = s.supply ∧ (immediateEnd g why s).fitment = s.fitment ∧
    (immediateEnd g why s).link = s.link ∧ (immediateEnd g why s).vehicle = s.vehicle ∧ (immediateEnd g why s).trackers = s.trackers ∧
    (immediateEnd g why s).operator = s.operator := by
  unfold immediateEnd; dsimp only; (repeat' split) <;> simp

@[simp] theorem applyInhibit_frame (o : Order) (s : State) :
    (applyInhibit o s).pending = s.pending ∧ (applyInhibit o s).supply = s.supply ∧ (applyInhibit o s).fitment = s.fitment ∧
    (applyInhibit o s).vehicle = s.vehicle ∧ (applyInhibit o s).operator = s.operator := by
  unfold applyInhibit; (repeat' split) <;> simp

@[simp] theorem meetInhibit_frame (old : Inhibits) (g : Group) (s : State) :
    (meetInhibit old g s).pending = s.pending ∧ (meetInhibit old g s).supply = s.supply ∧ (meetInhibit old g s).fitment = s.fitment ∧
    (meetInhibit old g s).vehicle = s.vehicle ∧ (meetInhibit old g s).operator = s.operator := by
  unfold meetInhibit; dsimp only; (repeat' split) <;> simp

@[simp] theorem reportFlags_frame (old : Inhibits) (s : State) :
    (reportFlags old s).pending = s.pending ∧ (reportFlags old s).supply = s.supply ∧ (reportFlags old s).fitment = s.fitment ∧
    (reportFlags old s).vehicle = s.vehicle ∧ (reportFlags old s).operator = s.operator := by
  unfold reportFlags; split <;> simp [Group.all]

@[simp] theorem raiseFault_frame (code : FaultCode) (x : Subject) (s : State) :
    (raiseFault code x s).pending = s.pending ∧ (raiseFault code x s).supply = s.supply ∧ (raiseFault code x s).fitment = s.fitment ∧
    (raiseFault code x s).vehicle = s.vehicle ∧ (raiseFault code x s).operator = s.operator := by
  simp [raiseFault]

@[simp] theorem raiseFaultOnce_frame (code : FaultCode) (x : Subject) (s : State) :
    (raiseFaultOnce code x s).pending = s.pending ∧ (raiseFaultOnce code x s).supply = s.supply ∧ (raiseFaultOnce code x s).fitment = s.fitment ∧
    (raiseFaultOnce code x s).vehicle = s.vehicle ∧ (raiseFaultOnce code x s).operator = s.operator := by
  simp [raiseFaultOnce]

@[simp] theorem abortOrders_frame (p : Order → Bool) (why : Reason) (s : State) :
    (abortOrders p why s).pending = s.pending ∧ (abortOrders p why s).supply = s.supply ∧ (abortOrders p why s).fitment = s.fitment ∧
    (abortOrders p why s).vehicle = s.vehicle ∧ (abortOrders p why s).trackers = s.trackers ∧ (abortOrders p why s).drive = s.drive ∧
    (abortOrders p why s).operator = s.operator ∧ (abortOrders p why s).free = s.free := by
  unfold abortOrders
  generalize List.filter _ _ = l
  induction l generalizing s with
  | nil => simp
  | cons o l ih => simpa using ih (markEnded o.number .aborted (some why) (withdraw o.number s))

@[simp] theorem unreference_frame (a : Axis) (s : State) :
    (unreference a s).pending = s.pending ∧ (unreference a s).supply = s.supply ∧ (unreference a s).fitment = s.fitment ∧
    (unreference a s).link = s.link ∧ (unreference a s).seq = s.seq ∧ (unreference a s).vehicle = s.vehicle ∧
    (unreference a s).flow = s.flow ∧ (unreference a s).runs = s.runs ∧ (unreference a s).drive = s.drive ∧
    (unreference a s).operator = s.operator ∧ (unreference a s).beacon = s.beacon ∧ (unreference a s).faults = s.faults ∧
    (unreference a s).free = s.free := by
  simp [unreference]

@[simp] theorem limitPass_frame (a : Axis) (s : State) :
    (limitPass a s).pending = s.pending ∧ (limitPass a s).supply = s.supply ∧ (limitPass a s).fitment = s.fitment ∧
    (limitPass a s).link = s.link ∧ (limitPass a s).vehicle = s.vehicle ∧ (limitPass a s).trackers = s.trackers ∧
    (limitPass a s).operator = s.operator := by
  unfold limitPass; (repeat' split) <;> simp

@[simp] theorem judgeDrift_frame (r : AxisRec) (a : Axis) (s : State) :
    (judgeDrift r a s).pending = s.pending ∧ (judgeDrift r a s).supply = s.supply ∧ (judgeDrift r a s).fitment = s.fitment ∧
    (judgeDrift r a s).vehicle = s.vehicle ∧ (judgeDrift r a s).operator = s.operator := by
  unfold judgeDrift; dsimp only; (repeat' split) <;> simp

@[simp] theorem countPulse_frame (r : AxisRec) (a : Axis) (fw : Bool) (s : State) :
    (countPulse r a fw s).pending = s.pending ∧ (countPulse r a fw s).supply = s.supply ∧ (countPulse r a fw s).fitment = s.fitment ∧
    (countPulse r a fw s).vehicle = s.vehicle ∧ (countPulse r a fw s).operator = s.operator := by
  unfold countPulse; dsimp only; (repeat' split) <;> simp

@[simp] theorem windowEnd_frame (r : AxisRec) (a : Axis) (s : State) :
    (windowEnd r a s).pending = s.pending ∧ (windowEnd r a s).supply = s.supply ∧ (windowEnd r a s).fitment = s.fitment ∧
    (windowEnd r a s).link = s.link ∧ (windowEnd r a s).seq = s.seq ∧ (windowEnd r a s).vehicle = s.vehicle ∧
    (windowEnd r a s).flow = s.flow ∧ (windowEnd r a s).runs = s.runs ∧ (windowEnd r a s).drive = s.drive ∧
    (windowEnd r a s).operator = s.operator ∧ (windowEnd r a s).faults = s.faults ∧ (windowEnd r a s).free = s.free := by
  simp [windowEnd]

@[simp] theorem snap_frame (a : Axis) (s : State) :
    (snap a s).pending = s.pending ∧ (snap a s).supply = s.supply ∧ (snap a s).fitment = s.fitment ∧
    (snap a s).vehicle = s.vehicle ∧ (snap a s).operator = s.operator := by
  unfold snap; dsimp only; (repeat' split) <;> simp

@[simp] theorem snapIfActive_frame (a : Axis) (s : State) :
    (snapIfActive a s).pending = s.pending ∧ (snapIfActive a s).supply = s.supply ∧ (snapIfActive a s).fitment = s.fitment ∧
    (snapIfActive a s).vehicle = s.vehicle ∧ (snapIfActive a s).operator = s.operator := by
  unfold snapIfActive; (repeat' split) <;> simp

@[simp] theorem takeHome_frame (a : Axis) (s : State) :
    (takeHome a s).pending = s.pending ∧ (takeHome a s).supply = s.supply ∧ (takeHome a s).fitment = s.fitment ∧
    (takeHome a s).vehicle = s.vehicle ∧ (takeHome a s).operator = s.operator := by
  unfold takeHome; dsimp only; (repeat' split) <;> simp

@[simp] theorem bindingGained_frame (n : Nat) (s : State) :
    (bindingGained n s).pending = s.pending ∧ (bindingGained n s).supply = s.supply ∧ (bindingGained n s).fitment = s.fitment ∧
    (bindingGained n s).vehicle = s.vehicle ∧ (bindingGained n s).trackers = s.trackers ∧ (bindingGained n s).operator = s.operator ∧
    (bindingGained n s).free = s.free := by
  unfold bindingGained; (repeat' split) <;> simp

@[simp] theorem bindingLost_frame (n : Nat) (s : State) :
    (bindingLost n s).pending = s.pending ∧ (bindingLost n s).supply = s.supply ∧ (bindingLost n s).fitment = s.fitment ∧
    (bindingLost n s).link = s.link ∧ (bindingLost n s).vehicle = s.vehicle ∧ (bindingLost n s).trackers = s.trackers ∧
    (bindingLost n s).drive = s.drive ∧ (bindingLost n s).operator = s.operator ∧ (bindingLost n s).faults = s.faults ∧
    (bindingLost n s).free = s.free := by
  unfold bindingLost; (repeat' split) <;> simp

@[simp] theorem edgeTaken_frame (n : Nat) (s : State) :
    (edgeTaken n s).pending = s.pending ∧ (edgeTaken n s).supply = s.supply ∧ (edgeTaken n s).fitment = s.fitment ∧
    (edgeTaken n s).vehicle = s.vehicle ∧ (edgeTaken n s).trackers = s.trackers ∧ (edgeTaken n s).operator = s.operator ∧
    (edgeTaken n s).free = s.free := by
  unfold edgeTaken; (repeat' split) <;> simp

/-- The end of an event touches the link and the Order Table alone. -/
@[simp] theorem finish_frame (b a : State) :
    (finish b a).pending = a.pending ∧ (finish b a).supply = a.supply ∧ (finish b a).fitment = a.fitment ∧
    (finish b a).vehicle = a.vehicle ∧ (finish b a).flow = a.flow ∧ (finish b a).trackers = a.trackers ∧
    (finish b a).runs = a.runs ∧ (finish b a).drive = a.drive ∧ (finish b a).operator = a.operator ∧
    (finish b a).beacon = a.beacon ∧ (finish b a).faults = a.faults ∧ (finish b a).free = a.free :=
  State.quiet_blocks (quiet_finish b a)

@[simp] theorem superviseSkew_frame (r : ProfileRec) (x : Run) (s : State) :
    (superviseSkew r x s).pending = s.pending ∧ (superviseSkew r x s).supply = s.supply ∧ (superviseSkew r x s).fitment = s.fitment ∧
    (superviseSkew r x s).vehicle = s.vehicle ∧ (superviseSkew r x s).operator = s.operator := by
  unfold superviseSkew; dsimp only; (repeat' split) <;> simp

@[simp] theorem skewEnd_frame (s : State) :
    (skewEnd s).pending = s.pending ∧ (skewEnd s).supply = s.supply ∧ (skewEnd s).fitment = s.fitment ∧
    (skewEnd s).vehicle = s.vehicle ∧ (skewEnd s).operator = s.operator := by
  simp [skewEnd]

@[simp] theorem sendDemands_frame (ds : List (Channel × Nat)) (s : State) :
    (sendDemands ds s).pending = s.pending ∧ (sendDemands ds s).supply = s.supply ∧ (sendDemands ds s).fitment = s.fitment ∧
    (sendDemands ds s).link = s.link ∧ (sendDemands ds s).seq = s.seq ∧ (sendDemands ds s).vehicle = s.vehicle ∧
    (sendDemands ds s).flow = s.flow ∧ (sendDemands ds s).trackers = s.trackers ∧ (sendDemands ds s).runs = s.runs ∧
    (sendDemands ds s).operator = s.operator ∧ (sendDemands ds s).beacon = s.beacon ∧ (sendDemands ds s).faults = s.faults ∧
    (sendDemands ds s).free = s.free := by
  unfold sendDemands
  induction ds generalizing s with
  | nil => simp
  | cons d ds ih => simpa using ih (demandCommand d.1 d.2 s)

@[simp] theorem modRun_frame (g : Group) (f : Run → Run) (s : State) :
    (modRun g f s).pending = s.pending ∧ (modRun g f s).supply = s.supply ∧ (modRun g f s).fitment = s.fitment ∧
    (modRun g f s).link = s.link ∧ (modRun g f s).seq = s.seq ∧ (modRun g f s).vehicle = s.vehicle ∧
    (modRun g f s).flow = s.flow ∧ (modRun g f s).trackers = s.trackers ∧ (modRun g f s).drive = s.drive ∧
    (modRun g f s).operator = s.operator ∧ (modRun g f s).beacon = s.beacon ∧ (modRun g f s).faults = s.faults ∧
    (modRun g f s).free = s.free := by
  unfold modRun; (repeat' split) <;> simp

@[simp] theorem readPositions_frame (o : Order) (p : Phase) (c : MoveClass) (s : State) :
    (readPositions o p c s).pending = s.pending ∧ (readPositions o p c s).supply = s.supply ∧ (readPositions o p c s).fitment = s.fitment ∧
    (readPositions o p c s).link = s.link ∧ (readPositions o p c s).seq = s.seq ∧ (readPositions o p c s).vehicle = s.vehicle ∧
    (readPositions o p c s).flow = s.flow ∧ (readPositions o p c s).trackers = s.trackers ∧ (readPositions o p c s).drive = s.drive ∧
    (readPositions o p c s).operator = s.operator ∧ (readPositions o p c s).beacon = s.beacon ∧ (readPositions o p c s).faults = s.faults ∧
    (readPositions o p c s).free = s.free := by
  simp [readPositions]

@[simp] theorem examineMoving_frame (o : Order) (s : State) :
    (examineMoving o s).pending = s.pending ∧ (examineMoving o s).supply = s.supply ∧ (examineMoving o s).fitment = s.fitment ∧
    (examineMoving o s).link = s.link ∧ (examineMoving o s).vehicle = s.vehicle ∧ (examineMoving o s).trackers = s.trackers ∧
    (examineMoving o s).operator = s.operator := by
  unfold examineMoving; dsimp only; (repeat' split) <;> simp

@[simp] theorem foldRaise_frame (code : FaultCode) (as : List Axis) (s : State) :
    (as.foldl (fun s a => raiseFaultOnce code (.axis a) s) s).pending = s.pending ∧ (as.foldl (fun s a => raiseFaultOnce code (.axis a) s) s).supply = s.supply ∧
    (as.foldl (fun s a => raiseFaultOnce code (.axis a) s) s).fitment = s.fitment ∧ (as.foldl (fun s a => raiseFaultOnce code (.axis a) s) s).vehicle = s.vehicle ∧
    (as.foldl (fun s a => raiseFaultOnce code (.axis a) s) s).operator = s.operator := by
  induction as generalizing s with
  | nil => simp
  | cons a as ih => simpa using ih (raiseFaultOnce code (.axis a) s)

@[simp] theorem stallEnd_frame (g : Group) (c : MoveClass) (s : State) :
    (stallEnd g c s).pending = s.pending ∧ (stallEnd g c s).supply = s.supply ∧ (stallEnd g c s).fitment = s.fitment ∧
    (stallEnd g c s).vehicle = s.vehicle ∧ (stallEnd g c s).operator = s.operator := by
  unfold stallEnd; simp

@[simp] theorem stopEnd_frame (o : Order) (s : State) :
    (stopEnd o s).pending = s.pending ∧ (stopEnd o s).supply = s.supply ∧ (stopEnd o s).fitment = s.fitment ∧
    (stopEnd o s).vehicle = s.vehicle ∧ (stopEnd o s).operator = s.operator := by
  unfold stopEnd; dsimp only; (repeat' split) <;> simp

@[simp] theorem finishInterval_frame (r : ProfileRec) (p : Phase) (c : MoveClass) (g : Group) (s : State) :
    (finishInterval r p c g s).pending = s.pending ∧ (finishInterval r p c g s).supply = s.supply ∧ (finishInterval r p c g s).fitment = s.fitment ∧
    (finishInterval r p c g s).vehicle = s.vehicle ∧ (finishInterval r p c g s).operator = s.operator := by
  unfold finishInterval; dsimp only; (repeat' split) <;> simp

@[simp] theorem moveOn_frame (r : ProfileRec) (p : Phase) (c : MoveClass) (o : Order) (s : State) :
    (moveOn r p c o s).1.pending = s.pending ∧ (moveOn r p c o s).1.supply = s.supply ∧ (moveOn r p c o s).1.fitment = s.fitment ∧
    (moveOn r p c o s).1.vehicle = s.vehicle ∧ (moveOn r p c o s).1.operator = s.operator := by
  unfold moveOn; dsimp only; (repeat' split) <;> simp

@[simp] theorem intervalBody_frame (r : ProfileRec) (p : Phase) (c : MoveClass) (g : Group) (s : State) :
    (intervalBody r p c g s).pending = s.pending ∧ (intervalBody r p c g s).supply = s.supply ∧ (intervalBody r p c g s).fitment = s.fitment ∧
    (intervalBody r p c g s).vehicle = s.vehicle ∧ (intervalBody r p c g s).operator = s.operator := by
  unfold intervalBody; dsimp only; (repeat' split) <;> simp

@[simp] theorem motionInterval_frame (o : Order) (p : Phase) (c : MoveClass) (r : ProfileRec) (x : Run) (s : State) :
    (motionInterval o p c r x s).pending = s.pending ∧ (motionInterval o p c r x s).supply = s.supply ∧ (motionInterval o p c r x s).fitment = s.fitment ∧
    (motionInterval o p c r x s).vehicle = s.vehicle ∧ (motionInterval o p c r x s).operator = s.operator := by
  unfold motionInterval; dsimp only; (repeat' split) <;> simp

@[simp] theorem blockedInterval_frame (o : Order) (s : State) :
    (blockedInterval o s).pending = s.pending ∧ (blockedInterval o s).supply = s.supply ∧ (blockedInterval o s).fitment = s.fitment ∧
    (blockedInterval o s).vehicle = s.vehicle ∧ (blockedInterval o s).operator = s.operator := by
  unfold blockedInterval; (repeat' split) <;> simp

@[simp] theorem waitingInterval_frame (o : Order) (s : State) :
    (waitingInterval o s).pending = s.pending ∧ (waitingInterval o s).supply = s.supply ∧ (waitingInterval o s).fitment = s.fitment ∧
    (waitingInterval o s).vehicle = s.vehicle ∧ (waitingInterval o s).operator = s.operator := by
  unfold waitingInterval; (repeat' split) <;> simp

@[simp] theorem interval_frame (g : Group) (s : State) :
    (interval g s).pending = s.pending ∧ (interval g s).supply = s.supply ∧ (interval g s).fitment = s.fitment ∧
    (interval g s).vehicle = s.vehicle ∧ (interval g s).operator = s.operator := by
  unfold interval; dsimp only; (repeat' split) <;> simp

@[simp] theorem reportBinding_bindingGained_frame (b : Binding) (s : State) :
    (reportBinding b bindingGained s).pending = s.pending ∧ (reportBinding b bindingGained s).supply = s.supply ∧
    (reportBinding b bindingGained s).fitment = s.fitment ∧ (reportBinding b bindingGained s).vehicle = s.vehicle ∧
    (reportBinding b bindingGained s).operator = s.operator ∧ (reportBinding b bindingGained s).trackers = s.trackers ∧ (reportBinding b bindingGained s).free = s.free := by
  unfold reportBinding
  generalize List.filter _ _ = l
  induction l generalizing s with
  | nil => simp
  | cons o l ih => simpa using ih (bindingGained o.number s)

@[simp] theorem reportBinding_bindingLost_frame (b : Binding) (s : State) :
    (reportBinding b bindingLost s).pending = s.pending ∧ (reportBinding b bindingLost s).supply = s.supply ∧
    (reportBinding b bindingLost s).fitment = s.fitment ∧ (reportBinding b bindingLost s).vehicle = s.vehicle ∧
    (reportBinding b bindingLost s).operator = s.operator ∧ (reportBinding b bindingLost s).trackers = s.trackers ∧ (reportBinding b bindingLost s).free = s.free := by
  unfold reportBinding
  generalize List.filter _ _ = l
  induction l generalizing s with
  | nil => simp
  | cons o l ih => simpa using ih (bindingLost o.number s)

@[simp] theorem reportBinding_edgeTaken_frame (b : Binding) (s : State) :
    (reportBinding b edgeTaken s).pending = s.pending ∧ (reportBinding b edgeTaken s).supply = s.supply ∧
    (reportBinding b edgeTaken s).fitment = s.fitment ∧ (reportBinding b edgeTaken s).vehicle = s.vehicle ∧
    (reportBinding b edgeTaken s).operator = s.operator ∧ (reportBinding b edgeTaken s).trackers = s.trackers ∧ (reportBinding b edgeTaken s).free = s.free := by
  unfold reportBinding
  generalize List.filter _ _ = l
  induction l generalizing s with
  | nil => simp
  | cons o l ih => simpa using ih (edgeTaken o.number s)

@[simp] theorem moveHand_frame (t : Fin 2) (m : TwoHand) (s : State) :
    (moveHand t m s).pending = s.pending ∧ (moveHand t m s).supply = s.supply ∧ (moveHand t m s).fitment = s.fitment ∧
    (moveHand t m s).vehicle = s.vehicle ∧ (moveHand t m s).trackers = s.trackers ∧ (moveHand t m s).free = s.free := by
  unfold moveHand; dsimp only; (repeat' split) <;> simp

@[simp] theorem holdTaken_frame (h : Fin 4) (v : Bool) (s : State) :
    (holdTaken h v s).pending = s.pending ∧ (holdTaken h v s).supply = s.supply ∧ (holdTaken h v s).fitment = s.fitment ∧
    (holdTaken h v s).vehicle = s.vehicle ∧ (holdTaken h v s).trackers = s.trackers ∧ (holdTaken h v s).free = s.free := by
  unfold holdTaken; dsimp only; (repeat' split) <;> simp

@[simp] theorem refreshStop_frame (g : Group) (s : State) :
    (refreshStop g s).pending = s.pending ∧ (refreshStop g s).supply = s.supply ∧ (refreshStop g s).fitment = s.fitment ∧
    (refreshStop g s).vehicle = s.vehicle ∧ (refreshStop g s).trackers = s.trackers := by
  unfold refreshStop; dsimp only; (repeat' split) <;> simp

@[simp] theorem refreshStops_frame (s : State) :
    (refreshStops s).pending = s.pending ∧ (refreshStops s).supply = s.supply ∧ (refreshStops s).fitment = s.fitment ∧
    (refreshStops s).vehicle = s.vehicle ∧ (refreshStops s).trackers = s.trackers := by
  simp [refreshStops, Group.all]

@[simp] theorem latchSensed_frame (d : Side) (s : State) :
    (latchSensed d s).pending = s.pending ∧ (latchSensed d s).supply = s.supply ∧ (latchSensed d s).fitment = s.fitment ∧
    (latchSensed d s).vehicle = s.vehicle ∧ (latchSensed d s).operator = s.operator := by
  unfold latchSensed; (repeat' split) <;> simp

theorem foldStops_frame (f : Order → State → State) (hf : ∀ o s, (∃ n x r w, f o s = toStopping n x r w s))
    (l : List Order) (s : State) :
    (l.foldl (fun s o => f o s) s).pending = s.pending ∧ (l.foldl (fun s o => f o s) s).supply = s.supply ∧ (l.foldl (fun s o => f o s) s).fitment = s.fitment ∧
    (l.foldl (fun s o => f o s) s).vehicle = s.vehicle ∧ (l.foldl (fun s o => f o s) s).operator = s.operator ∧ (l.foldl (fun s o => f o s) s).link = s.link ∧
    (l.foldl (fun s o => f o s) s).flow = s.flow ∧ (l.foldl (fun s o => f o s) s).trackers = s.trackers ∧ (l.foldl (fun s o => f o s) s).runs = s.runs ∧
    (l.foldl (fun s o => f o s) s).drive = s.drive ∧ (l.foldl (fun s o => f o s) s).faults = s.faults ∧ (l.foldl (fun s o => f o s) s).free = s.free := by
  induction l generalizing s with
  | nil => simp
  | cons o l ih =>
    obtain ⟨n, x, r, w, h⟩ := hf o s
    simpa [h] using ih (f o s)

theorem foldArrived_frame (l : List Order) (s : State) :
    (l.foldl (fun s o => toStopping o.number .arrived none none s) s).pending = s.pending ∧ (l.foldl (fun s o => toStopping o.number .arrived none none s) s).supply = s.supply ∧ (l.foldl (fun s o => toStopping o.number .arrived none none s) s).fitment = s.fitment ∧
    (l.foldl (fun s o => toStopping o.number .arrived none none s) s).vehicle = s.vehicle ∧ (l.foldl (fun s o => toStopping o.number .arrived none none s) s).operator = s.operator ∧ (l.foldl (fun s o => toStopping o.number .arrived none none s) s).link = s.link ∧
    (l.foldl (fun s o => toStopping o.number .arrived none none s) s).flow = s.flow ∧ (l.foldl (fun s o => toStopping o.number .arrived none none s) s).trackers = s.trackers ∧ (l.foldl (fun s o => toStopping o.number .arrived none none s) s).runs = s.runs ∧
    (l.foldl (fun s o => toStopping o.number .arrived none none s) s).drive = s.drive ∧ (l.foldl (fun s o => toStopping o.number .arrived none none s) s).faults = s.faults ∧ (l.foldl (fun s o => toStopping o.number .arrived none none s) s).free = s.free :=
  foldStops_frame (fun o s => toStopping o.number .arrived none none s) (fun _ _ => ⟨_, _, _, _, rfl⟩) l s

theorem foldFailed_frame (why : Reason) (l : List Order) (s : State) :
    (l.foldl (fun s o => stopFailed o.number why s) s).pending = s.pending ∧ (l.foldl (fun s o => stopFailed o.number why s) s).supply = s.supply ∧ (l.foldl (fun s o => stopFailed o.number why s) s).fitment = s.fitment ∧
    (l.foldl (fun s o => stopFailed o.number why s) s).vehicle = s.vehicle ∧ (l.foldl (fun s o => stopFailed o.number why s) s).operator = s.operator ∧ (l.foldl (fun s o => stopFailed o.number why s) s).link = s.link ∧
    (l.foldl (fun s o => stopFailed o.number why s) s).flow = s.flow ∧ (l.foldl (fun s o => stopFailed o.number why s) s).trackers = s.trackers ∧ (l.foldl (fun s o => stopFailed o.number why s) s).runs = s.runs ∧
    (l.foldl (fun s o => stopFailed o.number why s) s).drive = s.drive ∧ (l.foldl (fun s o => stopFailed o.number why s) s).faults = s.faults ∧ (l.foldl (fun s o => stopFailed o.number why s) s).free = s.free :=
  foldStops_frame (fun o s => stopFailed o.number why s) (fun _ _ => ⟨_, _, _, _, rfl⟩) l s

@[simp] theorem pressureActive_frame (s : State) :
    (pressureActive s).pending = s.pending ∧ (pressureActive s).supply = s.supply ∧ (pressureActive s).fitment = s.fitment ∧
    (pressureActive s).vehicle = s.vehicle ∧ (pressureActive s).operator = s.operator := by
  unfold pressureActive; dsimp only; split <;> simp [foldArrived_frame]

@[simp] theorem pumpLost_frame (s : State) :
    (pumpLost s).pending = s.pending ∧ (pumpLost s).supply = s.supply ∧ (pumpLost s).fitment = s.fitment ∧
    (pumpLost s).vehicle = s.vehicle ∧ (pumpLost s).operator = s.operator := by
  simp [pumpLost, foldFailed_frame]

@[simp] theorem runningSenseTaken_frame (v : Bool) (s : State) :
    (runningSenseTaken v s).pending = s.pending ∧ (runningSenseTaken v s).supply = s.supply ∧ (runningSenseTaken v s).fitment = s.fitment ∧
    (runningSenseTaken v s).vehicle = s.vehicle ∧ (runningSenseTaken v s).operator = s.operator := by
  unfold runningSenseTaken; split <;> simp

@[simp] theorem takeLine_frame (l : Line) (s : State) :
    (takeLine l s).pending = s.pending ∧ (takeLine l s).supply = s.supply ∧ (takeLine l s).fitment = s.fitment ∧
    (takeLine l s).vehicle = s.vehicle := by
  unfold takeLine; dsimp only; (repeat' split) <;> simp

@[simp] theorem setEstop_frame (e : EstopState) (t : Timer) (s : State) :
    (setEstop e t s).pending = s.pending ∧ (setEstop e t s).supply = s.supply ∧ (setEstop e t s).fitment = s.fitment ∧
    (setEstop e t s).seq = s.seq ∧ (setEstop e t s).vehicle = s.vehicle ∧ (setEstop e t s).flow = s.flow ∧
    (setEstop e t s).trackers = s.trackers ∧ (setEstop e t s).runs = s.runs ∧ (setEstop e t s).drive = s.drive ∧
    (setEstop e t s).beacon = s.beacon ∧ (setEstop e t s).faults = s.faults ∧ (setEstop e t s).free = s.free := by
  simp [setEstop]

@[simp] theorem idleAfter_frame (b : State) (s : State) :
    (idleAfter b s).pending = s.pending ∧ (idleAfter b s).supply = s.supply ∧ (idleAfter b s).fitment = s.fitment ∧
    (idleAfter b s).link = s.link ∧ (idleAfter b s).seq = s.seq ∧ (idleAfter b s).vehicle = s.vehicle ∧
    (idleAfter b s).flow = s.flow ∧ (idleAfter b s).runs = s.runs ∧ (idleAfter b s).drive = s.drive ∧
    (idleAfter b s).operator = s.operator ∧ (idleAfter b s).beacon = s.beacon ∧ (idleAfter b s).faults = s.faults ∧
    (idleAfter b s).free = s.free := by
  simp only [idleAfter, Group.all, List.foldl_cons, List.foldl_nil]; (repeat' split) <;> simp

@[simp] theorem estopFromClear_frame (s : State) :
    (estopFromClear s).pending = s.pending ∧ (estopFromClear s).supply = s.supply ∧ (estopFromClear s).fitment = s.fitment ∧
    (estopFromClear s).vehicle = s.vehicle := by
  simp [estopFromClear]

@[simp] theorem nextPhase_frame (o : Order) (s : State) :
    (nextPhase o s).pending = s.pending ∧ (nextPhase o s).supply = s.supply ∧ (nextPhase o s).fitment = s.fitment ∧
    (nextPhase o s).vehicle = s.vehicle ∧ (nextPhase o s).operator = s.operator := by
  simp [nextPhase]

@[simp] theorem settled_frame (o : Order) (s : State) :
    (settled o s).pending = s.pending ∧ (settled o s).supply = s.supply ∧ (settled o s).fitment = s.fitment ∧
    (settled o s).vehicle = s.vehicle ∧ (settled o s).operator = s.operator := by
  unfold settled; dsimp only; (repeat' split) <;> simp

@[simp] theorem blockExpiry_frame (g : Group) (s : State) :
    (blockExpiry g s).pending = s.pending ∧ (blockExpiry g s).supply = s.supply ∧ (blockExpiry g s).fitment = s.fitment ∧
    (blockExpiry g s).vehicle = s.vehicle ∧ (blockExpiry g s).operator = s.operator := by
  unfold blockExpiry onActive; (repeat' first | split | dsimp only) <;> simp

@[simp] theorem holdExpiry_frame (g : Group) (s : State) :
    (holdExpiry g s).pending = s.pending ∧ (holdExpiry g s).supply = s.supply ∧ (holdExpiry g s).fitment = s.fitment ∧
    (holdExpiry g s).vehicle = s.vehicle ∧ (holdExpiry g s).operator = s.operator := by
  unfold holdExpiry onActive; (repeat' first | split | dsimp only) <;> simp

@[simp] theorem settleExpiry_frame (g : Group) (s : State) :
    (settleExpiry g s).pending = s.pending ∧ (settleExpiry g s).supply = s.supply ∧ (settleExpiry g s).fitment = s.fitment ∧
    (settleExpiry g s).vehicle = s.vehicle ∧ (settleExpiry g s).operator = s.operator := by
  unfold settleExpiry onActive; (repeat' first | split | dsimp only) <;> simp

@[simp] theorem latchCheckFailed_frame (o : Order) (s : State) :
    (latchCheckFailed o s).pending = s.pending ∧ (latchCheckFailed o s).supply = s.supply ∧ (latchCheckFailed o s).fitment = s.fitment ∧
    (latchCheckFailed o s).vehicle = s.vehicle ∧ (latchCheckFailed o s).operator = s.operator := by
  simp [latchCheckFailed]

@[simp] theorem latchCheckExpiry_frame (g : Group) (s : State) :
    (latchCheckExpiry g s).pending = s.pending ∧ (latchCheckExpiry g s).supply = s.supply ∧ (latchCheckExpiry g s).fitment = s.fitment ∧
    (latchCheckExpiry g s).vehicle = s.vehicle ∧ (latchCheckExpiry g s).operator = s.operator := by
  unfold latchCheckExpiry onActive; (repeat' first | split | dsimp only) <;> simp

@[simp] theorem limitReached_frame (g : Group) (s : State) :
    (limitReached g s).pending = s.pending ∧ (limitReached g s).supply = s.supply ∧ (limitReached g s).fitment = s.fitment ∧
    (limitReached g s).vehicle = s.vehicle ∧ (limitReached g s).operator = s.operator := by
  unfold limitReached onActive; (repeat' first | split | dsimp only) <;> simp

@[simp] theorem setResetting_frame (g : Group) (t : Timer) (s : State) :
    (setResetting g t s).pending = s.pending ∧ (setResetting g t s).supply = s.supply ∧ (setResetting g t s).fitment = s.fitment ∧
    (setResetting g t s).link = s.link ∧ (setResetting g t s).seq = s.seq ∧ (setResetting g t s).vehicle = s.vehicle ∧
    (setResetting g t s).flow = s.flow ∧ (setResetting g t s).trackers = s.trackers ∧ (setResetting g t s).runs = s.runs ∧
    (setResetting g t s).drive = s.drive ∧ (setResetting g t s).operator = s.operator ∧ (setResetting g t s).beacon = s.beacon ∧
    (setResetting g t s).free = s.free := by
  simp [setResetting]

@[simp] theorem resettingExpiry_frame (g : Group) (s : State) :
    (resettingExpiry g s).pending = s.pending ∧ (resettingExpiry g s).supply = s.supply ∧ (resettingExpiry g s).fitment = s.fitment ∧
    (resettingExpiry g s).vehicle = s.vehicle ∧ (resettingExpiry g s).operator = s.operator := by
  unfold resettingExpiry; (repeat' split) <;> simp

@[simp] theorem capacityEvent_frame (s : State) :
    (capacityEvent s).pending = s.pending ∧ (capacityEvent s).supply = s.supply ∧ (capacityEvent s).fitment = s.fitment ∧
    (capacityEvent s).vehicle = s.vehicle ∧ (capacityEvent s).operator = s.operator := by
  unfold capacityEvent; dsimp only; split <;> simp

@[simp] theorem statusExpiry_frame (s : State) :
    (statusExpiry s).pending = s.pending ∧ (statusExpiry s).supply = s.supply ∧ (statusExpiry s).fitment = s.fitment ∧
    (statusExpiry s).operator = s.operator := by
  unfold statusExpiry; dsimp only; split <;> simp

@[simp] theorem pumpStarted_frame (s : State) :
    (pumpStarted s).pending = s.pending ∧ (pumpStarted s).supply = s.supply ∧ (pumpStarted s).fitment = s.fitment ∧
    (pumpStarted s).vehicle = s.vehicle ∧ (pumpStarted s).operator = s.operator := by
  unfold pumpStarted; dsimp only; split <;> simp

theorem foldEnds_frame (res : OrderResult) (why : Option Reason) (l : List Order) (s : State) :
    (l.foldl (fun s o => markEnded o.number res why s) s).pending = s.pending ∧ (l.foldl (fun s o => markEnded o.number res why s) s).supply = s.supply ∧ (l.foldl (fun s o => markEnded o.number res why s) s).fitment = s.fitment ∧
    (l.foldl (fun s o => markEnded o.number res why s) s).vehicle = s.vehicle ∧ (l.foldl (fun s o => markEnded o.number res why s) s).operator = s.operator ∧ (l.foldl (fun s o => markEnded o.number res why s) s).trackers = s.trackers ∧
    (l.foldl (fun s o => markEnded o.number res why s) s).drive = s.drive ∧ (l.foldl (fun s o => markEnded o.number res why s) s).free = s.free := by
  induction l generalizing s with
  | nil => simp
  | cons o l ih => simpa using ih (markEnded o.number res why s)

theorem foldAdvance_frame (l : List Order) (s : State) :
    (l.foldl (fun s o => advanceGroup o.group s) s).pending = s.pending ∧ (l.foldl (fun s o => advanceGroup o.group s) s).supply = s.supply ∧ (l.foldl (fun s o => advanceGroup o.group s) s).fitment = s.fitment ∧
    (l.foldl (fun s o => advanceGroup o.group s) s).vehicle = s.vehicle ∧ (l.foldl (fun s o => advanceGroup o.group s) s).operator = s.operator ∧ (l.foldl (fun s o => advanceGroup o.group s) s).free = s.free := by
  induction l generalizing s with
  | nil => simp
  | cons o l ih => simpa using ih (advanceGroup o.group s)

@[simp] theorem startFailed_frame (s : State) :
    (startFailed s).pending = s.pending ∧ (startFailed s).supply = s.supply ∧ (startFailed s).fitment = s.fitment ∧
    (startFailed s).vehicle = s.vehicle ∧ (startFailed s).operator = s.operator := by
  simp [startFailed, foldEnds_frame, foldAdvance_frame]

@[simp] theorem startExpiry_frame (s : State) :
    (startExpiry s).pending = s.pending ∧ (startExpiry s).supply = s.supply ∧ (startExpiry s).fitment = s.fitment ∧
    (startExpiry s).vehicle = s.vehicle ∧ (startExpiry s).operator = s.operator := by
  unfold startExpiry; (repeat' split) <;> simp

@[simp] theorem runOnExpiry_frame (s : State) :
    (runOnExpiry s).pending = s.pending ∧ (runOnExpiry s).supply = s.supply ∧ (runOnExpiry s).fitment = s.fitment ∧
    (runOnExpiry s).vehicle = s.vehicle ∧ (runOnExpiry s).operator = s.operator := by
  unfold runOnExpiry; (repeat' split) <;> simp

@[simp] theorem stuckExpiry_frame (s : State) :
    (stuckExpiry s).pending = s.pending ∧ (stuckExpiry s).supply = s.supply ∧ (stuckExpiry s).fitment = s.fitment ∧
    (stuckExpiry s).vehicle = s.vehicle ∧ (stuckExpiry s).operator = s.operator := by
  unfold stuckExpiry; (repeat' split) <;> simp

@[simp] theorem pulse_frame (a : Axis) (fw : Bool) (s : State) :
    (pulse a fw s).pending = s.pending ∧ (pulse a fw s).supply = s.supply ∧ (pulse a fw s).fitment = s.fitment ∧
    (pulse a fw s).vehicle = s.vehicle ∧ (pulse a fw s).operator = s.operator := by
  unfold pulse; (repeat' split) <;> simp

@[simp] theorem windowOver_frame (a : Axis) (s : State) :
    (windowOver a s).pending = s.pending ∧ (windowOver a s).supply = s.supply ∧ (windowOver a s).fitment = s.fitment ∧
    (windowOver a s).vehicle = s.vehicle ∧ (windowOver a s).operator = s.operator := by
  unfold windowOver; (repeat' split) <;> simp

@[simp] theorem homeRaw_frame (a : Axis) (v : Bool) (s : State) :
    (homeRaw a v s).pending = s.pending ∧ (homeRaw a v s).supply = s.supply ∧ (homeRaw a v s).fitment = s.fitment ∧
    (homeRaw a v s).vehicle = s.vehicle ∧ (homeRaw a v s).operator = s.operator := by
  unfold homeRaw; (repeat' split) <;> simp

@[simp] theorem homeExpiry_frame (a : Axis) (s : State) :
    (homeExpiry a s).pending = s.pending ∧ (homeExpiry a s).supply = s.supply ∧ (homeExpiry a s).fitment = s.fitment ∧
    (homeExpiry a s).vehicle = s.vehicle ∧ (homeExpiry a s).operator = s.operator := by
  unfold homeExpiry; (repeat' split) <;> simp

@[simp] theorem pulseDone_frame (n : Nat) (s : State) :
    (pulseDone n s).pending = s.pending ∧ (pulseDone n s).supply = s.supply ∧ (pulseDone n s).fitment = s.fitment ∧
    (pulseDone n s).vehicle = s.vehicle ∧ (pulseDone n s).operator = s.operator := by
  unfold pulseDone; (repeat' split) <;> simp

@[simp] theorem pulseExpiry_frame (d : Side) (s : State) :
    (pulseExpiry d s).pending = s.pending ∧ (pulseExpiry d s).supply = s.supply ∧ (pulseExpiry d s).fitment = s.fitment ∧
    (pulseExpiry d s).vehicle = s.vehicle ∧ (pulseExpiry d s).operator = s.operator := by
  unfold pulseExpiry; dsimp only; (repeat' split) <;> simp

@[simp] theorem coilReport_frame (old : Inhibits) (c : Channel) (s : State) :
    (coilReport old c s).pending = s.pending ∧ (coilReport old c s).supply = s.supply ∧ (coilReport old c s).fitment = s.fitment ∧
    (coilReport old c s).vehicle = s.vehicle ∧ (coilReport old c s).operator = s.operator := by
  unfold coilReport; (repeat' split) <;> simp

@[simp] theorem coilOpenFound_frame (c : Channel) (s : State) :
    (coilOpenFound c s).pending = s.pending ∧ (coilOpenFound c s).supply = s.supply ∧ (coilOpenFound c s).fitment = s.fitment ∧
    (coilOpenFound c s).vehicle = s.vehicle ∧ (coilOpenFound c s).operator = s.operator := by
  simp [coilOpenFound]

@[simp] theorem pulseCheck_frame (d : Side) (i : Nat) (s : State) :
    (pulseCheck d i s).pending = s.pending ∧ (pulseCheck d i s).supply = s.supply ∧ (pulseCheck d i s).fitment = s.fitment ∧
    (pulseCheck d i s).vehicle = s.vehicle ∧ (pulseCheck d i s).operator = s.operator := by
  unfold pulseCheck; (repeat' split) <;> simp

@[simp] theorem measure_frame (c : Channel) (i : Nat) (s : State) :
    (measure c i s).pending = s.pending ∧ (measure c i s).supply = s.supply ∧ (measure c i s).fitment = s.fitment ∧
    (measure c i s).vehicle = s.vehicle ∧ (measure c i s).operator = s.operator := by
  unfold measure; dsimp only; (repeat' split) <;> simp

@[simp] theorem startAllQueued_frame (s : State) :
    (startAllQueued s).pending = s.pending ∧ (startAllQueued s).supply = s.supply ∧ (startAllQueued s).fitment = s.fitment ∧
    (startAllQueued s).vehicle = s.vehicle ∧ (startAllQueued s).operator = s.operator := by
  simp [startAllQueued, foldAdvance_frame]

@[simp] theorem endProve_frame (s : State) :
    (endProve s).pending = s.pending ∧ (endProve s).supply = s.supply ∧ (endProve s).fitment = s.fitment ∧
    (endProve s).vehicle = s.vehicle ∧ (endProve s).operator = s.operator := by
  unfold endProve; dsimp only; split <;> simp

@[simp] theorem startProve_frame (s : State) :
    (startProve s).pending = s.pending ∧ (startProve s).supply = s.supply ∧ (startProve s).fitment = s.fitment ∧
    (startProve s).vehicle = s.vehicle ∧ (startProve s).operator = s.operator := by
  unfold startProve; dsimp only; split <;> simp

@[simp] theorem finishDrive_frame (c : Channel) (res : ChanResult) (s : State) :
    (finishDrive c res s).pending = s.pending ∧ (finishDrive c res s).supply = s.supply ∧ (finishDrive c res s).fitment = s.fitment ∧
    (finishDrive c res s).vehicle = s.vehicle ∧ (finishDrive c res s).operator = s.operator := by
  unfold finishDrive; dsimp only; (repeat' split) <;> simp

@[simp] theorem coilShort_frame (c : Channel) (s : State) :
    (coilShort c s).pending = s.pending ∧ (coilShort c s).supply = s.supply ∧ (coilShort c s).fitment = s.fitment ∧
    (coilShort c s).vehicle = s.vehicle ∧ (coilShort c s).operator = s.operator := by
  unfold coilShort; (repeat' split) <;> simp

@[simp] theorem proveNext_frame (s : State) :
    (proveNext s).pending = s.pending ∧ (proveNext s).supply = s.supply ∧ (proveNext s).fitment = s.fitment ∧
    (proveNext s).vehicle = s.vehicle ∧ (proveNext s).operator = s.operator := by
  unfold proveNext; split <;> simp [startDrive]

@[simp] theorem proveOver_frame (i : Nat) (s : State) :
    (proveOver i s).pending = s.pending ∧ (proveOver i s).supply = s.supply ∧ (proveOver i s).fitment = s.fitment ∧
    (proveOver i s).vehicle = s.vehicle ∧ (proveOver i s).operator = s.operator := by
  unfold proveOver; (repeat' split) <;> simp

@[simp] theorem inputRaw_frame (l : Line) (v : Bool) (s : State) :
    (inputRaw l v s).pending = s.pending ∧ (inputRaw l v s).supply = s.supply ∧ (inputRaw l v s).fitment = s.fitment ∧
    (inputRaw l v s).vehicle = s.vehicle := by
  unfold inputRaw; (repeat' split) <;> simp

@[simp] theorem inputExpiry_frame (l : Line) (s : State) :
    (inputExpiry l s).pending = s.pending ∧ (inputExpiry l s).supply = s.supply ∧ (inputExpiry l s).fitment = s.fitment ∧
    (inputExpiry l s).vehicle = s.vehicle := by
  unfold inputExpiry; dsimp only; (repeat' split) <;> simp

@[simp] theorem handExpiry_frame (t : Fin 2) (s : State) :
    (handExpiry t s).pending = s.pending ∧ (handExpiry t s).supply = s.supply ∧ (handExpiry t s).fitment = s.fitment ∧
    (handExpiry t s).vehicle = s.vehicle := by
  unfold handExpiry; (repeat' split) <;> simp

@[simp] theorem setLoopLine_frame (v : Bool) (s : State) :
    (setLoopLine v s).pending = s.pending ∧ (setLoopLine v s).supply = s.supply ∧ (setLoopLine v s).fitment = s.fitment ∧
    (setLoopLine v s).link = s.link ∧ (setLoopLine v s).seq = s.seq ∧ (setLoopLine v s).vehicle = s.vehicle ∧
    (setLoopLine v s).flow = s.flow ∧ (setLoopLine v s).trackers = s.trackers ∧ (setLoopLine v s).runs = s.runs ∧
    (setLoopLine v s).drive = s.drive ∧ (setLoopLine v s).beacon = s.beacon ∧ (setLoopLine v s).faults = s.faults ∧
    (setLoopLine v s).free = s.free := by
  simp [setLoopLine]

@[simp] theorem takeLoop_frame (v : Bool) (s : State) :
    (takeLoop v s).pending = s.pending ∧ (takeLoop v s).supply = s.supply ∧ (takeLoop v s).fitment = s.fitment ∧
    (takeLoop v s).link = s.link ∧ (takeLoop v s).seq = s.seq ∧ (takeLoop v s).vehicle = s.vehicle ∧
    (takeLoop v s).flow = s.flow ∧ (takeLoop v s).trackers = s.trackers ∧ (takeLoop v s).runs = s.runs ∧
    (takeLoop v s).drive = s.drive ∧ (takeLoop v s).beacon = s.beacon ∧ (takeLoop v s).faults = s.faults ∧
    (takeLoop v s).free = s.free := by
  simp [takeLoop]

@[simp] theorem estopOpening_frame (s : State) :
    (estopOpening s).pending = s.pending ∧ (estopOpening s).supply = s.supply ∧ (estopOpening s).fitment = s.fitment ∧
    (estopOpening s).vehicle = s.vehicle := by
  unfold estopOpening; dsimp only; split <;> simp

@[simp] theorem estopClosing_frame (s : State) :
    (estopClosing s).pending = s.pending ∧ (estopClosing s).supply = s.supply ∧ (estopClosing s).fitment = s.fitment ∧
    (estopClosing s).vehicle = s.vehicle := by
  unfold estopClosing; dsimp only; split <;> simp

@[simp] theorem loopOpens_frame (s : State) :
    (loopOpens s).pending = s.pending ∧ (loopOpens s).supply = s.supply ∧ (loopOpens s).fitment = s.fitment ∧
    (loopOpens s).vehicle = s.vehicle := by
  unfold loopOpens; dsimp only; split <;> simp

@[simp] theorem loopCloses_frame (s : State) :
    (loopCloses s).pending = s.pending ∧ (loopCloses s).supply = s.supply ∧ (loopCloses s).fitment = s.fitment ∧
    (loopCloses s).vehicle = s.vehicle := by
  unfold loopCloses; dsimp only; split <;> simp

@[simp] theorem releaseExpiry_frame (s : State) :
    (releaseExpiry s).pending = s.pending ∧ (releaseExpiry s).supply = s.supply ∧ (releaseExpiry s).fitment = s.fitment ∧
    (releaseExpiry s).vehicle = s.vehicle := by
  unfold releaseExpiry; (repeat' split) <;> simp

@[simp] theorem dropOverride_frame (p : LampPair) (s : State) :
    (dropOverride p s).pending = s.pending ∧ (dropOverride p s).supply = s.supply ∧ (dropOverride p s).fitment = s.fitment ∧
    (dropOverride p s).link = s.link ∧ (dropOverride p s).seq = s.seq ∧ (dropOverride p s).vehicle = s.vehicle ∧
    (dropOverride p s).flow = s.flow ∧ (dropOverride p s).trackers = s.trackers ∧ (dropOverride p s).runs = s.runs ∧
    (dropOverride p s).drive = s.drive ∧ (dropOverride p s).operator = s.operator ∧ (dropOverride p s).faults = s.faults ∧
    (dropOverride p s).free = s.free := by
  unfold dropOverride; (repeat' split) <;> simp

@[simp] theorem overrideExpiry_frame (p : LampPair) (s : State) :
    (overrideExpiry p s).pending = s.pending ∧ (overrideExpiry p s).supply = s.supply ∧ (overrideExpiry p s).fitment = s.fitment ∧
    (overrideExpiry p s).link = s.link ∧ (overrideExpiry p s).seq = s.seq ∧ (overrideExpiry p s).vehicle = s.vehicle ∧
    (overrideExpiry p s).flow = s.flow ∧ (overrideExpiry p s).trackers = s.trackers ∧ (overrideExpiry p s).runs = s.runs ∧
    (overrideExpiry p s).drive = s.drive ∧ (overrideExpiry p s).operator = s.operator ∧ (overrideExpiry p s).faults = s.faults ∧
    (overrideExpiry p s).free = s.free := by
  unfold overrideExpiry; (repeat' split) <;> simp

@[simp] theorem measureLamp_frame (l : Lamp) (i : Nat) (s : State) :
    (measureLamp l i s).pending = s.pending ∧ (measureLamp l i s).supply = s.supply ∧ (measureLamp l i s).fitment = s.fitment ∧
    (measureLamp l i s).vehicle = s.vehicle ∧ (measureLamp l i s).operator = s.operator := by
  unfold measureLamp; (repeat' split) <;> simp [setHealth]

@[simp] theorem shortLatch_frame (l : Lamp) (s : State) :
    (shortLatch l s).pending = s.pending ∧ (shortLatch l s).supply = s.supply ∧ (shortLatch l s).fitment = s.fitment ∧
    (shortLatch l s).link = s.link ∧ (shortLatch l s).seq = s.seq ∧ (shortLatch l s).vehicle = s.vehicle ∧
    (shortLatch l s).flow = s.flow ∧ (shortLatch l s).trackers = s.trackers ∧ (shortLatch l s).runs = s.runs ∧
    (shortLatch l s).drive = s.drive ∧ (shortLatch l s).operator = s.operator ∧ (shortLatch l s).faults = s.faults ∧
    (shortLatch l s).free = s.free := by
  unfold shortLatch; (repeat' split) <;> simp

@[simp] theorem shortLamp_frame (l : Lamp) (s : State) :
    (shortLamp l s).pending = s.pending ∧ (shortLamp l s).supply = s.supply ∧ (shortLamp l s).fitment = s.fitment ∧
    (shortLamp l s).vehicle = s.vehicle ∧ (shortLamp l s).operator = s.operator := by
  unfold shortLamp; (repeat' split) <;> simp

@[simp] theorem coldCapacity_frame (s : State) :
    (coldCapacity s).pending = s.pending ∧ (coldCapacity s).supply = s.supply ∧ (coldCapacity s).fitment = s.fitment ∧
    (coldCapacity s).link = s.link ∧ (coldCapacity s).seq = s.seq ∧ (coldCapacity s).vehicle = s.vehicle ∧
    (coldCapacity s).trackers = s.trackers ∧ (coldCapacity s).runs = s.runs ∧ (coldCapacity s).drive = s.drive ∧
    (coldCapacity s).operator = s.operator ∧ (coldCapacity s).beacon = s.beacon ∧ (coldCapacity s).faults = s.faults ∧
    (coldCapacity s).free = s.free := by
  simp [coldCapacity]

@[simp] theorem snapAll_frame (s : State) :
    (snapAll s).pending = s.pending ∧ (snapAll s).supply = s.supply ∧ (snapAll s).fitment = s.fitment ∧
    (snapAll s).vehicle = s.vehicle ∧ (snapAll s).operator = s.operator := by
  simp [snapAll, Axis.all]

@[simp] theorem emptyOrders_frame (s : State) :
    (emptyOrders s).pending = s.pending ∧ (emptyOrders s).supply = s.supply ∧ (emptyOrders s).fitment = s.fitment ∧
    (emptyOrders s).link = s.link ∧ (emptyOrders s).vehicle = s.vehicle ∧ (emptyOrders s).flow = s.flow ∧
    (emptyOrders s).trackers = s.trackers ∧ (emptyOrders s).drive = s.drive ∧ (emptyOrders s).operator = s.operator ∧
    (emptyOrders s).beacon = s.beacon ∧ (emptyOrders s).free = s.free := by
  simp [emptyOrders, Group.all]

@[simp] theorem releaseDrive_frame (s : State) :
    (releaseDrive s).pending = s.pending ∧ (releaseDrive s).supply = s.supply ∧ (releaseDrive s).fitment = s.fitment ∧
    (releaseDrive s).link = s.link ∧ (releaseDrive s).seq = s.seq ∧ (releaseDrive s).vehicle = s.vehicle ∧
    (releaseDrive s).flow = s.flow ∧ (releaseDrive s).trackers = s.trackers ∧ (releaseDrive s).runs = s.runs ∧
    (releaseDrive s).operator = s.operator ∧ (releaseDrive s).beacon = s.beacon := by
  simp [releaseDrive]

@[simp] theorem resetFlow_frame (s : State) :
    (resetFlow s).pending = s.pending ∧ (resetFlow s).supply = s.supply ∧ (resetFlow s).fitment = s.fitment ∧
    (resetFlow s).link = s.link ∧ (resetFlow s).seq = s.seq ∧ (resetFlow s).vehicle = s.vehicle ∧
    (resetFlow s).trackers = s.trackers ∧ (resetFlow s).runs = s.runs ∧ (resetFlow s).drive = s.drive ∧
    (resetFlow s).operator = s.operator ∧ (resetFlow s).beacon = s.beacon ∧ (resetFlow s).faults = s.faults ∧
    (resetFlow s).free = s.free := by
  unfold resetFlow; dsimp only; split <;> simp

@[simp] theorem resetInputs_frame (t : Timer) (s : State) :
    (resetInputs t s).pending = s.pending ∧ (resetInputs t s).supply = s.supply ∧ (resetInputs t s).fitment = s.fitment ∧
    (resetInputs t s).vehicle = s.vehicle ∧ (resetInputs t s).trackers = s.trackers := by
  simp [resetInputs]

@[simp] theorem resetFaults_frame (s : State) :
    (resetFaults s).pending = s.pending ∧ (resetFaults s).supply = s.supply ∧ (resetFaults s).fitment = s.fitment ∧
    (resetFaults s).link = s.link ∧ (resetFaults s).seq = s.seq ∧ (resetFaults s).vehicle = s.vehicle ∧
    (resetFaults s).flow = s.flow ∧ (resetFaults s).trackers = s.trackers ∧ (resetFaults s).runs = s.runs ∧
    (resetFaults s).drive = s.drive ∧ (resetFaults s).operator = s.operator ∧ (resetFaults s).beacon = s.beacon ∧
    (resetFaults s).free = s.free := by
  simp [resetFaults]

@[simp] theorem darken_frame (s : State) :
    (darken s).pending = s.pending ∧ (darken s).supply = s.supply ∧ (darken s).fitment = s.fitment ∧
    (darken s).link = s.link ∧ (darken s).seq = s.seq ∧ (darken s).vehicle = s.vehicle ∧
    (darken s).flow = s.flow ∧ (darken s).trackers = s.trackers ∧ (darken s).runs = s.runs ∧
    (darken s).drive = s.drive ∧ (darken s).operator = s.operator ∧ (darken s).faults = s.faults ∧
    (darken s).free = s.free := by
  simp [darken]

@[simp] theorem clearWork_frame (t : Timer) (s : State) :
    (clearWork t s).pending = s.pending ∧ (clearWork t s).supply = s.supply ∧ (clearWork t s).fitment = s.fitment ∧
    (clearWork t s).trackers = s.trackers := by
  simp [clearWork]

@[simp] theorem parkAll_frame (s : State) :
    (parkAll s).pending = s.pending ∧ (parkAll s).supply = s.supply ∧ (parkAll s).fitment = s.fitment ∧
    (parkAll s).link = s.link ∧ (parkAll s).seq = s.seq ∧ (parkAll s).vehicle = s.vehicle ∧
    (parkAll s).flow = s.flow ∧ (parkAll s).runs = s.runs ∧ (parkAll s).drive = s.drive ∧
    (parkAll s).operator = s.operator ∧ (parkAll s).beacon = s.beacon ∧ (parkAll s).faults = s.faults ∧
    (parkAll s).free = s.free := by
  simp [parkAll, Axis.all]

@[simp] theorem takeConditions_frame (s : State) :
    (takeConditions s).pending = s.pending ∧ (takeConditions s).supply = s.supply ∧ (takeConditions s).fitment = s.fitment ∧
    (takeConditions s).link = s.link ∧ (takeConditions s).seq = s.seq ∧ (takeConditions s).vehicle = s.vehicle ∧
    (takeConditions s).flow = s.flow ∧ (takeConditions s).trackers = s.trackers ∧ (takeConditions s).runs = s.runs ∧
    (takeConditions s).drive = s.drive ∧ (takeConditions s).operator = s.operator ∧ (takeConditions s).faults = s.faults ∧
    (takeConditions s).free = s.free := by
  simp [takeConditions]

@[simp] theorem heldEntry_frame (s : State) :
    (heldEntry s).pending = s.pending ∧ (heldEntry s).fitment = s.fitment := by
  simp [heldEntry]

@[simp] theorem restartEstop_frame (s : State) :
    (restartEstop s).pending = s.pending ∧ (restartEstop s).supply = s.supply ∧ (restartEstop s).fitment = s.fitment ∧
    (restartEstop s).seq = s.seq ∧ (restartEstop s).vehicle = s.vehicle ∧ (restartEstop s).flow = s.flow ∧
    (restartEstop s).trackers = s.trackers ∧ (restartEstop s).runs = s.runs ∧ (restartEstop s).drive = s.drive ∧
    (restartEstop s).beacon = s.beacon ∧ (restartEstop s).free = s.free := by
  unfold restartEstop; (repeat' first | split | dsimp only) <;> simp

@[simp] theorem restartTrackers_frame (s : State) :
    (restartTrackers s).pending = s.pending ∧ (restartTrackers s).supply = s.supply ∧ (restartTrackers s).fitment = s.fitment ∧
    (restartTrackers s).link = s.link ∧ (restartTrackers s).seq = s.seq ∧ (restartTrackers s).vehicle = s.vehicle ∧
    (restartTrackers s).flow = s.flow ∧ (restartTrackers s).runs = s.runs ∧ (restartTrackers s).drive = s.drive ∧
    (restartTrackers s).operator = s.operator ∧ (restartTrackers s).beacon = s.beacon ∧ (restartTrackers s).faults = s.faults ∧
    (restartTrackers s).free = s.free := by
  simp [restartTrackers]

@[simp] theorem warmTrackers_frame (c : ResetCause) (s : State) :
    (warmTrackers c s).pending = s.pending ∧ (warmTrackers c s).supply = s.supply ∧ (warmTrackers c s).fitment = s.fitment ∧
    (warmTrackers c s).vehicle = s.vehicle ∧ (warmTrackers c s).operator = s.operator := by
  unfold warmTrackers; (repeat' split) <;> simp

@[simp] theorem startPlayers_frame (s : State) :
    (startPlayers s).pending = s.pending ∧ (startPlayers s).supply = s.supply ∧ (startPlayers s).fitment = s.fitment ∧
    (startPlayers s).link = s.link ∧ (startPlayers s).seq = s.seq ∧ (startPlayers s).vehicle = s.vehicle ∧
    (startPlayers s).flow = s.flow ∧ (startPlayers s).trackers = s.trackers ∧ (startPlayers s).runs = s.runs ∧
    (startPlayers s).drive = s.drive ∧ (startPlayers s).operator = s.operator ∧ (startPlayers s).faults = s.faults ∧
    (startPlayers s).free = s.free := by
  simp [startPlayers, LampPair.all]

@[simp] theorem warmReset_frame (c : ResetCause) (s : State) :
    (warmReset c s).pending = s.pending ∧ (warmReset c s).fitment = s.fitment := by
  simp [warmReset]

@[simp] theorem leaveStandby_frame (s : State) :
    (leaveStandby s).pending = s.pending ∧ (leaveStandby s).fitment = s.fitment := by
  unfold leaveStandby; dsimp only; split <;> simp

@[simp] theorem enterStandby_frame (s : State) :
    (enterStandby s).pending = s.pending ∧ (enterStandby s).fitment = s.fitment ∧ (enterStandby s).link = s.link ∧
    (enterStandby s).seq = s.seq ∧ (enterStandby s).vehicle = s.vehicle ∧ (enterStandby s).runs = s.runs ∧
    (enterStandby s).beacon = s.beacon := by
  simp [enterStandby]

@[simp] theorem enableLow_frame (s : State) :
    (enableLow s).pending = s.pending ∧ (enableLow s).fitment = s.fitment := by
  unfold enableLow; (repeat' first | split | dsimp only) <;> simp

@[simp] theorem enableHigh_frame (s : State) :
    (enableHigh s).pending = s.pending ∧ (enableHigh s).fitment = s.fitment := by
  unfold enableHigh; (repeat' first | split | dsimp only) <;> simp [State.inMode]

@[simp] theorem lineBreak_frame (s : State) :
    (lineBreak s).pending = s.pending ∧ (lineBreak s).fitment = s.fitment := by
  unfold lineBreak; (repeat' first | split | dsimp only) <;> simp

@[simp] theorem standbyDue_frame (s : State) :
    (standbyDue s).pending = s.pending ∧ (standbyDue s).fitment = s.fitment := by
  unfold standbyDue; split <;> simp

@[simp] theorem frameGone_frame (s : State) :
    (frameGone s).pending = s.pending ∧ (frameGone s).fitment = s.fitment ∧ (frameGone s).seq = s.seq ∧
    (frameGone s).vehicle = s.vehicle ∧ (frameGone s).flow = s.flow ∧ (frameGone s).trackers = s.trackers ∧
    (frameGone s).runs = s.runs ∧ (frameGone s).drive = s.drive ∧ (frameGone s).operator = s.operator ∧
    (frameGone s).beacon = s.beacon ∧ (frameGone s).faults = s.faults ∧ (frameGone s).free = s.free := by
  unfold frameGone; (repeat' first | split | dsimp only) <;> simp

/-- A write of an open section leaves what its effect leaves. -/
theorem openWrite_cases (cs : List Bool) (w : State → State) (s : State) :
    (openWrite cs w s).1 = s ∨ (openWrite cs w s).1 = w s := by unfold openWrite; split <;> simp

/-- A write of a locked section leaves what its effect leaves, and does nothing while the fitment is LOCKED. -/
theorem lockedWrite_cases (cs : List Bool) (w : State → State) (s : State) :
    (lockedWrite cs w s).1 = s ∨ s.fitment.locked = false ∧ (lockedWrite cs w s).1 = w s := by
  unfold lockedWrite
  split
  · exact .inl rfl
  · rcases openWrite_cases cs w s with h | h
    · exact .inl h
    · exact .inr ⟨by simp_all, h⟩

@[simp] theorem fitEquipmentRequest_frame (r : EquipmentReq) (s : State) :
    (fitEquipmentRequest r s).1.pending = s.pending ∧ (fitEquipmentRequest r s).1.supply = s.supply ∧ (fitEquipmentRequest r s).1.vehicle = s.vehicle := by
  unfold fitEquipmentRequest; rcases lockedWrite_cases _ _ s with h | ⟨_, h⟩ <;> rw [h] <;> simp

@[simp] theorem fitChannelRequest_frame (r : ChannelReq) (s : State) :
    (fitChannelRequest r s).1.pending = s.pending ∧ (fitChannelRequest r s).1.supply = s.supply ∧ (fitChannelRequest r s).1.vehicle = s.vehicle := by
  unfold fitChannelRequest; rcases lockedWrite_cases _ _ s with h | ⟨_, h⟩ <;> rw [h] <;> simp

@[simp] theorem fitFlowRequest_frame (r : FlowReq) (s : State) :
    (fitFlowRequest r s).1.pending = s.pending ∧ (fitFlowRequest r s).1.supply = s.supply ∧ (fitFlowRequest r s).1.vehicle = s.vehicle := by
  unfold fitFlowRequest; rcases lockedWrite_cases _ _ s with h | ⟨_, h⟩ <;> rw [h] <;> simp

@[simp] theorem fitProfileRequest_frame (r : ProfileReq) (s : State) :
    (fitProfileRequest r s).1.pending = s.pending ∧ (fitProfileRequest r s).1.supply = s.supply ∧ (fitProfileRequest r s).1.vehicle = s.vehicle := by
  unfold fitProfileRequest; rcases lockedWrite_cases _ _ s with h | ⟨_, h⟩ <;> rw [h] <;> simp

@[simp] theorem fitTimingRequest_frame (r : TimingReq) (s : State) :
    (fitTimingRequest r s).1.pending = s.pending ∧ (fitTimingRequest r s).1.supply = s.supply ∧ (fitTimingRequest r s).1.vehicle = s.vehicle := by
  unfold fitTimingRequest; rcases lockedWrite_cases _ _ s with h | ⟨_, h⟩ <;> rw [h] <;> simp

@[simp] theorem fitPolicyRequest_frame (r : PolicyReq) (s : State) :
    (fitPolicyRequest r s).1.pending = s.pending ∧ (fitPolicyRequest r s).1.supply = s.supply ∧ (fitPolicyRequest r s).1.vehicle = s.vehicle := by
  unfold fitPolicyRequest; rcases lockedWrite_cases _ _ s with h | ⟨_, h⟩ <;> rw [h] <;> simp

@[simp] theorem fitSceneRequest_frame (r : SceneReq) (s : State) :
    (fitSceneRequest r s).1.pending = s.pending ∧ (fitSceneRequest r s).1.supply = s.supply ∧ (fitSceneRequest r s).1.vehicle = s.vehicle := by
  unfold fitSceneRequest openWrite; split <;> simp

@[simp] theorem dropLatch_frame (p : LampPair) (s : State) :
    (dropLatch p s).pending = s.pending ∧ (dropLatch p s).supply = s.supply ∧ (dropLatch p s).fitment = s.fitment ∧
    (dropLatch p s).link = s.link ∧ (dropLatch p s).seq = s.seq ∧ (dropLatch p s).vehicle = s.vehicle ∧
    (dropLatch p s).flow = s.flow ∧ (dropLatch p s).trackers = s.trackers ∧ (dropLatch p s).runs = s.runs ∧
    (dropLatch p s).drive = s.drive ∧ (dropLatch p s).operator = s.operator ∧ (dropLatch p s).faults = s.faults ∧
    (dropLatch p s).free = s.free := by
  unfold dropLatch; (repeat' split) <;> simp

@[simp] theorem fitLampsRequest_frame (r : LampsReq) (s : State) :
    (fitLampsRequest r s).1.pending = s.pending ∧ (fitLampsRequest r s).1.supply = s.supply ∧ (fitLampsRequest r s).1.vehicle = s.vehicle := by
  unfold fitLampsRequest; rcases lockedWrite_cases _ _ s with h | ⟨_, h⟩ <;> rw [h] <;> simp [LampPair.all]

@[simp] theorem fitAxisRequest_frame (r : AxisReq) (s : State) :
    (fitAxisRequest r s).1.pending = s.pending ∧ (fitAxisRequest r s).1.supply = s.supply ∧ (fitAxisRequest r s).1.vehicle = s.vehicle := by
  unfold fitAxisRequest; split <;> (rcases lockedWrite_cases _ _ s with h | ⟨_, h⟩ <;> rw [h] <;> simp [writeAxis])

@[simp] theorem fitInterlockRequest_frame (r : InterlockReq) (s : State) :
    (fitInterlockRequest r s).1.pending = s.pending ∧ (fitInterlockRequest r s).1.supply = s.supply ∧ (fitInterlockRequest r s).1.vehicle = s.vehicle := by
  unfold fitInterlockRequest; split
  · rcases lockedWrite_cases _ _ s with h | ⟨_, h⟩ <;> rw [h] <;> simp
  · simp

@[simp] theorem fitPatternRequest_frame (r : PatternReq) (s : State) :
    (fitPatternRequest r s).1.pending = s.pending ∧ (fitPatternRequest r s).1.supply = s.supply ∧ (fitPatternRequest r s).1.vehicle = s.vehicle := by
  unfold fitPatternRequest; split
  · rcases openWrite_cases _ _ s with h | h <;> rw [h] <;> simp
  · simp

@[simp] theorem fitReadRequest_frame (k : Byte) (i : Byte) (s : State) :
    (fitReadRequest k i s).1.pending = s.pending ∧ (fitReadRequest k i s).1.supply = s.supply ∧ (fitReadRequest k i s).1.fitment = s.fitment ∧
    (fitReadRequest k i s).1.link = s.link ∧ (fitReadRequest k i s).1.seq = s.seq ∧ (fitReadRequest k i s).1.vehicle = s.vehicle ∧
    (fitReadRequest k i s).1.flow = s.flow ∧ (fitReadRequest k i s).1.trackers = s.trackers ∧ (fitReadRequest k i s).1.runs = s.runs ∧
    (fitReadRequest k i s).1.drive = s.drive ∧ (fitReadRequest k i s).1.operator = s.operator ∧ (fitReadRequest k i s).1.beacon = s.beacon ∧
    (fitReadRequest k i s).1.faults = s.faults ∧ (fitReadRequest k i s).1.free = s.free := by
  unfold fitReadRequest; (repeat' split) <;> simp

@[simp] theorem fitLockRequest_frame (s : State) :
    (fitLockRequest s).1.pending = s.pending ∧ (fitLockRequest s).1.supply = s.supply ∧ (fitLockRequest s).1.vehicle = s.vehicle := by
  unfold fitLockRequest; (repeat' split) <;> simp

@[simp] theorem queryOrderRequest_frame (n : Nat) (s : State) :
    (queryOrderRequest n s).1.pending = s.pending ∧ (queryOrderRequest n s).1.supply = s.supply ∧ (queryOrderRequest n s).1.fitment = s.fitment ∧
    (queryOrderRequest n s).1.link = s.link ∧ (queryOrderRequest n s).1.seq = s.seq ∧ (queryOrderRequest n s).1.vehicle = s.vehicle ∧
    (queryOrderRequest n s).1.flow = s.flow ∧ (queryOrderRequest n s).1.trackers = s.trackers ∧ (queryOrderRequest n s).1.runs = s.runs ∧
    (queryOrderRequest n s).1.drive = s.drive ∧ (queryOrderRequest n s).1.operator = s.operator ∧ (queryOrderRequest n s).1.beacon = s.beacon ∧
    (queryOrderRequest n s).1.faults = s.faults ∧ (queryOrderRequest n s).1.free = s.free := by
  unfold queryOrderRequest; split <;> simp

@[simp] theorem queryStatusRequest_frame (b : Byte) (s : State) :
    (queryStatusRequest b s).1.pending = s.pending ∧ (queryStatusRequest b s).1.supply = s.supply ∧ (queryStatusRequest b s).1.fitment = s.fitment ∧
    (queryStatusRequest b s).1.link = s.link ∧ (queryStatusRequest b s).1.seq = s.seq ∧ (queryStatusRequest b s).1.vehicle = s.vehicle ∧
    (queryStatusRequest b s).1.flow = s.flow ∧ (queryStatusRequest b s).1.trackers = s.trackers ∧ (queryStatusRequest b s).1.runs = s.runs ∧
    (queryStatusRequest b s).1.drive = s.drive ∧ (queryStatusRequest b s).1.operator = s.operator ∧ (queryStatusRequest b s).1.beacon = s.beacon ∧
    (queryStatusRequest b s).1.faults = s.faults ∧ (queryStatusRequest b s).1.free = s.free := by
  unfold queryStatusRequest; split <;> simp

@[simp] theorem queryTableRequest_frame (s : State) :
    (queryTableRequest s).1.pending = s.pending ∧ (queryTableRequest s).1.supply = s.supply ∧ (queryTableRequest s).1.fitment = s.fitment ∧
    (queryTableRequest s).1.link = s.link ∧ (queryTableRequest s).1.seq = s.seq ∧ (queryTableRequest s).1.vehicle = s.vehicle ∧
    (queryTableRequest s).1.flow = s.flow ∧ (queryTableRequest s).1.trackers = s.trackers ∧ (queryTableRequest s).1.runs = s.runs ∧
    (queryTableRequest s).1.drive = s.drive ∧ (queryTableRequest s).1.operator = s.operator ∧ (queryTableRequest s).1.beacon = s.beacon ∧
    (queryTableRequest s).1.faults = s.faults ∧ (queryTableRequest s).1.free = s.free := by
  simp [queryTableRequest]

@[simp] theorem queryAxesRequest_frame (s : State) :
    (queryAxesRequest s).1.pending = s.pending ∧ (queryAxesRequest s).1.supply = s.supply ∧ (queryAxesRequest s).1.fitment = s.fitment ∧
    (queryAxesRequest s).1.link = s.link ∧ (queryAxesRequest s).1.seq = s.seq ∧ (queryAxesRequest s).1.vehicle = s.vehicle ∧
    (queryAxesRequest s).1.flow = s.flow ∧ (queryAxesRequest s).1.trackers = s.trackers ∧ (queryAxesRequest s).1.runs = s.runs ∧
    (queryAxesRequest s).1.drive = s.drive ∧ (queryAxesRequest s).1.operator = s.operator ∧ (queryAxesRequest s).1.beacon = s.beacon ∧
    (queryAxesRequest s).1.faults = s.faults ∧ (queryAxesRequest s).1.free = s.free := by
  simp [queryAxesRequest]

@[simp] theorem queryFaultsRequest_frame (s : State) :
    (queryFaultsRequest s).1.pending = s.pending ∧ (queryFaultsRequest s).1.supply = s.supply ∧ (queryFaultsRequest s).1.fitment = s.fitment ∧
    (queryFaultsRequest s).1.link = s.link ∧ (queryFaultsRequest s).1.seq = s.seq ∧ (queryFaultsRequest s).1.vehicle = s.vehicle ∧
    (queryFaultsRequest s).1.flow = s.flow ∧ (queryFaultsRequest s).1.trackers = s.trackers ∧ (queryFaultsRequest s).1.runs = s.runs ∧
    (queryFaultsRequest s).1.drive = s.drive ∧ (queryFaultsRequest s).1.operator = s.operator ∧ (queryFaultsRequest s).1.beacon = s.beacon ∧
    (queryFaultsRequest s).1.faults = s.faults ∧ (queryFaultsRequest s).1.free = s.free := by
  simp [queryFaultsRequest]

@[simp] theorem queryProveRequest_frame (s : State) :
    (queryProveRequest s).1.pending = s.pending ∧ (queryProveRequest s).1.supply = s.supply ∧ (queryProveRequest s).1.fitment = s.fitment ∧
    (queryProveRequest s).1.link = s.link ∧ (queryProveRequest s).1.seq = s.seq ∧ (queryProveRequest s).1.vehicle = s.vehicle ∧
    (queryProveRequest s).1.flow = s.flow ∧ (queryProveRequest s).1.trackers = s.trackers ∧ (queryProveRequest s).1.runs = s.runs ∧
    (queryProveRequest s).1.drive = s.drive ∧ (queryProveRequest s).1.operator = s.operator ∧ (queryProveRequest s).1.beacon = s.beacon ∧
    (queryProveRequest s).1.faults = s.faults ∧ (queryProveRequest s).1.free = s.free := by
  simp [queryProveRequest]

@[simp] theorem removeOrder_frame (n : Nat) (s : State) :
    (removeOrder n s).pending = s.pending ∧ (removeOrder n s).supply = s.supply ∧ (removeOrder n s).fitment = s.fitment ∧
    (removeOrder n s).link = s.link ∧ (removeOrder n s).vehicle = s.vehicle ∧ (removeOrder n s).flow = s.flow ∧
    (removeOrder n s).trackers = s.trackers ∧ (removeOrder n s).runs = s.runs ∧ (removeOrder n s).drive = s.drive ∧
    (removeOrder n s).operator = s.operator ∧ (removeOrder n s).beacon = s.beacon ∧ (removeOrder n s).faults = s.faults ∧
    (removeOrder n s).free = s.free := by
  simp [removeOrder]

@[simp] theorem makeRoom_frame (s : State) :
    (makeRoom s).pending = s.pending ∧ (makeRoom s).supply = s.supply ∧ (makeRoom s).fitment = s.fitment ∧
    (makeRoom s).link = s.link ∧ (makeRoom s).vehicle = s.vehicle ∧ (makeRoom s).flow = s.flow ∧
    (makeRoom s).trackers = s.trackers ∧ (makeRoom s).runs = s.runs ∧ (makeRoom s).drive = s.drive ∧
    (makeRoom s).operator = s.operator ∧ (makeRoom s).beacon = s.beacon ∧ (makeRoom s).faults = s.faults ∧
    (makeRoom s).free = s.free := by
  unfold makeRoom; (repeat' split) <;> simp

@[simp] theorem placeOrder_frame (o : Order) (s : State) :
    (placeOrder o s).pending = s.pending ∧ (placeOrder o s).supply = s.supply ∧ (placeOrder o s).fitment = s.fitment ∧
    (placeOrder o s).link = s.link ∧ (placeOrder o s).vehicle = s.vehicle ∧ (placeOrder o s).flow = s.flow ∧
    (placeOrder o s).trackers = s.trackers ∧ (placeOrder o s).runs = s.runs ∧ (placeOrder o s).drive = s.drive ∧
    (placeOrder o s).operator = s.operator ∧ (placeOrder o s).beacon = s.beacon ∧ (placeOrder o s).faults = s.faults := by
  simp [placeOrder]

@[simp] theorem takeOrder_frame (r : SubmitReq) (k : OrderKind) (b : Binding) (s : State) :
    (takeOrder r k b s).1.pending = s.pending ∧ (takeOrder r k b s).1.supply = s.supply ∧ (takeOrder r k b s).1.fitment = s.fitment ∧
    (takeOrder r k b s).1.vehicle = s.vehicle ∧ (takeOrder r k b s).1.operator = s.operator := by
  unfold takeOrder; dsimp only; (repeat' split) <;> simp

@[simp] theorem submitRequest_frame (r : SubmitReq) (s : State) :
    (submitRequest r s).1.pending = s.pending ∧ (submitRequest r s).1.supply = s.supply ∧ (submitRequest r s).1.fitment = s.fitment ∧
    (submitRequest r s).1.vehicle = s.vehicle ∧ (submitRequest r s).1.operator = s.operator := by
  unfold submitRequest; (repeat' split) <;> simp

@[simp] theorem cancelOrder_frame (o : Order) (s : State) :
    (cancelOrder o s).1.pending = s.pending ∧ (cancelOrder o s).1.supply = s.supply ∧ (cancelOrder o s).1.fitment = s.fitment ∧
    (cancelOrder o s).1.vehicle = s.vehicle ∧ (cancelOrder o s).1.operator = s.operator := by
  unfold cancelOrder; (repeat' split) <;> simp

@[simp] theorem cancelRequest_frame (n : Nat) (s : State) :
    (cancelRequest n s).1.pending = s.pending ∧ (cancelRequest n s).1.supply = s.supply ∧ (cancelRequest n s).1.fitment = s.fitment ∧
    (cancelRequest n s).1.vehicle = s.vehicle ∧ (cancelRequest n s).1.operator = s.operator := by
  unfold cancelRequest; split <;> simp

@[simp] theorem retireRequest_frame (n : Nat) (s : State) :
    (retireRequest n s).1.pending = s.pending ∧ (retireRequest n s).1.supply = s.supply ∧ (retireRequest n s).1.fitment = s.fitment ∧
    (retireRequest n s).1.link = s.link ∧ (retireRequest n s).1.vehicle = s.vehicle ∧ (retireRequest n s).1.flow = s.flow ∧
    (retireRequest n s).1.trackers = s.trackers ∧ (retireRequest n s).1.runs = s.runs ∧ (retireRequest n s).1.drive = s.drive ∧
    (retireRequest n s).1.operator = s.operator ∧ (retireRequest n s).1.beacon = s.beacon ∧ (retireRequest n s).1.faults = s.faults ∧
    (retireRequest n s).1.free = s.free := by
  unfold retireRequest; (repeat' split) <;> simp

@[simp] theorem acceptVehicle_frame (r : VehicleReq) (s : State) :
    (acceptVehicle r s).pending = s.pending ∧ (acceptVehicle r s).supply = s.supply ∧ (acceptVehicle r s).fitment = s.fitment ∧
    (acceptVehicle r s).operator = s.operator := by
  unfold acceptVehicle; (repeat' first | split | dsimp only) <;> simp

@[simp] theorem vehicleRequest_frame (r : VehicleReq) (s : State) :
    (vehicleRequest r s).1.pending = s.pending ∧ (vehicleRequest r s).1.supply = s.supply ∧ (vehicleRequest r s).1.fitment = s.fitment ∧
    (vehicleRequest r s).1.operator = s.operator := by
  unfold vehicleRequest; (repeat' split) <;> simp

@[simp] theorem clearFaultsRequest_frame (s : State) :
    (clearFaultsRequest s).1.pending = s.pending ∧ (clearFaultsRequest s).1.supply = s.supply ∧ (clearFaultsRequest s).1.fitment = s.fitment ∧
    (clearFaultsRequest s).1.vehicle = s.vehicle ∧ (clearFaultsRequest s).1.operator = s.operator := by
  simp [clearFaultsRequest]

@[simp] theorem abortGroup_frame (g : Group) (s : State) :
    (abortGroup g s).pending = s.pending ∧ (abortGroup g s).supply = s.supply ∧ (abortGroup g s).fitment = s.fitment ∧
    (abortGroup g s).vehicle = s.vehicle ∧ (abortGroup g s).drive = s.drive ∧ (abortGroup g s).operator = s.operator ∧
    (abortGroup g s).free = s.free := by
  unfold abortGroup; dsimp only; split <;> simp

@[simp] theorem releaseGroup_frame (g : Group) (s : State) :
    (releaseGroup g s).pending = s.pending ∧ (releaseGroup g s).supply = s.supply ∧ (releaseGroup g s).fitment = s.fitment ∧
    (releaseGroup g s).link = s.link ∧ (releaseGroup g s).seq = s.seq ∧ (releaseGroup g s).vehicle = s.vehicle ∧
    (releaseGroup g s).flow = s.flow ∧ (releaseGroup g s).trackers = s.trackers ∧ (releaseGroup g s).runs = s.runs ∧
    (releaseGroup g s).operator = s.operator ∧ (releaseGroup g s).beacon = s.beacon := by
  simp [releaseGroup]

@[simp] theorem resetGroup_frame (g : Group) (s : State) :
    (resetGroup g s).pending = s.pending ∧ (resetGroup g s).supply = s.supply ∧ (resetGroup g s).fitment = s.fitment ∧
    (resetGroup g s).vehicle = s.vehicle ∧ (resetGroup g s).operator = s.operator := by
  simp [resetGroup]

@[simp] theorem groupResetRequest_frame (b : Byte) (s : State) :
    (groupResetRequest b s).1.pending = s.pending ∧ (groupResetRequest b s).1.supply = s.supply ∧ (groupResetRequest b s).1.fitment = s.fitment ∧
    (groupResetRequest b s).1.vehicle = s.vehicle ∧ (groupResetRequest b s).1.operator = s.operator := by
  unfold groupResetRequest; (repeat' split) <;> simp

@[simp] theorem clearStop_frame (s : State) :
    (clearStop s).pending = s.pending ∧ (clearStop s).supply = s.supply ∧ (clearStop s).fitment = s.fitment ∧
    (clearStop s).vehicle = s.vehicle := by
  simp [clearStop]

@[simp] theorem stopResetRequest_frame (s : State) :
    (stopResetRequest s).1.pending = s.pending ∧ (stopResetRequest s).1.supply = s.supply ∧ (stopResetRequest s).1.fitment = s.fitment ∧
    (stopResetRequest s).1.vehicle = s.vehicle := by
  unfold stopResetRequest; split <;> simp

@[simp] theorem proveRequest_frame (s : State) :
    (proveRequest s).1.pending = s.pending ∧ (proveRequest s).1.supply = s.supply ∧ (proveRequest s).1.fitment = s.fitment ∧
    (proveRequest s).1.vehicle = s.vehicle ∧ (proveRequest s).1.operator = s.operator := by
  unfold proveRequest; (repeat' split) <;> simp

@[simp] theorem setOverrideTo_frame (p : LampPair) (r : OverrideReq) (s : State) :
    (setOverrideTo p r s).pending = s.pending ∧ (setOverrideTo p r s).supply = s.supply ∧ (setOverrideTo p r s).fitment = s.fitment ∧
    (setOverrideTo p r s).link = s.link ∧ (setOverrideTo p r s).seq = s.seq ∧ (setOverrideTo p r s).vehicle = s.vehicle ∧
    (setOverrideTo p r s).flow = s.flow ∧ (setOverrideTo p r s).trackers = s.trackers ∧ (setOverrideTo p r s).runs = s.runs ∧
    (setOverrideTo p r s).drive = s.drive ∧ (setOverrideTo p r s).operator = s.operator ∧ (setOverrideTo p r s).faults = s.faults ∧
    (setOverrideTo p r s).free = s.free := by
  simp [setOverrideTo]

@[simp] theorem beaconOverrideRequest_frame (r : OverrideReq) (s : State) :
    (beaconOverrideRequest r s).1.pending = s.pending ∧ (beaconOverrideRequest r s).1.supply = s.supply ∧ (beaconOverrideRequest r s).1.fitment = s.fitment ∧
    (beaconOverrideRequest r s).1.link = s.link ∧ (beaconOverrideRequest r s).1.seq = s.seq ∧ (beaconOverrideRequest r s).1.vehicle = s.vehicle ∧
    (beaconOverrideRequest r s).1.flow = s.flow ∧ (beaconOverrideRequest r s).1.trackers = s.trackers ∧ (beaconOverrideRequest r s).1.runs = s.runs ∧
    (beaconOverrideRequest r s).1.drive = s.drive ∧ (beaconOverrideRequest r s).1.operator = s.operator ∧ (beaconOverrideRequest r s).1.faults = s.faults ∧
    (beaconOverrideRequest r s).1.free = s.free := by
  unfold beaconOverrideRequest; (repeat' first | split | dsimp only) <;> simp

@[simp] theorem setOutputTo_frame (p : LampPair) (v : Bool) (s : State) :
    (setOutputTo p v s).pending = s.pending ∧ (setOutputTo p v s).supply = s.supply ∧ (setOutputTo p v s).fitment = s.fitment ∧
    (setOutputTo p v s).link = s.link ∧ (setOutputTo p v s).seq = s.seq ∧ (setOutputTo p v s).vehicle = s.vehicle ∧
    (setOutputTo p v s).flow = s.flow ∧ (setOutputTo p v s).trackers = s.trackers ∧ (setOutputTo p v s).runs = s.runs ∧
    (setOutputTo p v s).drive = s.drive ∧ (setOutputTo p v s).operator = s.operator ∧ (setOutputTo p v s).faults = s.faults ∧
    (setOutputTo p v s).free = s.free := by
  unfold setOutputTo; dsimp only; split <;> simp

@[simp] theorem setOutputRequest_frame (l : Byte) (v : Byte) (s : State) :
    (setOutputRequest l v s).1.pending = s.pending ∧ (setOutputRequest l v s).1.supply = s.supply ∧ (setOutputRequest l v s).1.fitment = s.fitment ∧
    (setOutputRequest l v s).1.link = s.link ∧ (setOutputRequest l v s).1.seq = s.seq ∧ (setOutputRequest l v s).1.vehicle = s.vehicle ∧
    (setOutputRequest l v s).1.flow = s.flow ∧ (setOutputRequest l v s).1.trackers = s.trackers ∧ (setOutputRequest l v s).1.runs = s.runs ∧
    (setOutputRequest l v s).1.drive = s.drive ∧ (setOutputRequest l v s).1.operator = s.operator ∧ (setOutputRequest l v s).1.faults = s.faults ∧
    (setOutputRequest l v s).1.free = s.free := by
  unfold setOutputRequest; (repeat' split) <;> simp

@[simp] theorem standbyRequest_frame (s : State) :
    (standbyRequest s).1.pending = s.pending ∧ (standbyRequest s).1.fitment = s.fitment ∧ (standbyRequest s).1.link = s.link ∧
    (standbyRequest s).1.seq = s.seq ∧ (standbyRequest s).1.vehicle = s.vehicle ∧ (standbyRequest s).1.flow = s.flow ∧
    (standbyRequest s).1.trackers = s.trackers ∧ (standbyRequest s).1.runs = s.runs ∧ (standbyRequest s).1.drive = s.drive ∧
    (standbyRequest s).1.operator = s.operator ∧ (standbyRequest s).1.beacon = s.beacon ∧ (standbyRequest s).1.faults = s.faults ∧
    (standbyRequest s).1.free = s.free := by
  unfold standbyRequest; split <;> simp

@[simp] theorem serve_pending (k : ReqKind) (p : List Byte) (s : State) : (serve k p s).1.pending = s.pending := by
  cases k <;> simp [serve]

@[simp] theorem answer_pending (f : Frame) (s : State) : (answer f s).1.pending = s.pending := by
  unfold answer; (repeat' split) <;> simp

end Sys2Proof.Machine
end

