-- ==== Sys2Proof/Laws/Exec.lean ====
section
/-! SUPPORT. What one command can do, said once: it leaves the state as it is, it is a power-on reset, or it has its effect and the
event ends (exec_next). A statement about every command goes by the cases of Effect. -/

namespace Sys2Proof.Machine

/-- The effect of a command before the end of its event, where the part takes the command. A request is given with the reply
it puts into the reply path. -/
inductive Effect : Instr → State → State → Prop
  | fitEquipment (tag : Byte) (r : EquipmentReq) {s : State} (h : s.answers) :
    Effect (.fitEquipment tag r) s (queueReply false ReqKind.fitEquipment.code tag (fitEquipmentRequest r s).2 (fitEquipmentRequest r s).1)
  | fitAxis (tag : Byte) (r : AxisReq) {s : State} (h : s.answers) :
    Effect (.fitAxis tag r) s (queueReply false ReqKind.fitAxis.code tag (fitAxisRequest r s).2 (fitAxisRequest r s).1)
  | fitChannel (tag : Byte) (r : ChannelReq) {s : State} (h : s.answers) :
    Effect (.fitChannel tag r) s (queueReply false ReqKind.fitChannel.code tag (fitChannelRequest r s).2 (fitChannelRequest r s).1)
  | fitFlow (tag : Byte) (r : FlowReq) {s : State} (h : s.answers) :
    Effect (.fitFlow tag r) s (queueReply false ReqKind.fitFlow.code tag (fitFlowRequest r s).2 (fitFlowRequest r s).1)
  | fitProfile (tag : Byte) (r : ProfileReq) {s : State} (h : s.answers) :
    Effect (.fitProfile tag r) s (queueReply false ReqKind.fitProfile.code tag (fitProfileRequest r s).2 (fitProfileRequest r s).1)
  | fitTiming (tag : Byte) (r : TimingReq) {s : State} (h : s.answers) :
    Effect (.fitTiming tag r) s (queueReply false ReqKind.fitTiming.code tag (fitTimingRequest r s).2 (fitTimingRequest r s).1)
  | fitPolicy (tag : Byte) (r : PolicyReq) {s : State} (h : s.answers) :
    Effect (.fitPolicy tag r) s (queueReply false ReqKind.fitPolicy.code tag (fitPolicyRequest r s).2 (fitPolicyRequest r s).1)
  | fitInterlock (tag : Byte) (r : InterlockReq) {s : State} (h : s.answers) :
    Effect (.fitInterlock tag r) s (queueReply false ReqKind.fitInterlock.code tag (fitInterlockRequest r s).2 (fitInterlockRequest r s).1)
  | fitLamps (tag : Byte) (r : LampsReq) {s : State} (h : s.answers) :
    Effect (.fitLamps tag r) s (queueReply false ReqKind.fitLamps.code tag (fitLampsRequest r s).2 (fitLampsRequest r s).1)
  | fitPattern (tag : Byte) (r : PatternReq) {s : State} (h : s.answers) :
    Effect (.fitPattern tag r) s (queueReply false ReqKind.fitPattern.code tag (fitPatternRequest r s).2 (fitPatternRequest r s).1)
  | fitScene (tag : Byte) (r : SceneReq) {s : State} (h : s.answers) :
    Effect (.fitScene tag r) s (queueReply false ReqKind.fitScene.code tag (fitSceneRequest r s).2 (fitSceneRequest r s).1)
  | fitRead (tag : Byte) (kind index : Byte) {s : State} (h : s.answers) :
    Effect (.fitRead tag kind index) s (queueReply false ReqKind.fitRead.code tag (fitReadRequest kind index s).2 (fitReadRequest kind index s).1)
  | fitLock (tag : Byte) {s : State} (h : s.answers) :
    Effect (.fitLock tag) s (queueReply false ReqKind.fitLock.code tag (fitLockRequest s).2 (fitLockRequest s).1)
  | submit (tag : Byte) (r : SubmitReq) {s : State} (h : s.answers) :
    Effect (.submit tag r) s (queueReply false ReqKind.submit.code tag (submitRequest r s).2 (submitRequest r s).1)
  | cancel (tag : Byte) (number : U16) {s : State} (h : s.answers) :
    Effect (.cancel tag number) s (queueReply false ReqKind.cancel.code tag (cancelRequest number.toNat s).2 (cancelRequest number.toNat s).1)
  | retire (tag : Byte) (number : U16) {s : State} (h : s.answers) :
    Effect (.retire tag number) s (queueReply false ReqKind.retire.code tag (retireRequest number.toNat s).2 (retireRequest number.toNat s).1)
  | queryOrder (tag : Byte) (number : U16) {s : State} (h : s.answers) :
    Effect (.queryOrder tag number) s (queueReply false ReqKind.queryOrder.code tag (queryOrderRequest number.toNat s).2 (queryOrderRequest number.toNat s).1)
  | queryTable (tag : Byte) {s : State} (h : s.answers) :
    Effect (.queryTable tag) s (queueReply false ReqKind.queryTable.code tag (queryTableRequest s).2 (queryTableRequest s).1)
  | vehicle (tag : Byte) (r : VehicleReq) {s : State} (h : s.answers) :
    Effect (.vehicle tag r) s (queueReply false ReqKind.vehicle.code tag (vehicleRequest r s).2 (vehicleRequest r s).1)
  | queryAxes (tag : Byte) {s : State} (h : s.answers) :
    Effect (.queryAxes tag) s (queueReply false ReqKind.queryAxes.code tag (queryAxesRequest s).2 (queryAxesRequest s).1)
  | queryStatus (tag : Byte) (sec : Byte) {s : State} (h : s.answers) :
    Effect (.queryStatus tag sec) s (queueReply false ReqKind.queryStatus.code tag (queryStatusRequest sec s).2 (queryStatusRequest sec s).1)
  | queryFaults (tag : Byte) {s : State} (h : s.answers) :
    Effect (.queryFaults tag) s (queueReply false ReqKind.queryFaults.code tag (queryFaultsRequest s).2 (queryFaultsRequest s).1)
  | clearFaults (tag : Byte) {s : State} (h : s.answers) :
    Effect (.clearFaults tag) s (queueReply false ReqKind.clearFaults.code tag (clearFaultsRequest s).2 (clearFaultsRequest s).1)
  | groupReset (tag : Byte) (group : Byte) {s : State} (h : s.answers) :
    Effect (.groupReset tag group) s (queueReply false ReqKind.groupReset.code tag (groupResetRequest group s).2 (groupResetRequest group s).1)
  | stopReset (tag : Byte) {s : State} (h : s.answers) :
    Effect (.stopReset tag) s (queueReply false ReqKind.stopReset.code tag (stopResetRequest s).2 (stopResetRequest s).1)
  | prove (tag : Byte) {s : State} (h : s.answers) :
    Effect (.prove tag) s (queueReply false ReqKind.prove.code tag (proveRequest s).2 (proveRequest s).1)
  | queryProve (tag : Byte) {s : State} (h : s.answers) :
    Effect (.queryProve tag) s (queueReply false ReqKind.queryProve.code tag (queryProveRequest s).2 (queryProveRequest s).1)
  | beaconOverride (tag : Byte) (r : OverrideReq) {s : State} (h : s.answers) :
    Effect (.beaconOverride tag r) s (queueReply false ReqKind.beaconOverride.code tag (beaconOverrideRequest r s).2 (beaconOverrideRequest r s).1)
  | setOutput (tag : Byte) (line value : Byte) {s : State} (h : s.answers) :
    Effect (.setOutput tag line value) s (queueReply false ReqKind.setOutput.code tag (setOutputRequest line value s).2 (setOutputRequest line value s).1)
  | standby (tag : Byte) {s : State} (h : s.answers) :
    Effect (.standby tag) s (queueReply false ReqKind.standby.code tag (standbyRequest s).2 (standbyRequest s).1)
  | enableTakenLow {s : State} : Effect .enableTakenLow s (enableLow s)
  | enableTakenHigh {s : State} : Effect .enableTakenHigh s (enableHigh s)
  | lineBreak {s : State} : Effect .lineBreak s (lineBreak s)
  | standbyEntry {s : State} (h : s.supply.mode = .run) : Effect .standbyEntry s (standbyDue s)
  | frameGapTimeout {s : State} (h : s.supply.mode = .run) : Effect .frameGapTimeout s (s.modLink Link.gapOut)
  | framingError {s : State} (h : s.supply.mode = .run) : Effect .framingError s (s.modLink fun l => l.judge.hunt)
  | frameComplete {s : State} (h : s.supply.mode = .run) : Effect .frameComplete s (s.modLink Link.complete)
  | checkMismatch {s : State} (h : s.supply.mode = .run) : Effect .checkMismatch s (s.modLink Link.mismatch)
  | requestHandedOn {s : State} (h : s.supply.mode = .run) : Effect .requestHandedOn s (handOn s)
  | frameSent {s : State} (h : s.supply.mode = .run) : Effect .frameSent s (frameGone s)
  | controlInterval (g : Group) {s : State} (h : s.supply.mode = .run) : Effect (.controlInterval g) s (interval g s)
  | blockWindowExpiry (g : Group) {s : State} (h : s.supply.mode = .run) : Effect (.blockWindowExpiry g) s (blockExpiry g s)
  | holdWindowExpiry (g : Group) {s : State} (h : s.supply.mode = .run) : Effect (.holdWindowExpiry g) s (holdExpiry g s)
  | settleTimerExpiry (g : Group) {s : State} (h : s.supply.mode = .run) : Effect (.settleTimerExpiry g) s (settleExpiry g s)
  | latchCheckTimerExpiry (g : Group) {s : State} (h : s.supply.mode = .run) : Effect (.latchCheckTimerExpiry g) s (latchCheckExpiry g s)
  | timeLimitReached (g : Group) {s : State} (h : s.supply.mode = .run) : Effect (.timeLimitReached g) s (limitReached g s)
  | statusTimerExpiry {s : State} (h : s.supply.mode = .run) : Effect .statusTimerExpiry s (statusExpiry s)
  | startTimerExpiry {s : State} (h : s.supply.mode = .run) : Effect .startTimerExpiry s (startExpiry s)
  | runOnTimerExpiry {s : State} (h : s.supply.mode = .run) : Effect .runOnTimerExpiry s (runOnExpiry s)
  | stuckTimerExpiry {s : State} (h : s.supply.mode = .run) : Effect .stuckTimerExpiry s (stuckExpiry s)
  | pulseCounted (a : Axis) (forward : Bool) {s : State} (h : s.supply.mode ≠ .standby) : Effect (.pulseCounted a forward) s (pulse a forward s)
  | trackerWindowEnd (a : Axis) {s : State} (h : s.supply.mode ≠ .standby) : Effect (.trackerWindowEnd a) s (windowOver a s)
  | homeSwitchRawChange (a : Axis) (level : Bool) {s : State} : Effect (.homeSwitchRawChange a level) s (homeRaw a level s)
  | homeSwitchDebounceExpiry (a : Axis) {s : State} (h : s.supply.mode ≠ .standby) : Effect (.homeSwitchDebounceExpiry a) s (homeExpiry a s)
  | inputRawChange (l : Line) (level : Bool) {s : State} : Effect (.inputRawChange l level) s (inputRaw l level s)
  | inputDebounceExpiry (l : Line) {s : State} (h : s.supply.mode = .run) : Effect (.inputDebounceExpiry l) s (inputExpiry l s)
  | twoHandWindowExpiry (t : Fin 2) {s : State} (h : s.supply.mode = .run) : Effect (.twoHandWindowExpiry t) s (handExpiry t s)
  | loopOpening {s : State} : Effect .loopOpening s (loopOpens s)
  | loopClosing {s : State} : Effect .loopClosing s (loopCloses s)
  | releaseTimerExpiry {s : State} (h : s.supply.mode = .run) : Effect .releaseTimerExpiry s (releaseExpiry s)
  | periodBoundary (c : PropChannel) {s : State} (h : s.supply.mode = .run) : Effect (.periodBoundary c) s (boundary (c.castLE (by decide)) s)
  | deadTimeExpiry (p : PairNo) {s : State} (h : s.supply.mode ≠ .standby) : Effect (.deadTimeExpiry p) s (deadExpiry p s)
  | pulseTimerExpiry (d : Side) {s : State} (h : s.supply.mode = .run) : Effect (.pulseTimerExpiry d) s (pulseExpiry d s)
  | latchCoilCheck (d : Side) (current : Nat) {s : State} (h : s.supply.mode = .run) : Effect (.latchCoilCheck d current) s (pulseCheck d current s)
  | coilMeasurement (c : PropChannel) (current : Nat) {s : State} (h : s.supply.mode = .run) : Effect (.coilMeasurement c current) s (measure (c.castLE (by decide)) current s)
  | coilShortDetected (c : Channel) {s : State} (h : s.supply.mode = .run) : Effect (.coilShortDetected c) s (coilShort c s)
  | provingDriveStart {s : State} (h : s.supply.mode = .run) : Effect .provingDriveStart s (proveNext s)
  | provingDriveEnd (current : Nat) {s : State} (h : s.supply.mode = .run) : Effect (.provingDriveEnd current) s (proveOver current s)
  | stepTimerExpiry (p : LampPair) {s : State} (h : s.supply.mode = .run) : Effect (.stepTimerExpiry p) s (stepExpiry p s)
  | overrideTimerExpiry (p : LampPair) {s : State} (h : s.supply.mode = .run) : Effect (.overrideTimerExpiry p) s (overrideExpiry p s)
  | lampMeasurement (l : Lamp) (current : Nat) {s : State} (h : s.supply.mode = .run) : Effect (.lampMeasurement l current) s (measureLamp l current s)
  | lampShortDetected (l : Lamp) {s : State} (h : s.supply.mode = .run) : Effect (.lampShortDetected l) s (shortLamp l s)
  | resettingTimerExpiry (g : Group) {s : State} (h : s.supply.mode = .run) : Effect (.resettingTimerExpiry g) s (resettingExpiry g s)
  | byteReceived (b : Byte) {s : State} (h : s.supply.mode = .run) : Effect (.byteReceived b) s (s.modLink (Link.byte b))
  | receiveLineReturnedHigh {s : State} : Effect .receiveLineReturnedHigh s (s.modLink fun l => { l with breakReported := false })

/-- What a command answers. -/
inductive Outcomes (c : Instr) (s : State) : State → Prop
  | powerOn (h : c = .powerOnReset) : Outcomes c s (powerOn s)
  | idle (h : c ≠ .powerOnReset) : Outcomes c s s
  | effect {a : State} (h : Effect c s a) : Outcomes c s (finish s a)

theorem runEvent_eq (f : State → State) (s : State) :
    runEvent f s = .next (if s.supply.mode = .run then finish s (f s) else s) := by
  unfold runEvent event; split <;> rfl

theorem awakeEvent_eq (f : State → State) (s : State) :
    awakeEvent f s = .next (if s.supply.mode = .standby then s else finish s (f s)) := by
  unfold awakeEvent event; split <;> rfl

theorem request_eq (k : ReqKind) (tag : Byte) (f : State → State × Reply) (s : State) :
    request k tag f s =
      .next (if s.supply.mode = .run ∧ s.supply.standby = .none then
        finish s (queueReply false k.code tag (f s).2 (f s).1) else s) := by
  unfold request event; split <;> rfl

/-- Every command answers a next state, by one of the outcomes above. -/
theorem exec_next (c : Instr) (s : State) : ∃ t, exec c s = .next t ∧ Outcomes c s t := by
  cases c
  case powerOnReset => exact ⟨_, rfl, .powerOn rfl⟩
  case fitEquipment tag r =>
    refine ⟨_, request_eq _ _ _ _, ?_⟩
    split
    · exact .effect (.fitEquipment _ _ ‹_›)
    · exact .idle (by simp)
  case fitAxis tag r =>
    refine ⟨_, request_eq _ _ _ _, ?_⟩
    split
    · exact .effect (.fitAxis _ _ ‹_›)
    · exact .idle (by simp)
  case fitChannel tag r =>
    refine ⟨_, request_eq _ _ _ _, ?_⟩
    split
    · exact .effect (.fitChannel _ _ ‹_›)
    · exact .idle (by simp)
  case fitFlow tag r =>
    refine ⟨_, request_eq _ _ _ _, ?_⟩
    split
    · exact .effect (.fitFlow _ _ ‹_›)
    · exact .idle (by simp)
  case fitProfile tag r =>
    refine ⟨_, request_eq _ _ _ _, ?_⟩
    split
    · exact .effect (.fitProfile _ _ ‹_›)
    · exact .idle (by simp)
  case fitTiming tag r =>
    refine ⟨_, request_eq _ _ _ _, ?_⟩
    split
    · exact .effect (.fitTiming _ _ ‹_›)
    · exact .idle (by simp)
  case fitPolicy tag r =>
    refine ⟨_, request_eq _ _ _ _, ?_⟩
    split
    · exact .effect (.fitPolicy _ _ ‹_›)
    · exact .idle (by simp)
  case fitInterlock tag r =>
    refine ⟨_, request_eq _ _ _ _, ?_⟩
    split
    · exact .effect (.fitInterlock _ _ ‹_›)
    · exact .idle (by simp)
  case fitLamps tag r =>
    refine ⟨_, request_eq _ _ _ _, ?_⟩
    split
    · exact .effect (.fitLamps _ _ ‹_›)
    · exact .idle (by simp)
  case fitPattern tag r =>
    refine ⟨_, request_eq _ _ _ _, ?_⟩
    split
    · exact .effect (.fitPattern _ _ ‹_›)
    · exact .idle (by simp)
  case fitScene tag r =>
    refine ⟨_, request_eq _ _ _ _, ?_⟩
    split
    · exact .effect (.fitScene _ _ ‹_›)
    · exact .idle (by simp)
  case fitRead tag kind index =>
    refine ⟨_, request_eq _ _ _ _, ?_⟩
    split
    · exact .effect (.fitRead _ _ _ ‹_›)
    · exact .idle (by simp)
  case fitLock tag =>
    refine ⟨_, request_eq _ _ _ _, ?_⟩
    split
    · exact .effect (.fitLock _ ‹_›)
    · exact .idle (by simp)
  case submit tag r =>
    refine ⟨_, request_eq _ _ _ _, ?_⟩
    split
    · exact .effect (.submit _ _ ‹_›)
    · exact .idle (by simp)
  case cancel tag number =>
    refine ⟨_, request_eq _ _ _ _, ?_⟩
    split
    · exact .effect (.cancel _ _ ‹_›)
    · exact .idle (by simp)
  case retire tag number =>
    refine ⟨_, request_eq _ _ _ _, ?_⟩
    split
    · exact .effect (.retire _ _ ‹_›)
    · exact .idle (by simp)
  case queryOrder tag number =>
    refine ⟨_, request_eq _ _ _ _, ?_⟩
    split
    · exact .effect (.queryOrder _ _ ‹_›)
    · exact .idle (by simp)
  case queryTable tag =>
    refine ⟨_, request_eq _ _ _ _, ?_⟩
    split
    · exact .effect (.queryTable _ ‹_›)
    · exact .idle (by simp)
  case vehicle tag r =>
    refine ⟨_, request_eq _ _ _ _, ?_⟩
    split
    · exact .effect (.vehicle _ _ ‹_›)
    · exact .idle (by simp)
  case queryAxes tag =>
    refine ⟨_, request_eq _ _ _ _, ?_⟩
    split
    · exact .effect (.queryAxes _ ‹_›)
    · exact .idle (by simp)
  case queryStatus tag sec =>
    refine ⟨_, request_eq _ _ _ _, ?_⟩
    split
    · exact .effect (.queryStatus _ _ ‹_›)
    · exact .idle (by simp)
  case queryFaults tag =>
    refine ⟨_, request_eq _ _ _ _, ?_⟩
    split
    · exact .effect (.queryFaults _ ‹_›)
    · exact .idle (by simp)
  case clearFaults tag =>
    refine ⟨_, request_eq _ _ _ _, ?_⟩
    split
    · exact .effect (.clearFaults _ ‹_›)
    · exact .idle (by simp)
  case groupReset tag group =>
    refine ⟨_, request_eq _ _ _ _, ?_⟩
    split
    · exact .effect (.groupReset _ _ ‹_›)
    · exact .idle (by simp)
  case stopReset tag =>
    refine ⟨_, request_eq _ _ _ _, ?_⟩
    split
    · exact .effect (.stopReset _ ‹_›)
    · exact .idle (by simp)
  case prove tag =>
    refine ⟨_, request_eq _ _ _ _, ?_⟩
    split
    · exact .effect (.prove _ ‹_›)
    · exact .idle (by simp)
  case queryProve tag =>
    refine ⟨_, request_eq _ _ _ _, ?_⟩
    split
    · exact .effect (.queryProve _ ‹_›)
    · exact .idle (by simp)
  case beaconOverride tag r =>
    refine ⟨_, request_eq _ _ _ _, ?_⟩
    split
    · exact .effect (.beaconOverride _ _ ‹_›)
    · exact .idle (by simp)
  case setOutput tag line value =>
    refine ⟨_, request_eq _ _ _ _, ?_⟩
    split
    · exact .effect (.setOutput _ _ _ ‹_›)
    · exact .idle (by simp)
  case standby tag =>
    refine ⟨_, request_eq _ _ _ _, ?_⟩
    split
    · exact .effect (.standby _ ‹_›)
    · exact .idle (by simp)
  case enableTakenLow => exact ⟨_, rfl, .effect .enableTakenLow⟩
  case enableTakenHigh => exact ⟨_, rfl, .effect .enableTakenHigh⟩
  case lineBreak => exact ⟨_, rfl, .effect .lineBreak⟩
  case standbyEntry =>
    refine ⟨_, runEvent_eq _ _, ?_⟩
    split
    · exact .effect (.standbyEntry ‹_›)
    · exact .idle (by simp)
  case frameGapTimeout =>
    refine ⟨_, runEvent_eq _ _, ?_⟩
    split
    · exact .effect (.frameGapTimeout ‹_›)
    · exact .idle (by simp)
  case framingError =>
    refine ⟨_, runEvent_eq _ _, ?_⟩
    split
    · exact .effect (.framingError ‹_›)
    · exact .idle (by simp)
  case frameComplete =>
    refine ⟨_, runEvent_eq _ _, ?_⟩
    split
    · exact .effect (.frameComplete ‹_›)
    · exact .idle (by simp)
  case checkMismatch =>
    refine ⟨_, runEvent_eq _ _, ?_⟩
    split
    · exact .effect (.checkMismatch ‹_›)
    · exact .idle (by simp)
  case requestHandedOn =>
    refine ⟨_, runEvent_eq _ _, ?_⟩
    split
    · exact .effect (.requestHandedOn ‹_›)
    · exact .idle (by simp)
  case frameSent =>
    refine ⟨_, runEvent_eq _ _, ?_⟩
    split
    · exact .effect (.frameSent ‹_›)
    · exact .idle (by simp)
  case controlInterval g =>
    refine ⟨_, runEvent_eq _ _, ?_⟩
    split
    · exact .effect (.controlInterval _ ‹_›)
    · exact .idle (by simp)
  case blockWindowExpiry g =>
    refine ⟨_, runEvent_eq _ _, ?_⟩
    split
    · exact .effect (.blockWindowExpiry _ ‹_›)
    · exact .idle (by simp)
  case holdWindowExpiry g =>
    refine ⟨_, runEvent_eq _ _, ?_⟩
    split
    · exact .effect (.holdWindowExpiry _ ‹_›)
    · exact .idle (by simp)
  case settleTimerExpiry g =>
    refine ⟨_, runEvent_eq _ _, ?_⟩
    split
    · exact .effect (.settleTimerExpiry _ ‹_›)
    · exact .idle (by simp)
  case latchCheckTimerExpiry g =>
    refine ⟨_, runEvent_eq _ _, ?_⟩
    split
    · exact .effect (.latchCheckTimerExpiry _ ‹_›)
    · exact .idle (by simp)
  case timeLimitReached g =>
    refine ⟨_, runEvent_eq _ _, ?_⟩
    split
    · exact .effect (.timeLimitReached _ ‹_›)
    · exact .idle (by simp)
  case statusTimerExpiry =>
    refine ⟨_, runEvent_eq _ _, ?_⟩
    split
    · exact .effect (.statusTimerExpiry ‹_›)
    · exact .idle (by simp)
  case startTimerExpiry =>
    refine ⟨_, runEvent_eq _ _, ?_⟩
    split
    · exact .effect (.startTimerExpiry ‹_›)
    · exact .idle (by simp)
  case runOnTimerExpiry =>
    refine ⟨_, runEvent_eq _ _, ?_⟩
    split
    · exact .effect (.runOnTimerExpiry ‹_›)
    · exact .idle (by simp)
  case stuckTimerExpiry =>
    refine ⟨_, runEvent_eq _ _, ?_⟩
    split
    · exact .effect (.stuckTimerExpiry ‹_›)
    · exact .idle (by simp)
  case pulseCounted a forward =>
    refine ⟨_, awakeEvent_eq _ _, ?_⟩
    split
    · exact .idle (by simp)
    · exact .effect (.pulseCounted _ _ ‹_›)
  case trackerWindowEnd a =>
    refine ⟨_, awakeEvent_eq _ _, ?_⟩
    split
    · exact .idle (by simp)
    · exact .effect (.trackerWindowEnd _ ‹_›)
  case homeSwitchRawChange a level => exact ⟨_, rfl, .effect (.homeSwitchRawChange _ _)⟩
  case homeSwitchDebounceExpiry a =>
    refine ⟨_, awakeEvent_eq _ _, ?_⟩
    split
    · exact .idle (by simp)
    · exact .effect (.homeSwitchDebounceExpiry _ ‹_›)
  case inputRawChange l level => exact ⟨_, rfl, .effect (.inputRawChange _ _)⟩
  case inputDebounceExpiry l =>
    refine ⟨_, runEvent_eq _ _, ?_⟩
    split
    · exact .effect (.inputDebounceExpiry _ ‹_›)
    · exact .idle (by simp)
  case twoHandWindowExpiry t =>
    refine ⟨_, runEvent_eq _ _, ?_⟩
    split
    · exact .effect (.twoHandWindowExpiry _ ‹_›)
    · exact .idle (by simp)
  case loopOpening => exact ⟨_, rfl, .effect .loopOpening⟩
  case loopClosing => exact ⟨_, rfl, .effect .loopClosing⟩
  case releaseTimerExpiry =>
    refine ⟨_, runEvent_eq _ _, ?_⟩
    split
    · exact .effect (.releaseTimerExpiry ‹_›)
    · exact .idle (by simp)
  case periodBoundary c =>
    refine ⟨_, runEvent_eq _ _, ?_⟩
    split
    · exact .effect (.periodBoundary _ ‹_›)
    · exact .idle (by simp)
  case deadTimeExpiry p =>
    refine ⟨_, awakeEvent_eq _ _, ?_⟩
    split
    · exact .idle (by simp)
    · exact .effect (.deadTimeExpiry _ ‹_›)
  case pulseTimerExpiry d =>
    refine ⟨_, runEvent_eq _ _, ?_⟩
    split
    · exact .effect (.pulseTimerExpiry _ ‹_›)
    · exact .idle (by simp)
  case latchCoilCheck d current =>
    refine ⟨_, runEvent_eq _ _, ?_⟩
    split
    · exact .effect (.latchCoilCheck _ _ ‹_›)
    · exact .idle (by simp)
  case coilMeasurement c current =>
    refine ⟨_, runEvent_eq _ _, ?_⟩
    split
    · exact .effect (.coilMeasurement _ _ ‹_›)
    · exact .idle (by simp)
  case coilShortDetected c =>
    refine ⟨_, runEvent_eq _ _, ?_⟩
    split
    · exact .effect (.coilShortDetected _ ‹_›)
    · exact .idle (by simp)
  case provingDriveStart =>
    refine ⟨_, runEvent_eq _ _, ?_⟩
    split
    · exact .effect (.provingDriveStart ‹_›)
    · exact .idle (by simp)
  case provingDriveEnd current =>
    refine ⟨_, runEvent_eq _ _, ?_⟩
    split
    · exact .effect (.provingDriveEnd _ ‹_›)
    · exact .idle (by simp)
  case stepTimerExpiry p =>
    refine ⟨_, runEvent_eq _ _, ?_⟩
    split
    · exact .effect (.stepTimerExpiry _ ‹_›)
    · exact .idle (by simp)
  case overrideTimerExpiry p =>
    refine ⟨_, runEvent_eq _ _, ?_⟩
    split
    · exact .effect (.overrideTimerExpiry _ ‹_›)
    · exact .idle (by simp)
  case lampMeasurement l current =>
    refine ⟨_, runEvent_eq _ _, ?_⟩
    split
    · exact .effect (.lampMeasurement _ _ ‹_›)
    · exact .idle (by simp)
  case lampShortDetected l =>
    refine ⟨_, runEvent_eq _ _, ?_⟩
    split
    · exact .effect (.lampShortDetected _ ‹_›)
    · exact .idle (by simp)
  case resettingTimerExpiry g =>
    refine ⟨_, runEvent_eq _ _, ?_⟩
    split
    · exact .effect (.resettingTimerExpiry _ ‹_›)
    · exact .idle (by simp)
  case byteReceived b =>
    refine ⟨_, runEvent_eq _ _, ?_⟩
    split
    · exact .effect (.byteReceived _ ‹_›)
    · exact .idle (by simp)
  case receiveLineReturnedHigh => exact ⟨_, rfl, .effect .receiveLineReturnedHigh⟩

/-- The queue of waiting commands is no command's to change, and a reply leaves every block but the link. -/
@[simp] theorem queueReply_frame (place : Bool) (k tag : Byte) (r : Reply) (s : State) :
    (queueReply place k tag r s).pending = s.pending ∧ (queueReply place k tag r s).supply = s.supply ∧
    (queueReply place k tag r s).fitment = s.fitment ∧ (queueReply place k tag r s).seq = s.seq ∧
    (queueReply place k tag r s).vehicle = s.vehicle ∧ (queueReply place k tag r s).flow = s.flow ∧
    (queueReply place k tag r s).trackers = s.trackers ∧ (queueReply place k tag r s).runs = s.runs ∧
    (queueReply place k tag r s).drive = s.drive ∧ (queueReply place k tag r s).operator = s.operator ∧
    (queueReply place k tag r s).beacon = s.beacon ∧ (queueReply place k tag r s).faults = s.faults ∧
    (queueReply place k tag r s).free = s.free := by simp [queueReply]

end Sys2Proof.Machine
end

