-- ==== Sys2Proof/Laws/Faults.lean ====
section
/-! SUPPORT. The Fault Table's operations: what a raise, a latch and a removal make of the entries, and that each keeps the table
sound (FaultTable.sound). -/

namespace Sys2Proof.Machine

/-- The code and the subject of an entry. -/
theorem Entry.is_iff (e : Entry) (code : FaultCode) (x : Subject) : e.is code x = true ↔ e.code = code ∧ e.subject = x := by
  simp [Entry.is]

theorem Entry.recur_code (now : U32) (e : Entry) : (e.recur now).code = e.code := by unfold Entry.recur; split <;> rfl

theorem Entry.recur_subject (now : U32) (e : Entry) : (e.recur now).subject = e.subject := by
  unfold Entry.recur; split <;> rfl

theorem Entry.recur_active (now : U32) (e : Entry) : (e.recur now).active = true := by
  unfold Entry.recur; split <;> simp_all

/-- What an entry contributes depends on its code and subject alone. -/
theorem Entry.inhibit_congr {e f : Entry} (h1 : e.code = f.code) (h2 : e.subject = f.subject) : e.inhibit = f.inhibit := by
  unfold Entry.inhibit; rw [h1, h2]

theorem Entry.recur_inhibit (now : U32) (e : Entry) : (e.recur now).inhibit = e.inhibit :=
  Entry.inhibit_congr (e.recur_code now) (e.recur_subject now)

/-- The flags are unchanged by changes of entries that keep what each contributes. -/
theorem flagsOf_map (f : Entry → Entry) (h : ∀ e, (f e).inhibit = e.inhibit) (l : List Entry) (o : Inhibits) :
    flagsOf (l.map f) o = flagsOf l o := by
  unfold flagsOf
  induction l generalizing o with
  | nil => rfl
  | cons e l ih => simp [h, ih]

theorem flagsOf_append (l k : List Entry) (o : Inhibits) : flagsOf (l ++ k) o = flagsOf k (flagsOf l o) := by
  simp [flagsOf]

/-! ### The flags as a sum -/

theorem flagsOf_lift (l : List Entry) (o : Inhibits) : (flagsOf l o).lift = (o.lift || l.any fun e => e.inhibit.lift) := by
  unfold flagsOf
  induction l generalizing o with
  | nil => simp
  | cons e l ih => rw [List.foldl_cons, ih]; simp [Inhibits.union, Bool.or_assoc]

theorem flagsOf_kerb (l : List Entry) (o : Inhibits) : (flagsOf l o).kerb = (o.kerb || l.any fun e => e.inhibit.kerb) := by
  unfold flagsOf
  induction l generalizing o with
  | nil => simp
  | cons e l ih => rw [List.foldl_cons, ih]; simp [Inhibits.union, Bool.or_assoc]

theorem flagsOf_road (l : List Entry) (o : Inhibits) : (flagsOf l o).road = (o.road || l.any fun e => e.inhibit.road) := by
  unfold flagsOf
  induction l generalizing o with
  | nil => simp
  | cons e l ih => rw [List.foldl_cons, ih]; simp [Inhibits.union, Bool.or_assoc]

theorem flagsOf_pumped (l : List Entry) (o : Inhibits) :
    (flagsOf l o).pumped = (o.pumped || l.any fun e => e.inhibit.pumped) := by
  unfold flagsOf
  induction l generalizing o with
  | nil => simp
  | cons e l ih => rw [List.foldl_cons, ih]; simp [Inhibits.union, Bool.or_assoc]

theorem flagsOf_group (g : Group) (l : List Entry) (o : Inhibits) :
    (flagsOf l o).group g = (o.group g || l.any fun e => e.inhibit.group g) := by
  cases g
  · exact flagsOf_lift l o
  · exact flagsOf_kerb l o
  · exact flagsOf_road l o

/-! ### Soundness -/

theorem FaultTable.recompute_sound (t : FaultTable) (h : t.entries.length ≤ 16)
    (hn : (t.entries.map fun e => (e.code, e.subject)).Nodup) : t.recompute.sound := ⟨h, hn, rfl⟩

/-- Changes of entries that keep code and subject keep the table sound. -/
theorem FaultTable.map_sound (t : FaultTable) (f : Entry → Entry) (h1 : ∀ e, (f e).code = e.code)
    (h2 : ∀ e, (f e).subject = e.subject) (h : t.sound) : ({ t with entries := t.entries.map f } : FaultTable).sound := by
  refine ⟨by simpa using h.1, ?_, ?_⟩
  · simpa [Function.comp_def, h1, h2] using h.2.1
  · show t.flags = flagsOf (t.entries.map f) t.overflowInhibits
    rw [flagsOf_map f (fun e => Entry.inhibit_congr (h1 e) (h2 e)), h.2.2]

theorem FaultTable.latch_sound (t : FaultTable) (code : FaultCode) (x : Subject) (h : t.sound) : (t.latch code x).sound :=
  t.map_sound _ (fun e => by split <;> rfl) (fun e => by split <;> rfl) h

theorem FaultTable.remove_sound (t : FaultTable) (p : Entry → Bool) (h : t.sound) : (t.remove p).sound := by
  refine FaultTable.recompute_sound _ ?_ ?_
  · exact Nat.le_trans (List.length_filter_le _ _) h.1
  · exact h.2.1.sublist (List.filter_sublist.map _)

/-- R162, R164: a raise keeps the table sound. -/
theorem FaultTable.raise_sound (t : FaultTable) (code : FaultCode) (x : Subject) (now : U32) (h : t.sound) :
    (t.raise code x now).sound := by
  unfold FaultTable.raise
  split
  · exact t.map_sound _ (fun e => by split <;> simp [Entry.recur_code]) (fun e => by split <;> simp [Entry.recur_subject]) h
  · rename_i hno
    have new : ∀ l : List Entry, l.Sublist t.entries →
        ((l ++ [Entry.fresh code x now]).map fun e => (e.code, e.subject)).Nodup := by
      intro l hl
      rw [List.map_append, List.nodup_append]
      refine ⟨h.2.1.sublist (hl.map _), by simp, ?_⟩
      intro a ha b hb
      simp only [List.map_cons, List.map_nil, List.mem_singleton] at hb
      subst hb
      obtain ⟨e, he, rfl⟩ := List.mem_map.1 ha
      intro hc
      apply hno
      rw [List.any_eq_true]
      refine ⟨e, hl.subset he, ?_⟩
      simpa [Entry.is_iff, Entry.fresh] using hc
    split
    · rename_i hlt
      refine FaultTable.recompute_sound _ ?_ (new _ (List.Sublist.refl _))
      simp [Config.maxFaults] at hlt ⊢; omega
    · split
      · rename_i i hi
        have hlen : i < t.entries.length := by
          unfold victim? at hi
          cases h1 : t.entries.findIdx? (fun e => !e.active && !e.code.isStop) with
          | some j =>
            rw [h1] at hi; simp [Option.orElse] at hi; subst hi
            exact (List.findIdx?_eq_some_iff_getElem.1 h1).1
          | none =>
            rw [h1] at hi; simp [Option.orElse] at hi
            exact (List.findIdx?_eq_some_iff_getElem.1 hi).1
        refine FaultTable.recompute_sound _ ?_ (new _ (List.eraseIdx_sublist _ _))
        have := h.1
        simp [List.length_eraseIdx, hlen]; omega
      · exact FaultTable.recompute_sound _ h.1 h.2.1

theorem FaultTable.clear_sound (t : FaultTable) (h : t.sound) : t.clear.sound := by
  refine FaultTable.recompute_sound _ ?_ ?_
  · exact Nat.le_trans (List.length_filter_le _ _) h.1
  · exact h.2.1.sublist (List.filter_sublist.map _)

/-- Soundness says nothing of the RESETTING timers. -/
theorem FaultTable.sound_resetting (t : FaultTable) (v : Vector Timer 3) :
    ({ t with resetting := v } : FaultTable).sound ↔ t.sound := Iff.rfl

end Sys2Proof.Machine
end

