-- ==== Sys2Proof/Laws/Sound.lean ====
section
/-! SUPPORT. Every shared operation keeps the Fault Table sound. -/

namespace Sys2Proof.Machine

theorem latch_sound (code : FaultCode) (x : Subject) {s : State} (h : s.faults.sound) : (latch code x s).faults.sound :=
  FaultTable.latch_sound _ _ _ h

theorem raise_sound (code : FaultCode) (x : Subject) {s : State} (h : s.faults.sound) : (raise code x s).faults.sound := by
  have hr := FaultTable.raise_sound s.faults code x s.supply.time h
  unfold raise; dsimp only; split <;> simpa using hr

theorem removeFaults_sound (p : Entry → Bool) {s : State} (h : s.faults.sound) : (removeFaults p s).faults.sound := by
  have hr := FaultTable.remove_sound s.faults p h
  unfold removeFaults; dsimp only; split <;> simpa using hr

theorem raiseOnce_sound (code : FaultCode) (x : Subject) {s : State} (h : s.faults.sound) : (raiseOnce code x s).faults.sound := by
  simp [raiseOnce, h, latch_sound, raise_sound]

theorem normalEnd_sound (c : Channel) {s : State} (h : s.faults.sound) : (normalEnd c s).faults.sound := by
  unfold normalEnd; dsimp only; split <;> simp [h, latch_sound]

theorem release_sound (c : Channel) {s : State} (h : s.faults.sound) : (release c s).faults.sound := by
  unfold release; dsimp only; split <;> simp [h, latch_sound]

theorem releaseAll_sound (cs : List Channel) {s : State} (h : s.faults.sound) : (releaseAll cs s).faults.sound := by
  induction cs generalizing s with
  | nil => simpa [releaseAll] using h
  | cons c cs ih => exact ih (release_sound c h)

theorem boundary_sound (c : Channel) {s : State} (h : s.faults.sound) : (boundary c s).faults.sound := by
  unfold boundary; dsimp only; split <;> simp [h, normalEnd_sound]

theorem endRun_sound (g : Group) {s : State} (h : s.faults.sound) : (endRun g s).faults.sound := by
  unfold endRun; (repeat' split) <;> simp [h, latch_sound]

theorem reportCompletion_sound (o : Order) {s : State} (h : s.faults.sound) : (reportCompletion o s).faults.sound := by
  unfold reportCompletion; simp [h, removeFaults_sound]

theorem markEnded_sound (n : Nat) (res : OrderResult) (why : Option Reason) {s : State} (h : s.faults.sound) : (markEnded n res why s).faults.sound := by
  unfold markEnded; dsimp only; (repeat' split) <;> simp [h, reportCompletion_sound, endRun_sound]

theorem enterMoving_sound (o : Order) (p : Phase) {s : State} (h : s.faults.sound) : (enterMoving o p s).faults.sound := by
  unfold enterMoving; dsimp only; (repeat' split) <;> simp [h, markEnded_sound]

theorem gateFlow_sound (o : Order) (p : Phase) {s : State} (h : s.faults.sound) : (gateFlow o p s).faults.sound := by
  unfold gateFlow; dsimp only; (repeat' split) <;> simp [h, enterMoving_sound]

theorem gateBinding_sound (o : Order) (p : Phase) {s : State} (h : s.faults.sound) : (gateBinding o p s).faults.sound := by
  unfold gateBinding; (repeat' split) <;> simp [h, gateFlow_sound]

theorem gateInterlock_sound (o : Order) (p : Phase) {s : State} (h : s.faults.sound) : (gateInterlock o p s).faults.sound := by
  unfold gateInterlock; (repeat' split) <;> simp [h, gateBinding_sound]

theorem phaseStart_sound (n : Nat) {s : State} (h : s.faults.sound) : (phaseStart n s).faults.sound := by
  unfold phaseStart; dsimp only; (repeat' split) <;> simp [h, gateInterlock_sound, enterMoving_sound, markEnded_sound]

theorem startQueued_sound (g : Group) (k : Nat) {s : State} (h : s.faults.sound) : (startQueued g k s).faults.sound := by
  induction k generalizing s with
  | zero => simpa [startQueued] using h
  | succ k ih => unfold startQueued; (repeat' split) <;> simp [h, ih, phaseStart_sound]

theorem advanceGroup_sound (g : Group) {s : State} (h : s.faults.sound) : (advanceGroup g s).faults.sound := by
  exact startQueued_sound _ _ h

theorem endOrder_sound (o : Order) (res : OrderResult) (why : Option Reason) {s : State} (h : s.faults.sound) : (endOrder o res why s).faults.sound := by
  exact advanceGroup_sound _ (markEnded_sound _ _ _ h)

theorem endWaiting_sound (o : Order) (res : OrderResult) (why : Option Reason) {s : State} (h : s.faults.sound) : (endWaiting o res why s).faults.sound := by
  exact endOrder_sound _ _ _ (by simpa using h)

theorem endPulse_sound (o : Order) (res : OrderResult) (why : Option Reason) {s : State} (h : s.faults.sound) : (endPulse o res why s).faults.sound := by
  unfold endPulse; dsimp only; (repeat' split) <;> simp [h, endOrder_sound, release_sound]

theorem immediateEnd_sound (g : Group) (why : Reason) {s : State} (h : s.faults.sound) : (immediateEnd g why s).faults.sound := by
  unfold immediateEnd; dsimp only; (repeat' split) <;> simp [h, releaseAll_sound, endRun_sound]

theorem applyInhibit_sound (o : Order) {s : State} (h : s.faults.sound) : (applyInhibit o s).faults.sound := by
  unfold applyInhibit; (repeat' split) <;> simp [h, endWaiting_sound, endPulse_sound]

theorem meetInhibit_sound (old : Inhibits) (g : Group) {s : State} (h : s.faults.sound) : (meetInhibit old g s).faults.sound := by
  unfold meetInhibit; dsimp only; (repeat' split) <;> simp [h, applyInhibit_sound]

theorem reportFlags_sound (old : Inhibits) {s : State} (h : s.faults.sound) : (reportFlags old s).faults.sound := by
  unfold reportFlags; split
  · exact h
  · simpa [Group.all] using meetInhibit_sound _ _ (meetInhibit_sound _ _ (meetInhibit_sound _ _ h))

theorem raiseFault_sound (code : FaultCode) (x : Subject) {s : State} (h : s.faults.sound) : (raiseFault code x s).faults.sound := by
  exact reportFlags_sound _ (raise_sound _ _ h)

theorem raiseFaultOnce_sound (code : FaultCode) (x : Subject) {s : State} (h : s.faults.sound) : (raiseFaultOnce code x s).faults.sound := by
  exact reportFlags_sound _ (raiseOnce_sound _ _ h)

theorem abortOrders_sound (p : Order → Bool) (why : Reason) {s : State} (h : s.faults.sound) :
    (abortOrders p why s).faults.sound := by
  unfold abortOrders
  generalize List.filter _ _ = l
  induction l generalizing s with
  | nil => simpa using h
  | cons o l ih => exact ih (markEnded_sound _ _ _ (by simpa using h))

theorem limitPass_sound (a : Axis) {s : State} (h : s.faults.sound) : (limitPass a s).faults.sound := by
  unfold limitPass; (repeat' split) <;> simp [h, immediateEnd_sound]

theorem judgeDrift_sound (r : AxisRec) (a : Axis) {s : State} (h : s.faults.sound) : (judgeDrift r a s).faults.sound := by
  unfold judgeDrift; dsimp only; (repeat' split) <;> simp [h, raiseFaultOnce_sound]

theorem countPulse_sound (r : AxisRec) (a : Axis) (fw : Bool) {s : State} (h : s.faults.sound) : (countPulse r a fw s).faults.sound := by
  unfold countPulse; dsimp only; (repeat' split) <;> simp [h, judgeDrift_sound, limitPass_sound]

theorem snap_sound (a : Axis) {s : State} (h : s.faults.sound) : (snap a s).faults.sound := by
  unfold snap; dsimp only; (repeat' split) <;> simp [h, raiseFaultOnce_sound]

theorem snapIfActive_sound (a : Axis) {s : State} (h : s.faults.sound) : (snapIfActive a s).faults.sound := by
  unfold snapIfActive; (repeat' split) <;> simp [h, snap_sound]

theorem takeHome_sound (a : Axis) {s : State} (h : s.faults.sound) : (takeHome a s).faults.sound := by
  unfold takeHome; dsimp only; (repeat' split) <;> simp [h, snap_sound]

theorem bindingGained_sound (n : Nat) {s : State} (h : s.faults.sound) : (bindingGained n s).faults.sound := by
  unfold bindingGained; (repeat' split) <;> simp [h, gateFlow_sound, gateInterlock_sound]

theorem bindingLost_sound (n : Nat) {s : State} (h : s.faults.sound) : (bindingLost n s).faults.sound := by
  simpa using h

theorem edgeTaken_sound (n : Nat) {s : State} (h : s.faults.sound) : (edgeTaken n s).faults.sound := by
  unfold edgeTaken; (repeat' split) <;> simp [h, bindingGained_sound]

theorem superviseSkew_sound (r : ProfileRec) (x : Run) {s : State} (h : s.faults.sound) : (superviseSkew r x s).faults.sound := by
  unfold superviseSkew; (repeat' first | split | dsimp only) <;> simp [h, raiseFault_sound, latch_sound]

theorem skewEnd_sound {s : State} (h : s.faults.sound) : (skewEnd s).faults.sound := by
  exact raiseFaultOnce_sound _ _ (immediateEnd_sound _ _ h)

theorem examineMoving_sound (o : Order) {s : State} (h : s.faults.sound) : (examineMoving o s).faults.sound := by
  unfold examineMoving; (repeat' first | split | dsimp only) <;> simp [h, immediateEnd_sound]

theorem foldRaise_sound (code : FaultCode) (as : List Axis) {s : State} (h : s.faults.sound) :
    (as.foldl (fun s a => raiseFaultOnce code (.axis a) s) s).faults.sound := by
  induction as generalizing s with
  | nil => simpa using h
  | cons a as ih => exact ih (raiseFaultOnce_sound _ _ h)

theorem stallEnd_sound (g : Group) (c : MoveClass) {s : State} (h : s.faults.sound) : (stallEnd g c s).faults.sound := by
  exact foldRaise_sound _ _ (immediateEnd_sound _ _ h)

theorem stopEnd_sound (o : Order) {s : State} (h : s.faults.sound) : (stopEnd o s).faults.sound := by
  have hs : ∀ ds, (endRun o.group (withdraw o.number (sendDemands ds s))).faults.sound :=
    fun ds => endRun_sound _ (by simpa using h)
  unfold stopEnd; (repeat' first | split | dsimp only) <;>
    simp [hs, endOrder_sound, gateInterlock_sound]

theorem finishInterval_sound (r : ProfileRec) (p : Phase) (c : MoveClass) (g : Group) {s : State} (h : s.faults.sound) : (finishInterval r p c g s).faults.sound := by
  unfold finishInterval; (repeat' first | split | dsimp only) <;> simp [h, stopEnd_sound]

theorem moveOn_sound (r : ProfileRec) (p : Phase) (c : MoveClass) (o : Order) {s : State} (h : s.faults.sound) : (moveOn r p c o s).1.faults.sound := by
  unfold moveOn; (repeat' first | split | dsimp only) <;> simp [h, stallEnd_sound]

theorem intervalBody_sound (r : ProfileRec) (p : Phase) (c : MoveClass) (g : Group) {s : State} (h : s.faults.sound) : (intervalBody r p c g s).faults.sound := by
  have he := fun o => examineMoving_sound o h
  unfold intervalBody; (repeat' first | split | dsimp only) <;> first
    | exact h
    | exact he _
    | exact moveOn_sound _ _ _ _ (he _)
    | exact finishInterval_sound _ _ _ _ (moveOn_sound _ _ _ _ (he _))
    | exact finishInterval_sound _ _ _ _ (he _)
    | exact finishInterval_sound _ _ _ _ h

theorem motionInterval_sound (o : Order) (p : Phase) (c : MoveClass) (r : ProfileRec) (x : Run) {s : State} (h : s.faults.sound) : (motionInterval o p c r x s).faults.sound := by
  unfold motionInterval; (repeat' first | split | dsimp only) <;>
    simp [h, skewEnd_sound, intervalBody_sound, superviseSkew_sound]

theorem blockedInterval_sound (o : Order) {s : State} (h : s.faults.sound) : (blockedInterval o s).faults.sound := by
  unfold blockedInterval; (repeat' first | split | dsimp only) <;> simp [h, gateBinding_sound]

theorem waitingInterval_sound (o : Order) {s : State} (h : s.faults.sound) : (waitingInterval o s).faults.sound := by
  unfold waitingInterval; (repeat' split) <;> simp [h]

theorem interval_sound (g : Group) {s : State} (h : s.faults.sound) : (interval g s).faults.sound := by
  unfold interval; (repeat' first | split | dsimp only) <;>
    simp [h, blockedInterval_sound, waitingInterval_sound, motionInterval_sound]

theorem reportBinding_bindingGained_sound (b : Binding) {s : State} (h : s.faults.sound) :
    (reportBinding b bindingGained s).faults.sound := by
  unfold reportBinding
  generalize List.filter _ _ = l
  induction l generalizing s with
  | nil => simpa using h
  | cons o l ih => exact ih (bindingGained_sound _ h)

theorem reportBinding_bindingLost_sound (b : Binding) {s : State} (h : s.faults.sound) :
    (reportBinding b bindingLost s).faults.sound := by
  unfold reportBinding
  generalize List.filter _ _ = l
  induction l generalizing s with
  | nil => simpa using h
  | cons o l ih => exact ih (bindingLost_sound _ h)

theorem reportBinding_edgeTaken_sound (b : Binding) {s : State} (h : s.faults.sound) :
    (reportBinding b edgeTaken s).faults.sound := by
  unfold reportBinding
  generalize List.filter _ _ = l
  induction l generalizing s with
  | nil => simpa using h
  | cons o l ih => exact ih (edgeTaken_sound _ h)

theorem moveHand_sound (t : Fin 2) (m : TwoHand) {s : State} (h : s.faults.sound) : (moveHand t m s).faults.sound := by
  unfold moveHand; (repeat' first | split | dsimp only) <;> simp [h, reportBinding_bindingGained_sound, reportBinding_bindingLost_sound]

theorem holdTaken_sound (i : Fin 4) (v : Bool) {s : State} (h : s.faults.sound) : (holdTaken i v s).faults.sound := by
  unfold holdTaken; dsimp only; split
  · exact moveHand_sound _ _ (reportBinding_edgeTaken_sound _ (reportBinding_bindingGained_sound _ h))
  · exact moveHand_sound _ _ (reportBinding_bindingLost_sound _ h)

theorem refreshStop_sound (g : Group) {s : State} (h : s.faults.sound) : (refreshStop g s).faults.sound := by
  unfold refreshStop; (repeat' first | split | dsimp only) <;> simp [h, immediateEnd_sound]

theorem refreshStops_sound {s : State} (h : s.faults.sound) : (refreshStops s).faults.sound := by
  exact refreshStop_sound _ (refreshStop_sound _ (refreshStop_sound _ h))

theorem latchSensed_sound (d : Side) {s : State} (h : s.faults.sound) : (latchSensed d s).faults.sound := by
  unfold latchSensed; (repeat' first | split | dsimp only) <;> simp [h, endOrder_sound]

theorem pressureActive_sound {s : State} (h : s.faults.sound) : (pressureActive s).faults.sound := by
  unfold pressureActive; (repeat' first | split | dsimp only) <;> simp [h, foldArrived_frame, raiseFault_sound]

theorem pumpLost_sound {s : State} (h : s.faults.sound) : (pumpLost s).faults.sound := by
  exact raiseFaultOnce_sound _ _ (by simpa [foldFailed_frame] using h)

theorem runningSenseTaken_sound (v : Bool) {s : State} (h : s.faults.sound) : (runningSenseTaken v s).faults.sound := by
  unfold runningSenseTaken; (repeat' first | split | dsimp only) <;> simp [h, pumpLost_sound, latch_sound]

theorem takeLine_sound (l : Line) {s : State} (h : s.faults.sound) : (takeLine l s).faults.sound := by
  unfold takeLine; (repeat' first | split | dsimp only) <;>
    simp [h, holdTaken_sound, refreshStops_sound, latchSensed_sound, pressureActive_sound, latch_sound,
      runningSenseTaken_sound]

theorem estopFromClear_sound {s : State} (h : s.faults.sound) : (estopFromClear s).faults.sound := by
  have h1 : (abandonProve (releaseAll allChannels (setEstop .active none s))).faults.sound := by
    simpa using releaseAll_sound allChannels (s := setEstop .active none s) (by simpa using h)
  have h2 := abortOrders_sound (fun _ => true) .estop
    (s := emptyFlow (abandonProve (releaseAll allChannels (setEstop .active none s)))) (by simpa using h1)
  have h3 := raiseFault_sound .estop .none (s := idleAfter s _) (by simpa using h2)
  simpa [estopFromClear] using h3

theorem nextPhase_sound (o : Order) {s : State} (h : s.faults.sound) : (nextPhase o s).faults.sound := by
  exact advanceGroup_sound _ (phaseStart_sound _ (by simpa using h))

theorem settled_sound (o : Order) {s : State} (h : s.faults.sound) : (settled o s).faults.sound := by
  unfold settled; (repeat' first | split | dsimp only) <;> simp [h, nextPhase_sound, endOrder_sound]

theorem blockExpiry_sound (g : Group) {s : State} (h : s.faults.sound) : (blockExpiry g s).faults.sound := by
  unfold blockExpiry onActive; (repeat' first | split | dsimp only) <;> simp [h, endOrder_sound]

theorem holdExpiry_sound (g : Group) {s : State} (h : s.faults.sound) : (holdExpiry g s).faults.sound := by
  unfold holdExpiry onActive; (repeat' first | split | dsimp only) <;> simp [h, endOrder_sound]

theorem settleExpiry_sound (g : Group) {s : State} (h : s.faults.sound) : (settleExpiry g s).faults.sound := by
  unfold settleExpiry onActive; (repeat' first | split | dsimp only) <;> simp [h, settled_sound]

theorem latchCheckFailed_sound (o : Order) {s : State} (h : s.faults.sound) : (latchCheckFailed o s).faults.sound := by
  exact reportFlags_sound _ (endOrder_sound _ _ _ (raiseOnce_sound _ _ h))

theorem latchCheckExpiry_sound (g : Group) {s : State} (h : s.faults.sound) : (latchCheckExpiry g s).faults.sound := by
  unfold latchCheckExpiry onActive; (repeat' first | split | dsimp only) <;> simp [h, latchCheckFailed_sound]

theorem limitReached_sound (g : Group) {s : State} (h : s.faults.sound) : (limitReached g s).faults.sound := by
  unfold limitReached onActive; (repeat' first | split | dsimp only) <;> simp [h]

theorem resettingExpiry_sound (g : Group) {s : State} (h : s.faults.sound) : (resettingExpiry g s).faults.sound := by
  unfold resettingExpiry; split
  · exact reportFlags_sound _ (removeFaults_sound _ ((FaultTable.sound_resetting _ _).2 h))
  · exact h

theorem capacityEvent_sound {s : State} (h : s.faults.sound) : (capacityEvent s).faults.sound := by
  unfold capacityEvent; (repeat' first | split | dsimp only) <;> simp [h]

theorem statusExpiry_sound {s : State} (h : s.faults.sound) : (statusExpiry s).faults.sound := by
  unfold statusExpiry; (repeat' first | split | dsimp only) <;> simp [h, capacityEvent_sound, raiseFault_sound]

theorem pumpStarted_sound {s : State} (h : s.faults.sound) : (pumpStarted s).faults.sound := by
  unfold pumpStarted; (repeat' first | split | dsimp only) <;> simp [h]

theorem foldEnds_sound (res : OrderResult) (why : Option Reason) (l : List Order) {s : State} (h : s.faults.sound) :
    (l.foldl (fun s o => markEnded o.number res why s) s).faults.sound := by
  induction l generalizing s with
  | nil => simpa using h
  | cons o l ih => exact ih (markEnded_sound _ _ _ h)

theorem foldAdvance_sound (l : List Order) {s : State} (h : s.faults.sound) :
    (l.foldl (fun s o => advanceGroup o.group s) s).faults.sound := by
  induction l generalizing s with
  | nil => simpa using h
  | cons o l ih => exact ih (advanceGroup_sound _ h)

theorem startFailed_sound {s : State} (h : s.faults.sound) : (startFailed s).faults.sound := by
  unfold startFailed; dsimp only
  exact foldAdvance_sound _ (raiseFaultOnce_sound _ _ (by simpa using foldEnds_sound _ _ _ (by simpa using h)))

theorem startExpiry_sound {s : State} (h : s.faults.sound) : (startExpiry s).faults.sound := by
  unfold startExpiry; (repeat' first | split | dsimp only) <;> simp [h, pumpStarted_sound, startFailed_sound]

theorem runOnExpiry_sound {s : State} (h : s.faults.sound) : (runOnExpiry s).faults.sound := by
  unfold runOnExpiry; (repeat' first | split | dsimp only) <;> simp [h]

theorem stuckExpiry_sound {s : State} (h : s.faults.sound) : (stuckExpiry s).faults.sound := by
  unfold stuckExpiry; (repeat' first | split | dsimp only) <;> simp [h, raiseFault_sound]

theorem pulse_sound (a : Axis) (fw : Bool) {s : State} (h : s.faults.sound) : (pulse a fw s).faults.sound := by
  unfold pulse; (repeat' first | split | dsimp only) <;> simp [h, countPulse_sound]

theorem windowOver_sound (a : Axis) {s : State} (h : s.faults.sound) : (windowOver a s).faults.sound := by
  unfold windowOver; (repeat' first | split | dsimp only) <;> simp [h, windowEnd]

theorem homeExpiry_sound (a : Axis) {s : State} (h : s.faults.sound) : (homeExpiry a s).faults.sound := by
  unfold homeExpiry; (repeat' first | split | dsimp only) <;> simp [h, takeHome_sound]

theorem pulseDone_sound (n : Nat) {s : State} (h : s.faults.sound) : (pulseDone n s).faults.sound := by
  unfold pulseDone; (repeat' first | split | dsimp only) <;> simp [h, nextPhase_sound]

theorem pulseExpiry_sound (d : Side) {s : State} (h : s.faults.sound) : (pulseExpiry d s).faults.sound := by
  unfold pulseExpiry; (repeat' first | split | dsimp only) <;> simp [h, pulseDone_sound, latch_sound]

theorem coilReport_sound (old : Inhibits) (c : Channel) {s : State} (h : s.faults.sound) : (coilReport old c s).faults.sound := by
  unfold coilReport; refine reportFlags_sound _ ?_
  (repeat' split) <;> simp [h, immediateEnd_sound]

theorem coilOpenFound_sound (c : Channel) {s : State} (h : s.faults.sound) : (coilOpenFound c s).faults.sound := by
  exact coilReport_sound _ _ (raise_sound _ _ h)

theorem pulseCheck_sound (d : Side) (i : Nat) {s : State} (h : s.faults.sound) : (pulseCheck d i s).faults.sound := by
  unfold pulseCheck; (repeat' first | split | dsimp only) <;> simp [h, coilOpenFound_sound]

theorem measure_sound (c : Channel) (i : Nat) {s : State} (h : s.faults.sound) : (measure c i s).faults.sound := by
  unfold measure; (repeat' first | split | dsimp only) <;> simp [h, coilOpenFound_sound]

theorem endProve_sound {s : State} (h : s.faults.sound) : (endProve s).faults.sound := by
  unfold endProve startAllQueued; dsimp only
  refine foldAdvance_sound _ ?_
  split
  · exact reportFlags_sound _ (removeFaults_sound _ h)
  · exact raiseFault_sound _ _ h

theorem startProve_sound {s : State} (h : s.faults.sound) : (startProve s).faults.sound := by
  unfold startProve; dsimp only; split
  · exact endProve_sound (latch_sound _ _ h)
  · exact latch_sound _ _ h

theorem finishDrive_sound (c : Channel) (res : ChanResult) {s : State} (h : s.faults.sound) : (finishDrive c res s).faults.sound := by
  unfold finishDrive; (repeat' first | split | dsimp only) <;> simp [h, endProve_sound]

theorem coilShort_sound (c : Channel) {s : State} (h : s.faults.sound) : (coilShort c s).faults.sound := by
  unfold coilShort; (repeat' split)
  · exact finishDrive_sound _ _ h
  · exact coilReport_sound _ _ (raiseOnce_sound _ _ (release_sound _ h))
  · exact h

theorem proveOver_sound (i : Nat) {s : State} (h : s.faults.sound) : (proveOver i s).faults.sound := by
  unfold proveOver; (repeat' first | split | dsimp only) <;> simp [h, finishDrive_sound]

theorem inputExpiry_sound (l : Line) {s : State} (h : s.faults.sound) : (inputExpiry l s).faults.sound := by
  unfold inputExpiry; (repeat' first | split | dsimp only) <;> simp [h, takeLine_sound]

theorem handExpiry_sound (t : Fin 2) {s : State} (h : s.faults.sound) : (handExpiry t s).faults.sound := by
  unfold handExpiry; (repeat' first | split | dsimp only) <;> simp [h, moveHand_sound]

theorem estopOpening_sound {s : State} (h : s.faults.sound) : (estopOpening s).faults.sound := by
  unfold estopOpening; (repeat' first | split | dsimp only) <;> simp [h, estopFromClear_sound]

theorem loopOpens_sound {s : State} (h : s.faults.sound) : (loopOpens s).faults.sound := by
  unfold loopOpens; (repeat' first | split | dsimp only) <;> simp [h, estopOpening_sound]

theorem measureLamp_sound (l : Lamp) (i : Nat) {s : State} (h : s.faults.sound) : (measureLamp l i s).faults.sound := by
  unfold measureLamp; (repeat' first | split | dsimp only) <;> simp [h, setHealth, raiseFault_sound, latch_sound]

theorem shortLamp_sound (l : Lamp) {s : State} (h : s.faults.sound) : (shortLamp l s).faults.sound := by
  unfold shortLamp; split
  · exact raiseFaultOnce_sound _ _ (latch_sound _ _ (by simpa using h))
  · exact h

end Sys2Proof.Machine
end

