-- ==== Sys2Proof/Tests/Slice0.lean ====
section
/-! SUPPORT. Tests of the model: the smoke test of WellFormed, the spec's worked examples (the expected values are the spec's,
each named with its section), and for every statement with hypotheses a witness that meets them, clause by clause. -/

set_option maxRecDepth 20000

namespace Sys2Proof.Tests

open Sys2Proof Sys2Proof.Machine

/-! ### Fixtures -/

/-- The axis of Section 4.9.3, with limits and windows within Table 4-1. -/
def axisRec : AxisRec := ⟨20, 0, 1, 0, -50000, 1500000, 1000, 5000, 2000, 1400000, 10000, 10000⟩

/-- The channels of Section 5.12. -/
def chanRec : ChannelRec := ⟨2000, 150, 950, 250, 60, 100, 3000⟩

/-- The profile of Section 5.12. -/
def profRec : ProfileRec :=
  ⟨120, 700, 850, 120, 40, 30, 50, 1000, 400, 300, #v[60, 60, 60, 60, 60, 60], 60, 250, 500, 8000, 15000, 1000000, 0, -350⟩

/-- The power pack of Section 3.6. -/
def flowRec : FlowRec := ⟨100, 60, 5, 70, 40, 50, 300, 2000⟩

/-- A whole fitment, LOCKED, all three groups fitted. -/
def fitted : Fitment where
  locked := true
  equipment := some ⟨true, true, true⟩
  axes := Vector.replicate 5 (some axisRec)
  channels := Vector.replicate 12 (some chanRec)
  flow := some flowRec
  profiles := Vector.replicate 3 (some profRec)
  timing := some ⟨5000, 10000, 500, 20, 1000, 500, 1500⟩
  policy := some ⟨Vector.replicate 8 .none, Vector.replicate 6 ⟨none, false⟩⟩
  interlocks := Vector.replicate 24 none
  lamps := none
  patterns := Vector.replicate 8 none
  scenes := Vector.replicate 8 none

/-- In RUN with that fitment, every axis referenced, nothing at work. -/
def rest : State :=
  { State.reset with
    supply := ⟨.run, true, false, 1000, .powerOn, .none⟩
    fitment := fitted
    trackers := Vector.replicate 5 { Tracker.reset with referenced := true } }

/-- The same with an OPEN fitment. -/
def unlocked : State := { rest with fitment := { fitted with locked := false } }

/-- A record of the Order Table. -/
def order (n : Nat) (g : Group) (k : OrderKind) (st : OrderState) (ps : List Phase) : Order where
  number := n
  group := g
  kind := k
  target := none
  level := false
  clamped := false
  speed := .normal
  binding := .none
  limit := none
  phases := ps
  index := 0
  state := st
  outcome := none
  pendResult := none
  pendReason := none
  startedEdge := false
  movingTime := 0
  uncompensated := false
  blocking := 0
  submittedAt := 0
  endedAt := none
  result := none
  reason := none
  residual := none
  noticed := false
  endRank := 0

/-- The phase of the raise of Section 5.12.1. -/
def raisePhase : Phase := ⟨.pumped, some .liftUp, 900000, .target, true⟩

/-- Order 1, that raise, in a state. -/
def raising (st : OrderState) : Order := order 1 .lift .raiseTo st [raisePhase]

/-- A state with these records. -/
def withOrders (os : List Order) (s : State) : State := { s with seq := { s.seq with orders := os, nextNumber := 100 } }

/-- A state with these control timers of a group. -/
def withCtl (g : Group) (c : GroupCtl) (s : State) : State := s.modCtl g fun _ => c

/-- The lift's tracker positions and a run with a commanded demand. -/
def lifting (lk lr : Int) (cmd : Nat) (st : OrderState) : State :=
  let s := withOrders [raising st] rest
  let s := { s with trackers := s.trackers.set 0 { s.tracker .lk with pos := lk, speed := 9000, sense := .away } }
  let s := { s with trackers := s.trackers.set 1 { s.tracker .lr with pos := lr, speed := 9000, sense := .away } }
  s.setRun .lift (some ⟨1, 0, cmd, 120, 1000, .normal, 0, 0, 0, 0, []⟩)

/-- The interval of Section 5.12.1 about to be taken. -/
def raise1 : State := lifting 612400 609100 650 .moving

/-- A state whose channel c is RUNNING. -/
def running (c : Channel) (s : State) : State := s.modChan c fun _ => ⟨.running, 536, 1072, none, 0, none, none⟩

/-- A state at work: the raise of Section 5.12.1 with its channels on, its claim ready, and a LATCHED STOP fault. -/
def working : State :=
  let s := running 2 (running 0 raise1)
  { s with
    flow := { s.flow with pump := .running, capacity := 100, granted := [⟨.lift, 1, 70, some 70, some 1000, true⟩] }
    faults := { s.faults with entries := [⟨.coilOpen, .channel 7, false, 0, 0, 1⟩], flags := ⟨false, true, false, false⟩ } }

/-- A state with this link. -/
def onLine (l : Link) : State := { rest with link := l }

/-- A state with the stop machine in a state. -/
def stop (e : EstopState) (s : State) : State := { s with operator := { s.operator with estop := e } }

/-- A state in a supply state. -/
def mode (m : Supply) (s : State) : State := { s with supply := { s.supply with mode := m } }

/-- A state where a STANDBY stands so. -/
def standing (p : StandbyPhase) (s : State) : State := { s with supply := { s.supply with standby := p } }

/-- The state that a command leaves, as a Result. -/
def after (c : Instr) (s : State) (p : State → Bool) : Bool :=
  match exec c s with
  | .next t => p t
  | .fault _ | .refused _ => false

/-! ### WellFormed smoke -/

/-- A term of Table 2-4 with every field 0. -/
def zeroTerm : TermReq := ⟨0, 0, 0, 0, 0⟩

theorem test_interlock_count_refused : (Instr.fitInterlock 0 ⟨1, 8, 0, 2, [zeroTerm]⟩).wellFormed = false := by decide
theorem test_interlock_count_accepted : (Instr.fitInterlock 0 ⟨1, 8, 0, 1, [zeroTerm]⟩).wellFormed = true := by decide
theorem test_pattern_count_refused : (Instr.fitPattern 0 ⟨1, 0, 1, [(1, 5), (0, 5)]⟩).wellFormed = false := by decide
theorem test_pattern_count_accepted : (Instr.fitPattern 0 ⟨1, 0, 2, [(1, 5), (0, 5)]⟩).wellFormed = true := by decide

/-! ### Worked examples of the spec -/

/-- Section 11.2: the check over the ASCII bytes 123456789. -/
theorem test_check_of_digits : crc16 [0x31, 0x32, 0x33, 0x34, 0x35, 0x36, 0x37, 0x38, 0x39] = 0x29B1#16 := by decide

/-- Table 6-2. -/
theorem test_valve_map_table :
    [opening ⟨2000, 150, 950, 250, 60, 100, 3000⟩ 1, opening ⟨2000, 150, 950, 250, 60, 100, 3000⟩ 482,
     opening ⟨2000, 150, 950, 250, 60, 100, 3000⟩ 1000, opening ⟨2000, 0, 400, 250, 60, 100, 3000⟩ 1,
     opening ⟨2000, 0, 400, 250, 60, 100, 3000⟩ 2] = [151, 536, 950, 0, 1] := by decide

/-- Section 6.2: the on times of openings 536 and 1. -/
theorem test_on_times : onTime chanRec 536 = 1072 ∧ onTime { chanRec with period := 250 } 1 = 0 := by decide

/-- Table 4-3: the ten pulses, position and remainder after each. -/
theorem test_pulse_accumulation :
    let r : AxisRec := { axisRec with n := 12, num := 7, den := 25 }
    ([true, true, true, true, false, false, false, false, false, true].foldl
      (fun (acc : List (Int × Nat)) d => acc ++ [pulseStep r d (acc.getLastD (0, 0)).1 (acc.getLastD (0, 0)).2]) []) =
      [(12, 7), (24, 14), (36, 21), (49, 3), (36, 21), (24, 14), (12, 7), (0, 0), (-13, 18), (0, 0)] := by decide

/-- Section 4.9.2. -/
theorem test_window_speeds :
    let r : AxisRec := { axisRec with n := 12, num := 7, den := 25 }
    windowSpeed r 40 = 9824 ∧ windowSpeed r (-3) = -736 ∧ senseOf (-3) = .towardHome := by decide

/-- Section 5.12.1: one interval gives LK-UP 482 and LR-UP 680, f_base 700 and f_cmd 680, and the valve opens 536 and 694. -/
theorem test_raise_interval :
    after (.controlInterval .lift) raise1 (fun t =>
      (t.run? .lift).map (fun x => (x.fBase, x.fCmd, x.correction, x.demands)) == some (700, 680, 198, [(0, 482), (2, 680)]) &&
        (t.chan 0).opening == 536 && (t.chan 2).onTime == 1388) = true := by decide

/-- Section 3.6: the share of the claim granted alone, and the demand it caps. -/
theorem test_cold_share : grantOf 60 0 70 = some (60, 857) ∧ capDemand 700 857 = 599 := by decide

/-- Section 1.3, after R6: with the counter at 5 and records 5 and 6 present the order receives 7. -/
theorem test_free_number : freeNumber [5, 6] 3 5 = 7 ∧ nextNumber 65535 = 1 := by decide

/-- Section 3.2: with K = 100 and T = 40 a head of 70 waits and 30 behind it too; once the 40 is gone both are granted. -/
theorem test_head_blocks_the_list :
    let kerb : Claim := ⟨.kerb, 2, 70, none, none, false⟩
    let road : Claim := ⟨.road, 3, 30, none, none, false⟩
    (grantFrom 100 [⟨.lift, 1, 40, some 40, some 1000, true⟩] [kerb, road]).2.1.length = 2 ∧
      (grantFrom 100 [] [kerb, road]).2.1 = [] := by decide

/-- Table 11-4: a SUBMIT of RAISE_TO 300,000 at NORMAL with binding NONE, byte by byte. -/
theorem test_submit_payload :
    readSubmit [0, 0, 1, 0xE0, 0x93, 0x04, 0x00, 1, 0, 6, 0] = ⟨0, 0, 1, 300000, 1, 0, 6, 0⟩ := by decide

/-- Section 11.9: QUERY_FAULTS over a full table has a payload of 245 bytes, QUERY_AXES one of 100. -/
theorem test_report_lengths :
    (faultReport { FaultTable.reset with entries := List.replicate 16 ⟨.drift, .none, false, 0, 0, 1⟩ }).length = 245 ∧
      (axisReport rest .lk).length = 20 := by decide

/-- Table 9-5, at 1,700: the oldest LATCHED WARN entry gives its place to REFERENCE_MISMATCH LK. -/
theorem test_victim_is_oldest_latched_warn :
    let t : FaultTable :=
      { FaultTable.reset with
        entries :=
          ⟨.pumpNoStart, .none, false, 0, 0, 1⟩ :: ⟨.drift, .axis .sr, false, 0, 0, 2⟩ ::
            List.replicate 14 ⟨.lampOpen, .lamp (.a .rear), true, 0, 0, 1⟩ }
    let u := t.raise .referenceMismatch (.axis .lk) 1700
    u.entries.length = 16 ∧ u.entries.any (fun e => e.code == .drift) = false ∧
      (u.entries.getLast?.map (·.code)) = some .referenceMismatch ∧ u.flags.lift = true := by decide

/-- R164, R166: with sixteen ACTIVE entries and the overflow flag set, a WARN raise changes nothing, and no FAULT notice is
pending for it. -/
theorem test_full_table_raise_is_silent :
    let s : State :=
      { rest with faults :=
          { FaultTable.reset with
            entries := List.replicate 16 ⟨.lampOpen, .lamp (.a .rear), true, 0, 0, 1⟩, overflow := true } }
    (raise .drift (.axis .sr) s).faults = s.faults ∧ (raise .drift (.axis .sr) s).link.pendFault = false := by decide

/-- R110 and R141: nothing is driven while the stop machine is not CLEAR; here a demand reaches no channel. -/
theorem test_no_drive_while_stopped : ((demandCommand 0 500 (stop .active rest)).chan 0).state = .idle := by decide

/-! ### Witnesses: the machine -/

/-- The states of the invariants' witnesses: working meets all of them, and its step answers a next state. -/
theorem witness_invariants :
    working.faults.sound ∧ working.pairsExclusive ∧ working.stopSound ∧ working.tablesBounded ∧ working.oneActiveEach ∧
      working.remaindersSound ∧ (∃ t, step working = .next t) ∧ (∃ o ∈ working.seq.orders, o.state = .moving) := by
  refine ⟨?_, ?_, ?_, ?_, ?_, ?_, ⟨_, rfl⟩, ?_⟩
  · unfold FaultTable.sound; decide
  · unfold State.pairsExclusive; decide
  · exact ⟨fun h => absurd h (by decide), fun h => absurd h (by decide), fun h => absurd h (by decide)⟩
  · unfold State.tablesBounded; decide
  · intro g; cases g <;> decide
  · intro a r h; cases a <;> (cases h; decide)
  · exact ⟨_, List.mem_cons_self, rfl⟩

/-- A pair with its dead-time running. -/
def twisted : State := rest.modPair 2 fun _ => ⟨some 60, some .even, none⟩

theorem witness_StepTakesFrontOrPassesTime :
    twisted.pending = [] ∧ (twisted.pair 2).dead = some 60 ∧ (mode .standby twisted).pending = [] ∧
      (mode .standby twisted).supply.mode = .standby := by decide

theorem witness_LockedFitmentStays :
    working.fitment.locked = true ∧ Instr.queryTable 0 ≠ .powerOnReset ∧ ∃ t, exec (.queryTable 0) working = .next t := by
  exact ⟨rfl, by decide, _, rfl⟩

theorem witness_supply :
    State.reset.operator.loopLine = false ∧
      ({ State.reset with operator := { Operator.reset with loopLine := true } }).operator.loopLine = true ∧
      working.supply.mode = .run ∧ (working.tracker .lk).referenced = true := by decide

theorem witness_WarmResetsAndTheirCauses :
    (mode .held rest).supply.mode = .held ∧ (mode .held rest).supply.awaitFirst = false ∧
      State.reset.supply.mode = .held ∧ State.reset.supply.awaitFirst = true ∧
      rest.supply.mode = .run ∧ rest.link.breakReported = false ∧ (mode .held rest).link.breakReported = false ∧
      (onLine { Link.reset with breakReported := true }).link.breakReported = true := by decide

/-- No axis referenced. -/
def lost : State := { rest with trackers := Vector.replicate 5 Tracker.reset }

theorem witness_WarmResetsAndTheirCauses_standby :
    let s := mode .standby rest
    let d : State := { lost with supply := { lost.supply with mode := .standby, enable := false } }
    (s.supply.mode = .standby ∧ s.link.breakReported = false ∧ s.supply.enable = true) ∧
      (d.supply.mode = .standby ∧ d.link.breakReported = false ∧ d.supply.enable = false ∧
        ∀ a, (d.tracker a).referenced = false) := by
  exact ⟨by decide, rfl, rfl, rfl, fun a => by cases a <;> rfl⟩

theorem answers_rest : rest.answers := ⟨rfl, rfl⟩
theorem answers_unlocked : unlocked.answers := ⟨rfl, rfl⟩
theorem answers_working : working.answers := ⟨rfl, rfl⟩
theorem noActive_rest : rest.noActive := by intro g; cases g <;> rfl
theorem noActive_unlocked : unlocked.noActive := by intro g; cases g <;> rfl
theorem sound_rest : rest.faults.sound := by unfold FaultTable.sound; decide
theorem sound_working : working.faults.sound := by unfold FaultTable.sound; decide

theorem witness_StandbyIsEnteredAfterItsReply :
    (working.answers ∧ ¬ ((∀ o ∈ working.seq.orders, o.state = .ended) ∧ working.drive.prove.overall ≠ .running ∧
      working.operator.estop = .clear)) ∧
    (rest.answers ∧ (∀ o ∈ rest.seq.orders, o.state = .ended) ∧ rest.drive.prove.overall ≠ .running ∧
      rest.operator.estop = .clear) ∧
    ((standing .replied rest).supply.mode = .run ∧ (standing .replied rest).supply.standby = .replied) ∧
    ((standing .accepted rest).supply.mode = .run ∧ (standing .accepted rest).supply.standby ≠ .replied) := by
  refine ⟨⟨answers_working, by decide⟩, ⟨answers_rest, by decide⟩, by decide, by decide⟩

/-! ### Witnesses: the link -/

/-- A receiver in a state with the bytes of QUERY_TABLE, TAG 7. -/
def receiving (rx : RxState) (check : List Byte) : Link :=
  { Link.reset with rx := rx, gap := some 5, rxLen := 2, rxBody := [0x14, 7], rxCheck := check }

theorem witness_ReceiverAssemblesFrames :
    rest.supply.mode = .run ∧ rest.link.rx = .hunt ∧ rest.link.held = false ∧
      (onLine { Link.reset with rx := .length }).link.held = false ∧ (onLine (receiving .body [])).link.held = false ∧
      (onLine (receiving .check [])).link.held = false ∧ (onLine (receiving .check [0])).link.held = false := by decide

theorem witness_FramesAreTakenOrDiscarded :
    let good := onLine (receiving .check (checkBytes [2, 0x14, 7]))
    let bad := onLine (receiving .check [0, 0])
    let part := onLine (receiving .body [])
    (good.supply.mode = .run ∧ good.link.rx = .check ∧ good.link.rxCheck.length = 2 ∧ good.link.rxBody = 0x14 :: 7 :: [] ∧
      checkBytes (good.link.rxLen :: good.link.rxBody) = good.link.rxCheck ∧ good.link.places.length < 2) ∧
    (bad.supply.mode = .run ∧ bad.link.rx = .check ∧ bad.link.rxCheck.length = 2 ∧
      checkBytes (bad.link.rxLen :: bad.link.rxBody) ≠ bad.link.rxCheck) ∧
    (part.supply.mode = .run ∧ part.link.gap ≠ none ∧ part.link.held = false) := by decide

/-- A matching frame held by a receiver whose request buffer holds this many requests. -/
def heldWith (n : Nat) : State :=
  onLine { receiving .check (checkBytes [2, 0x14, 7]) with places := List.replicate n ⟨⟨0x21, 1, []⟩, false⟩ }

theorem witness_FramesAreTakenOrDiscarded_places :
    (∀ n, (heldWith n).supply.mode = .run ∧ (heldWith n).link.rx = .check ∧ (heldWith n).link.rxCheck.length = 2 ∧
      (heldWith n).link.rxBody = 0x14 :: 7 :: [] ∧
      checkBytes ((heldWith n).link.rxLen :: (heldWith n).link.rxBody) = (heldWith n).link.rxCheck) ∧
      (heldWith 1).link.places.length < 2 ∧ ¬ (heldWith 2).link.places.length < 2 := by
  exact ⟨fun _ => ⟨rfl, rfl, rfl, rfl, rfl⟩, by decide, by decide⟩

theorem witness_ReceiverReadsEveryFrame :
    (Frame.mk 0x14 7 (List.replicate 248 0xC3)).payload.length ≤ 248 ∧ Link.reset.rx = .hunt := by decide

/-- Section 11.9: the bytes of QUERY_FAULTS, TAG 1, sent one after another, are taken. -/
theorem test_frame_is_taken :
    ((Frame.wire ⟨0x23, 1, []⟩).length = 6) ∧
      ((Frame.wire ⟨0x23, 1, []⟩).foldl (fun l b => l.byte b) Link.reset).take.places =
        [Place.mk ⟨0x23, 1, []⟩ false] := by decide

/-- A state with one answered request and one waiting one. -/
def asked (f : Frame) : State := onLine { Link.reset with places := [⟨⟨0x21, 1, []⟩, true⟩, ⟨f, false⟩] }

theorem witness_RequestsAreHandedOnInOrder :
    let places (f : Frame) := [Place.mk ⟨0x21, 1, []⟩ true] ++ Place.mk f false :: []
    (∀ f, (asked f).link.places = places f ∧ (asked f).supply.mode = .run ∧ (asked f).supply.standby = .none) ∧
      (∀ p ∈ [Place.mk ⟨0x21, 1, []⟩ true], p.answered = true) ∧ (∀ k : ReqKind, k.code ≠ 0x2C) ∧
      (ReqKind.queryTable.code = 0x14 ∧ ReqKind.queryTable.length? [0] ≠ some 1) ∧ ReqKind.queryFaults.code = 0x23 ∧
      (∀ f, (standing .accepted (asked f)).link.places = places f ∧ (standing .accepted (asked f)).supply.mode = .run ∧
        (standing .accepted (asked f)).supply.standby ≠ .none) := by
  refine ⟨fun f => ⟨rfl, rfl, rfl⟩, by decide, fun k => by cases k <;> decide, by decide, by decide,
    fun f => ⟨rfl, rfl, by intro h; cases h⟩⟩

/-- A reply of QUERY_AXES, and the DONE of STANDBY. -/
def axesReply (enters : Bool) : OutReply := ⟨⟨0xA1, 1, []⟩, true, enters⟩

/-- The transmitter sending something, with these replies waiting and these notices pending. -/
def sending (x : Sending) (rs : List OutReply) (a b c : Bool) : State :=
  onLine { Link.reset with tx := some x, replies := rs, pendStop := a, pendFault := b, pendOrder := c }

theorem witness_TransmitterChoosesAtABoundary :
    let n : Sending := .notice ⟨0x60, 0, [1]⟩
    (∀ x rs a b c, (sending x rs a b c).supply.mode = .run ∧ (sending x rs a b c).supply.standby = .none ∧
      (sending x rs a b c).link.tx = some x ∧ (sending x rs a b c).link.replies = rs) ∧
    (let s := standing .accepted (sending (.reply (axesReply true)) [] false false false)
     s.supply.mode = .run ∧ s.supply.standby = .accepted ∧ s.link.tx = some (.reply (axesReply true)) ∧
       (axesReply true).entersStandby = true) ∧
    (sending n [] true true true).link.pendStop = true ∧
    ((sending n [] false true true).link.pendStop = false ∧ (sending n [] false true true).link.pendFault = true) ∧
    (let s := sending n [] false false true
     s.link.pendStop = false ∧ s.link.pendFault = false ∧ s.link.pendOrder = true ∧ unnoticed s.seq.orders = [] ∧
       unnoticed (withOrders [raising .ended] s).seq.orders ≠ []) := by
  refine ⟨fun x rs a b c => ⟨rfl, rfl, rfl, rfl⟩, by decide, by decide, by decide, by decide⟩

/-! ### Witnesses: fitment requests -/

/-- An AXIS write of Table 4-1, n = 20. -/
def axisReq (a num den : Nat) : AxisReq :=
  ⟨BitVec.ofNat 8 a, 20, BitVec.ofNat 16 num, BitVec.ofNat 16 den, 0, 0, 1500000, 1000, 5000, 2000, 1400000, 10000, 10000⟩

/-- A TIMING write with these hold and block times. -/
def timingReq (hold block : Nat) : TimingReq := ⟨BitVec.ofNat 16 hold, BitVec.ofNat 16 block, 500, 20, 1000, 500, 1500⟩

/-- A PROFILE write of Section 5.12's values. -/
def profileReq : ProfileReq :=
  ⟨2, 120, 700, 850, 120, 40, 30, 50, 1000, 400, 300, #v[1, 60, 60, 60, 60, 255], 60, 250, 500, 8000, 15000, 1000000, 0, 100⟩

/-- A POLICY write whose first slot names G8, stopping on ACTIVE. -/
def policyReq : PolicyReq := ⟨#v[0, 0, 0, 3, 0, 0, 0, 2], #v[(8, 1), (0, 0), (0, 0), (0, 0), (0, 0), (0, 1)]⟩

/-- A two-step PATTERN write. -/
def patternReq : PatternReq := ⟨8, 0, 2, [(1, 1), (0, 250)]⟩

/-- A SCENE write that claims REAR. -/
def sceneReq : SceneReq := ⟨8, 15, #v[⟨1, 8, 1⟩, ⟨0, 0, 0⟩, ⟨0, 0, 0⟩]⟩

theorem witness_LockedSectionsRefuseWrites :
    rest.answers ∧ rest.fitment.locked = true ∧
      (InterlockReq.mk 1 8 0 1 [zeroTerm]).terms.length = (InterlockReq.mk 1 8 0 1 [zeroTerm]).count.toNat := by
  exact ⟨answers_rest, rfl, by decide⟩

theorem witness_OpenSectionsAreWrittenWhole :
    unlocked.answers ∧ unlocked.fitment.locked = false ∧ (1 : Byte).toNat < 2 ∧ 2 ≤ (2 : Byte).toNat ∧
      (firstBad (ChannelReq.checks ⟨11, 10000, 0, 1000, 2000, 500, 1000, 8000⟩) = none ∧ (11 : Byte).toNat < 12) ∧
      firstBad (FlowReq.checks ⟨255, 1, 150, 1, 1, 255, 2000, 0⟩) = none ∧
      (firstBad profileReq.checks = none ∧ profileReq.profile.toNat < 3) ∧
      firstBad (timingReq 500 60000).checks = none ∧
      (500 ≤ (timingReq 500 60001).hold.toNat ∧ (timingReq 30000 60001).hold.toNat ≤ 30000 ∧
        60000 < (timingReq 500 60001).block.toNat) ∧
      (firstBad (InterlockReq.checks ⟨24, 8, 1, 1, [zeroTerm]⟩) = none ∧ (24 : Byte).toNat - 1 < 24) := by
  exact ⟨answers_unlocked, by decide, by decide, by decide, by decide, by decide, by decide, by decide, by decide, by decide⟩

theorem witness_OpenSectionsAreWrittenWhole_fields :
    firstBad (EquipmentReq.checks ⟨1, 1, 2⟩) = some 3 ∧ firstBad (ChannelReq.checks ⟨12, 2000, 150, 950, 250, 60, 100, 3000⟩) = some 1 ∧
      firstBad (FlowReq.checks ⟨100, 60, 5, 70, 40, 50, 300, 5001⟩) = some 8 ∧
      firstBad { profileReq with skewStop := 1000 }.checks = some 17 ∧ firstBad (timingReq 499 60001).checks = some 1 ∧
      (firstBad (InterlockReq.checks ⟨24, 9, 1, 1, [zeroTerm]⟩) = some 2 ∧ [zeroTerm].length = (1 : Byte).toNat) := by decide

theorem witness_AxisWriteRebasesTheTracker :
    unlocked.answers ∧ unlocked.fitment.locked = false ∧ (axisReq 4 0 1).axis.toNat = Axis.sr.idx.val ∧
      firstBad (axisReq 4 0 1).checks = none ∧ 1 ≤ (axisReq 4 7 7).n.toNat ∧ (axisReq 4 7 7).n.toNat ≤ 4095 ∧
      (axisReq 4 7 7).den.toNat ≤ (axisReq 4 7 7).num.toNat := by
  exact ⟨answers_unlocked, by decide, by decide, by decide, by decide, by decide, by decide⟩

theorem witness_PolicyAndLampsTakeEffectAtTheWrite :
    unlocked.answers ∧ unlocked.fitment.locked = false ∧ firstBad policyReq.checks = none ∧ unlocked.noActive ∧
      policyReq.record.slots[2 * Group.lift.idx.val]? = some ⟨some 7, true⟩ ∧
      policyReq.record.slots[2 * Group.lift.idx.val + 1]? = some ⟨none, false⟩ ∧
      policyReq.record.slots[2 * Group.road.idx.val + 1]? = some ⟨none, true⟩ ∧
      firstBad (LampsReq.checks ⟨#v[2, 0, 1], #v[1, 0, 0]⟩) = none := by
  exact ⟨answers_unlocked, by decide, by decide, noActive_unlocked, by decide, by decide, by decide, by decide⟩

theorem witness_PatternsAndScenesReachThePlayers :
    rest.answers ∧ patternReq.pattern.toNat - 1 < 8 ∧ patternReq.steps.length = patternReq.count.toNat ∧
      firstBad patternReq.checks = none ∧ sceneReq.scene.toNat - 1 < 8 ∧ firstBad sceneReq.checks = none := by
  exact ⟨answers_rest, by decide, by decide, by decide, by decide, by decide⟩

/-- An OPEN fitment with this EQUIPMENT place. -/
def equipped (e : Option EquipmentRec) : State :=
  { unlocked with fitment := { unlocked.fitment with equipment := e } }

/-- A whole OPEN fitment with this FLOW record. -/
def openWith (x : FlowRec) : State := { unlocked with fitment := { unlocked.fitment with flow := some x } }

/-- That fitment fails no check but that of C_cold. -/
theorem openWith_fails (x : FlowRec) (q k i f : Nat) (h : (openWith x).lockFails q k i f) :
    q = 3 ∧ k = 4 ∧ i = 0 ∧ f = 2 ∧ x.capacity < x.cold := by
  have ha : ∀ a, (openWith x).axisRec? a = some axisRec := fun a => by cases a <;> rfl
  have hc : ∀ c, (openWith x).chanRec? c = some chanRec := fun c => by
    show fitted.channels[c] = some chanRec
    revert c; decide
  have hg : ∀ g, (openWith x).fitted g = true := fun g => by cases g <;> rfl
  have hp : ∀ p, (openWith x).profile? p = some profRec := fun p => by cases p <;> rfl
  have hi : ∀ n : Fin 24, (openWith x).fitment.interlocks[n] = none := fun n => by
    show fitted.interlocks[n] = none
    revert n; decide
  rcases h with ⟨_, _, _, ⟨_, h⟩ | ⟨_, h⟩⟩ | ⟨_, _, h⟩ | ⟨hq, h⟩ | ⟨_, _, n, r, j, y, _, h, _⟩
  · cases h
  · cases h
  · rcases h with ⟨_, a, _, _, h⟩ | ⟨_, c, _, _, h⟩ | ⟨_, _, h⟩ | ⟨_, p, _, _, h⟩ | ⟨_, _, h⟩ | ⟨_, _, h⟩
    · rw [ha] at h; cases h
    · rw [hc] at h; cases h
    · cases h
    · rw [hp] at h; cases h
    · cases h
    · cases h
  · rcases h with ⟨_, a, r, _, _, hr, h⟩ | ⟨_, c, r, _, _, hr, h⟩ | ⟨hk, hi, hf, r, hr, h⟩ | ⟨_, p, r, _, _, hr, h⟩ |
      ⟨_, _, r, n, g, _, _, _, h, _⟩ | ⟨_, n, r, j, y, _, h, _⟩ | ⟨_, _, r, p, h, _⟩
    · rw [ha] at hr; cases hr
      simp [ha, axisRec] at h
    · rw [hc] at hr; cases hr
      simp [chanRec] at h
    · cases hr; exact ⟨hq, hk, hi, hf, h⟩
    · rw [hp] at hr; cases hr
      simp [ha, axisRec, profRec] at h
    · rw [hg] at h; cases h
    · rw [hi] at h; cases h
    · cases h
  · rw [hi] at h; cases h

theorem witness_LockChecksThenLocks :
    rest.answers ∧ rest.fitment.locked = true ∧ (∀ e, (equipped e).answers ∧ (equipped e).fitment.locked = false) ∧
      (equipped none).fitment.equipment = none ∧
      (equipped (some ⟨false, false, false⟩)).fitment.equipment = some ⟨false, false, false⟩ ∧
      (unlocked.answers ∧ unlocked.fitment.locked = false ∧ (∀ q k i f, ¬ unlocked.lockFails q k i f) ∧
        ∀ a, (unlocked.tracker a).home = false) := by
  exact ⟨answers_rest, rfl, fun _ => ⟨⟨rfl, rfl⟩, rfl⟩, rfl, rfl, answers_unlocked, rfl,
    fun q k i f h => absurd (openWith_fails flowRec q k i f h).2.2.2.2 (by decide), fun a => by cases a <;> rfl⟩

/-- C_cold one above C fails, and C_cold equal to C does not. -/
theorem witness_LockChecksThenLocks_failure :
    let s := openWith { flowRec with capacity := 59 }
    (s.answers ∧ s.fitment.locked = false ∧ s.lockFailsFirst 3 4 0 2) ∧
      ∀ q k i f, ¬ (openWith { flowRec with capacity := 60 }).lockFails q k i f := by
  refine ⟨⟨⟨rfl, rfl⟩, rfl, .inr (.inr (.inl ⟨rfl, .inr (.inr (.inl ⟨rfl, rfl, rfl, _, rfl, by decide⟩))⟩)), ?_⟩, ?_⟩
  · intro q k i f h
    obtain ⟨rfl, rfl, rfl, rfl, _⟩ := openWith_fails _ q k i f h
    exact .inr ⟨rfl, .inr ⟨rfl, .inr ⟨rfl, Nat.le_refl _⟩⟩⟩
  · exact fun q k i f h => absurd (openWith_fails _ q k i f h).2.2.2.2 (by decide)

/-- The OPEN fitment with LK on its switch, 1 µm beyond the home window. -/
def onSwitch : State := unlocked.modTracker .lk fun t => { t with home := true, pos := 5001 }

theorem witness_LockChecksThenLocks_snap :
    onSwitch.answers ∧ onSwitch.fitment.locked = false ∧ (∀ q k i f, ¬ onSwitch.lockFails q k i f) ∧ onSwitch.noActive ∧
      onSwitch.faults.sound ∧ onSwitch.faults.entries.length + 5 ≤ 16 ∧ onSwitch.axisRec? .lk = some axisRec ∧
      (onSwitch.tracker .lk).home = true ∧ (onSwitch.tracker .lk).referenced = true ∧
      axisRec.homeWindow < ((onSwitch.tracker .lk).pos - axisRec.home).natAbs ∧ (onSwitch.tracker .lr).home = false := by
  exact ⟨⟨rfl, rfl⟩, rfl, fun q k i f h => absurd (openWith_fails flowRec q k i f h).2.2.2.2 (by decide),
    fun g => by cases g <;> rfl, sound_rest, by decide, rfl, rfl, rfl, by decide, rfl⟩

/-- Table 10-6: the body without a tail lift, an open position and a first term of entry 3 still to be given. -/
def twoShutters (softUpper : Int) (t : Machine.Term) : State :=
  { unlocked with fitment := { unlocked.fitment with
      equipment := some ⟨false, true, true⟩
      axes := unlocked.fitment.axes.set 3 (some { axisRec with openPos := 1450000, softUpper := softUpper })
      interlocks := unlocked.fitment.interlocks.set 2 (some ⟨none, .stopWait, [⟨.speedZero, false, .none, 0, 0⟩, t]⟩) } }

/-- Table 10-6: AXIS SK, field 11; then INTERLOCK 3, field 12; then the lock. -/
theorem test_lock_attempts :
    let reply (s : State) (r : List Byte) : Bool :=
      after (.fitLock 7) s fun t => t.link.outgoing.map (fun x => (x.frame.kind, x.frame.payload)) == [(0xFF, r)]
    reply (twoShutters 1400000 ⟨.groupIdle, false, .group .lift, 0, 0⟩) [0x0D, 3, 2, 3, 11] = true ∧
      reply (twoShutters 1500000 ⟨.groupIdle, false, .group .lift, 0, 0⟩) [0x0D, 3, 8, 3, 12] = true ∧
      after (.fitLock 7) (twoShutters 1500000 ⟨.groupIdle, false, .group .kerb, 0, 0⟩)
        (fun t => t.fitment.locked && t.flow.capacity == 60) = true := by decide

/-! ### Witnesses: orders -/

/-- A group RESETTING. -/
def resettingLift : State := { rest with faults := { rest.faults with resetting := #v[some 200, none, none] } }

/-- A SUBMIT of RAISE_TO 300,000 at NORMAL with binding NONE. -/
def raiseReq : SubmitReq := ⟨0, 0, 1, 300000, 1, 0, 6, 0⟩

/-- A state with these inhibit flags. -/
def inhibitedBy (f : Inhibits) (s : State) : State := { s with faults := { s.faults with flags := f } }

/-- The states of the checks of R11 in their order: each passes the checks before its own and fails its own. -/
def unfitted : State := { rest with fitment := { fitted with equipment := some ⟨false, true, true⟩ } }

/-- LIFT inhibited by a LATCHED SKEW. -/
def inhibitedLift : State :=
  inhibitedBy ⟨true, false, false, false⟩
    { rest with faults := { FaultTable.reset with entries := [⟨.skew, .group .lift, false, 0, 0, 1⟩] } }

/-- A policy that asks TWO_HAND for DEPLOY and LEVEL for CLOSE. -/
def guarded : State := { rest with fitment := { fitted with policy := some policyReq.record } }

/-- Every slot of the table taken by a record not ENDED. -/
def full : State :=
  withOrders ([1, 2, 3, 4, 5, 6, 7, 8].map fun n => order n .kerb .openShutter .queued []) rest

theorem witness_SubmitIsRefusedByTheFirstCheck :
    (firstBad raiseReq.checks = none ∧ raiseReq.kind? = some .raiseTo ∧ raiseReq.binding? = some .none) ∧
    (unlocked.answers ∧ unlocked.fitment.locked = false) ∧
    (unfitted.answers ∧ unfitted.fitment.locked = true ∧ unfitted.fitted raiseReq.group = false) ∧
    ((stop .active rest).answers ∧ (stop .active rest).fitment.locked = true ∧
      (stop .active rest).fitted raiseReq.group = true ∧ (stop .active rest).operator.estop ≠ .clear) ∧
    (resettingLift.answers ∧ resettingLift.fitment.locked = true ∧ resettingLift.fitted raiseReq.group = true ∧
      resettingLift.operator.estop = .clear ∧ resettingLift.faults.resetting[raiseReq.group.idx] ≠ none) := by
  exact ⟨by decide, ⟨answers_unlocked, rfl⟩, ⟨⟨rfl, rfl⟩, by decide⟩, ⟨⟨rfl, rfl⟩, by decide⟩, ⟨rfl, rfl⟩, by decide⟩

theorem witness_SubmitIsRefusedByTheFirstCheck_later :
    let base (s : State) := s.fitment.locked = true ∧ s.fitted .lift = true ∧ s.operator.estop = .clear ∧
      s.faults.resetting[Group.lift.idx] = none
    let deploy : SubmitReq := ⟨3, 0, 0, 0, 1, 0, 6, 0⟩
    raiseReq.group = .lift ∧
    (base inhibitedLift ∧ inhibitedLift.faults.flags.group .lift = true ∧
      inhibitedLift.faults.admits .lift .raiseTo = false) ∧
    (base lost ∧ lost.faults.flags.group .lift = false ∧
      (neededAxes .lift .raiseTo).any (fun a => !(lost.tracker a).referenced) = true) ∧
    (base guarded ∧ guarded.faults.flags.group .lift = false ∧
      (neededAxes .lift .deploy).all (fun a => (guarded.tracker a).referenced) = true ∧
      firstBad deploy.checks = none ∧ deploy.kind? = some .deploy ∧ deploy.binding? = some .none ∧ deploy.group = .lift ∧
      (Binding.kind .none).rank < (guarded.minBinding .deploy).rank) ∧
    (base full ∧ full.faults.flags.group .lift = false ∧
      (neededAxes .lift .raiseTo).all (fun a => (full.tracker a).referenced) = true ∧
      (full.minBinding .raiseTo).rank ≤ (Binding.kind .none).rank ∧ 8 ≤ full.seq.orders.length ∧
      ∀ o ∈ full.seq.orders, o.state ≠ .ended) := by decide

theorem witness_SubmitIsRefusedByTheFirstCheck_answers :
    inhibitedLift.answers ∧ lost.answers ∧ guarded.answers ∧ full.answers :=
  ⟨⟨rfl, rfl⟩, ⟨rfl, rfl⟩, ⟨rfl, rfl⟩, rfl, rfl⟩

theorem witness_SubmitJoinsTheQueue :
    raise1.answers ∧ firstBad raiseReq.checks = none ∧ raise1.submitRefusal? raiseReq.group .raiseTo .none = none ∧
      (raise1.active? raiseReq.group).isSome ∧ raise1.seq.orders.length < 8 ∧
      (∀ o ∈ raise1.seq.orders, o.number ≠ raise1.seq.nextNumber) := by
  exact ⟨⟨rfl, rfl⟩, by decide, by decide, by decide, by decide, by decide⟩

/-- The raise at work and seven ended records behind it, the third of which ended first. -/
def crowded : State :=
  withOrders (raising .moving :: [(2, 5), (3, 6), (4, 1), (5, 7), (6, 2), (7, 3), (8, 4)].map fun x =>
    { order x.1 .kerb .openShutter .ended [] with endRank := x.2 }) rest

/-- The running of a proving test. -/
def testing (s : State) : State := s.modProve fun x => { x with overall := .running }

theorem witness_SubmitJoinsTheQueue_more :
    let q := testing (withOrders [raising .queued] rest)
    (crowded.answers ∧ crowded.submitRefusal? raiseReq.group .raiseTo .none = none ∧ (crowded.active? raiseReq.group).isSome ∧
      8 ≤ crowded.seq.orders.length ∧ (crowded.seq.orders.map (·.number)).Nodup ∧
      (∃ e ∈ crowded.seq.orders, e.state = .ended ∧
        ∀ x ∈ crowded.seq.orders, x.state = .ended → x.number ≠ e.number → e.endRank < x.endRank) ∧
      ∀ o ∈ crowded.seq.orders, o.number ≠ crowded.seq.nextNumber) ∧
    (q.answers ∧ q.submitRefusal? raiseReq.group .raiseTo .none = none ∧ q.drive.prove.overall = .running ∧
      (q.oldestQueued? raiseReq.group).isSome ∧ ∀ o ∈ q.seq.orders, o.number ≠ q.seq.nextNumber) ∧
    (∀ s ∈ [rest, testing rest], s.answers ∧ s.submitRefusal? raiseReq.group .raiseTo .none = none ∧
      s.groupIdle raiseReq.group = true ∧ s.seq.orders.length < 8 ∧ (∀ o ∈ s.seq.orders, o.number ≠ s.seq.nextNumber) ∧
      claimed s.seq.nextNumber s.flow.waiting = false ∧ claimed s.seq.nextNumber s.flow.granted = false) := by
  refine ⟨⟨⟨rfl, rfl⟩, by decide, by decide, by decide, by decide, by decide, by decide⟩, ⟨⟨rfl, rfl⟩, by decide⟩, ?_⟩
  intro s h
  simp only [List.mem_cons, List.not_mem_nil, or_false] at h
  rcases h with rfl | rfl <;> exact ⟨⟨rfl, rfl⟩, by decide⟩

/-- R13 to R19: in the idle group the raise is at once CLAIMING, with the claim of 70 of an empty power pack. -/
theorem test_submit_starts_the_first_phase :
    after (.submit 0 raiseReq) rest (fun t =>
      t.seq.orders.map (fun o => (o.state, o.phases)) == [(.claiming, [⟨.pumped, some .liftUp, 300000, .target, true⟩])] &&
        (t.flow.granted ++ t.flow.waiting).map (·.demand) == [70]) = true := by decide

/-- The raise as order 1 in a state, a second LIFT order queued behind it. -/
def behind (st : OrderState) : State := withOrders [raising st, order 2 .lift .raiseTo .queued [raisePhase]] rest

theorem witness_CancelGoesByTheState :
    (∀ st, (behind st).answers ∧ (behind st).order? (1 : U16).toNat = some (raising st)) ∧
    (behind .ended).order? (3 : U16).toNat = none ∧ (raising .ended).state = .ended ∧
    ((raising .moving).state = .moving ∧ (raising .moving).inMovement = true) ∧
    ((raising .stopping).state = .stopping ∧ (raising .settling).state = .settling) ∧
    (((behind .moving).order? (2 : U16).toNat).map (fun o => (o.number, o.group, o.state)) = some (2, .lift, .queued) ∧
      (behind .moving).active? .lift = some (raising .moving) ∧ (raising .moving).number ≠ 2) := by
  refine ⟨fun st => ⟨⟨rfl, rfl⟩, rfl⟩, by decide, by decide, by decide, by decide, by decide⟩

/-- An OPEN of the kerb shutter in its latch pulse. -/
def unlatching : Order :=
  order 1 .kerb .openShutter .moving
    [⟨.pulse, some .kerbOpen, 0, .pulseDone, false⟩, ⟨.pumped, some .kerbOpen, 1400000, .target, false⟩]

/-- A CLOSE of the kerb shutter in its latch check. -/
def checking : Order := order 1 .kerb .closeShutter .moving [⟨.check, none, 0, .sense, false⟩]

/-- One record. -/
def only (o : Order) : State := withOrders [o] rest

theorem witness_CancelGoesByTheState_waiting :
    let base (o : Order) := (only o).order? (1 : U16).toNat = some o ∧ ((only o).seq.orders.map (·.number)).Nodup ∧
      (only o).oldestQueued? o.group = none ∧ (only o).run? o.group = none ∧ (only o).flow.waiting = []
    (∀ st ∈ [OrderState.blocked, .holdWait, .claiming, .paused], base (raising st)) ∧
    (base unlatching ∧ unlatching.state = .moving ∧ unlatching.phaseIs .pulse = true) ∧
    (base checking ∧ checking.state = .moving ∧ checking.phaseIs .check = true) ∧
    (let q := testing (only (raising .queued))
     q.order? (1 : U16).toNat = some (raising .queued) ∧ q.drive.prove.overall = .running ∧ q.active? .lift = none) := by decide

theorem witness_CancelGoesByTheState_sound (o : Order) :
    (only o).answers ∧ (only o).oneActiveEach ∧ (testing (only o)).answers :=
  ⟨⟨rfl, rfl⟩, fun _ => List.length_filter_le _ _, ⟨rfl, rfl⟩⟩

theorem witness_RetireRemovesAnEndedRecord :
    (∀ st, (behind st).answers) ∧ (behind .ended).order? (1 : U16).toNat = some (raising .ended) ∧
      (raising .ended).state = .ended ∧ (behind .moving).order? (1 : U16).toNat = some (raising .moving) ∧
      (raising .moving).state ≠ .ended ∧ (behind .moving).order? (3 : U16).toNat = none := by
  exact ⟨fun _ => ⟨rfl, rfl⟩, by decide, by decide, by decide, by decide, by decide⟩

/-! ### Witnesses: the other requests -/

theorem witness_QueriesChangeNothing :
    (behind .moving).answers ∧ (behind .moving).order? (1 : U16).toNat = some (raising .moving) ∧
      (behind .moving).order? (3 : U16).toNat = none ∧ 6 < (7 : Byte).toNat ∧
      (behind .moving).fitment.equipment = some ⟨true, true, true⟩ ∧
      ((equipped none).answers ∧ (equipped none).fitment.equipment = none) ∧ 11 < (12 : Byte).toNat ∧
      12 ≤ (12 : Byte).toNat ∧ 5 ≤ (5 : Byte).toNat ∧ 3 ≤ (3 : Byte).toNat ∧ 24 < (25 : Byte).toNat ∧ 8 < (9 : Byte).toNat ∧
      (4 : Byte).toNat = Axis.sr.idx.val ∧ (11 : Byte).toNat = (11 : Channel).val ∧ (2 : Byte).toNat = Profile.shutter.idx.val ∧
      (24 : Byte).toNat = (23 : Fin 24).val + 1 ∧ (8 : Byte).toNat = (7 : Fin 8).val + 1 := by
  exact ⟨⟨rfl, rfl⟩, by decide, by decide, by decide, by decide, ⟨⟨rfl, rfl⟩, rfl⟩, by decide⟩

theorem witness_VehicleFieldsAreClamped :
    let r : VehicleReq := ⟨2, 2501, BitVec.ofInt 16 (-41), 300, BitVec.ofInt 16 (-301), 1⟩
    rest.answers ∧ rest.fitment.locked = true ∧ r.brake.toNat ≤ 2 ∧ r.night.toNat ≤ 1 ∧ rest.flow.waiting = [] ∧
      rest.fitment.flow = some flowRec := by
  exact ⟨answers_rest, by decide, by decide, by decide, by decide, by decide⟩

/-- R37, R38: that request is answered stale before, speed clamped, oil clamped, pitch as given, roll clamped. -/
theorem test_vehicle_clamps :
    after (.vehicle 1 ⟨2, 2501, BitVec.ofInt 16 (-41), 300, BitVec.ofInt 16 (-301), 1⟩) rest (fun t =>
      t.vehicle.speed == 2500 && t.vehicle.oil == -40 && t.vehicle.pitch == 300 && t.vehicle.roll == -300 &&
        t.link.tx == some (.reply ⟨⟨0xA0, 1, [1, 1, 1, 0, 1]⟩, false, false⟩)) = true := by decide

theorem witness_faults_requests :
    working.faults.sound ∧ working.answers ∧ (resettingLift.faults.sound ∧ resettingLift.supply.mode = .run ∧
      resettingLift.faults.resetting[Group.lift.idx] ≠ none) ∧
    ((0 : Byte).toNat = Group.lift.idx.val ∧ rest.fitment.locked = true ∧ rest.fitted .lift = true ∧
      rest.faults.resetting[Group.lift.idx] = none ∧ rest.flow.waiting = [] ∧ (rest.seq.orders.map (·.number)).Nodup) ∧
    (resettingLift.answers ∧ resettingLift.faults.resetting[Group.lift.idx] = some 200) := by
  exact ⟨sound_working, answers_working, ⟨by unfold FaultTable.sound; decide, by decide, by decide⟩, by decide, ⟨rfl, rfl⟩,
    by decide⟩

theorem witness_ProveStartsTheTest :
    (unlocked.answers ∧ unlocked.fitment.locked = false) ∧
    (working.answers ∧ working.fitment.locked = true ∧ ∃ o ∈ working.seq.orders, o.state.isActive = true) ∧
    (rest.answers ∧ rest.fitment.locked = true ∧ rest.drive.prove.overall ≠ .running ∧ rest.operator.estop = .clear ∧
      (∀ o ∈ rest.seq.orders, o.state.isActive = false) ∧ rest.flow.pump = .off ∧ ∃ g, rest.fitted g = true) := by
  exact ⟨⟨answers_unlocked, rfl⟩, ⟨answers_working, rfl, _, List.mem_cons_self, by decide⟩,
    ⟨answers_rest, by decide, by decide, by decide, by decide, by decide, .kerb, by decide⟩⟩

/-- A state with an override on FLAG. -/
def overridden : State := rest.setOverride .flag (some ⟨8, true, some 0⟩)

theorem witness_OverrideIsSetAndRemoved :
    let r : OverrideReq := ⟨2, 0, 8, 1, 3600⟩
    rest.answers ∧ (r.pair.toNat = LampPair.flag.idx.val ∧ r.action = 0 ∧ r.pattern.toNat ≤ 8 ∧ r.invert.toNat ≤ 1 ∧
      r.duration.toNat ≤ 3600) ∧
    rest.override? .flag = none ∧ (overridden.supply.mode = .run ∧ overridden.override? .flag = some ⟨8, true, some 0⟩) ∧
    (overridden.answers ∧ (OverrideReq.mk 2 1 0 0 0).pair.toNat = LampPair.flag.idx.val ∧
      (OverrideReq.mk 2 1 0 0 0).action = 1) := by
  exact ⟨answers_rest, by decide, by decide, by decide, ⟨rfl, rfl⟩, by decide⟩

/-- REAR in SINGLE with a DISCRETE lamp B. -/
def discrete : State :=
  { rest with fitment := { fitted with lamps := some ⟨#v[.single, .mirror, .mirror], #v[true, false, false]⟩ } }

theorem witness_SetOutputDrivesDiscreteLines :
    discrete.answers ∧ ((1 : Byte).toNat = (Lamp.b .rear).idx.val ∧ discrete.isDiscrete .rear = true) ∧
      ((5 : Byte).toNat = (Lamp.b .flag).idx.val ∧ discrete.lampIsDiscrete (.b .flag) = false) ∧ 6 ≤ (6 : Byte).toNat ∧
      (5 : Byte).toNat < 6 ∧ 2 ≤ (2 : Byte).toNat := by
  exact ⟨⟨rfl, rfl⟩, by decide, by decide, by decide, by decide, by decide⟩

/-! ### Witnesses: motion -/

/-- The run of Section 5.12.1 with this commanded demand. -/
def runAt (cmd : Nat) : Run := ⟨1, 0, cmd, 120, 1000, .normal, 0, 0, 0, 0, []⟩

theorem witness_MovingIntervalRampsTheDemand :
    raise1.supply.mode = .run ∧ (raising .moving).state = .moving ∧ raise1.active? .lift = some (raising .moving) ∧ (raising .moving).phase? = some raisePhase ∧
      raisePhase.cls = some .liftUp ∧ raise1.run? .lift = some (runAt 650) ∧ raise1.profile? .lift = some profRec ∧
      raise1.askInterlock (raising .moving) = none ∧ raise1.isObstructed .lift = false ∧
      raise1.arrived (raising .moving) raisePhase .liftUp = false ∧ (runAt 650).stall + 10 < profRec.stallTime ∧
      (raisePhase.sync = true ∧ raise1.skew.natAbs ≤ profRec.skewStop) ∧
      ((runAt 650).skewState = .normal ∧ ¬ profRec.skewWarn < raise1.skew.natAbs) := by decide

/-- The phase of a synchronised lowering to the bed height, of order 1. -/
def lowering : Order := order 1 .lift .lowerTo .moving [⟨.gravity, some .liftDown, 100000, .target, true⟩]

/-- The lowering with LK this far above LR, its run in this skew state, LK on its switch or not. -/
def lowerAt (skew : Int) (k : SkewState) (home : Bool) : State :=
  let s := withOrders [lowering] (lifting (600000 + skew) 600000 650 .moving)
  let s := s.modTracker .lk fun t => { t with home := home }
  s.setRun .lift (some { runAt 650 with skewState := k })

theorem witness_MovingIntervalRampsTheDemand_lift :
    (∀ x ∈ [((8001 : Int), SkewState.normal, false), (-8000, .warned, false), (15000, .warned, true)],
      let s := lowerAt x.1 x.2.1 x.2.2
      s.supply.mode = .run ∧ s.active? .lift = some lowering ∧ lowering.phase? = some ⟨.gravity, some .liftDown, 100000, .target, true⟩ ∧
        s.run? .lift = some { runAt 650 with skewState := x.2.1 } ∧ s.profile? .lift = some profRec ∧
        s.askInterlock lowering = none ∧ s.isObstructed .lift = false ∧
        s.arrived lowering ⟨.gravity, some .liftDown, 100000, .target, true⟩ .liftDown = false ∧
        s.skew.natAbs ≤ profRec.skewStop ∧ (s.tracker .lk).home = x.2.2 ∧ (s.tracker .lr).home = false ∧
        s.faults.entries.length < 16) ∧
      (lowerAt 8001 .normal false).faults.sound := by
  exact ⟨by decide, sound_rest⟩

/-- R101, R103: LK, 2,000 µm above LR and so behind it on the way down, keeps the demand; LR, ahead, gives up 120. -/
theorem test_lowering_holds_back_the_cylinder_ahead :
    after (.controlInterval .lift) (lowerAt 2000 .normal false) (fun t =>
      (t.run? .lift).map (fun x => (x.correction, x.demands)) == some (120, [(1, 680), (3, 560)])) = true := by decide

theorem witness_StoppingIntervalStepsDown :
    let s (cmd : Nat) := lifting 899420 899420 cmd .stopping
    let o : Order := { raising .stopping with outcome := some .arrived }
    let e := withOrders [o] (s 50)
    ((s 51).supply.mode = .run ∧ (s 51).active? .lift = some (raising .stopping) ∧ (s 51).run? .lift = some (runAt 51) ∧
      (raising .stopping).phase? = some raisePhase ∧ raisePhase.cls = some .liftUp ∧ (s 51).profile? .lift = some profRec ∧
      (runAt 51).skewState = .normal ∧ (s 51).skew.natAbs ≤ min profRec.skewWarn profRec.skewStop ∧ profRec.stop < 51) ∧
    (e.supply.mode = .run ∧ e.active? .lift = some o ∧ o.state = .stopping ∧ o.phase? = some raisePhase ∧
      e.run? .lift = some (runAt 50) ∧ e.profile? .lift = some profRec ∧
      e.skew.natAbs ≤ min profRec.skewWarn profRec.skewStop ∧ 50 ≤ profRec.stop ∧ o.outcome = some .arrived ∧
      e.flow.waiting = [] ∧ (runAt 50).skewState ≠ .warned) := by decide

/-- The raise in STOPPING with this outcome and binding, its demand one stop step above 0. -/
def stoppingBy (out : StopOutcome) (b : Binding) (s : State) : State :=
  { withOrders [{ raising .stopping with outcome := some out, binding := b }] (lifting 700000 700000 50 .stopping) with faults := s.faults }

theorem witness_StoppingIntervalStepsDown_waits :
    let o (out : StopOutcome) (b : Binding) : Order := { raising .stopping with outcome := some out, binding := b }
    let base (s : State) (out : StopOutcome) (b : Binding) :=
      s.supply.mode = .run ∧ s.active? .lift = some (o out b) ∧ (o out b).phase? = some raisePhase ∧
        s.run? .lift = some (runAt 50) ∧ s.profile? .lift = some profRec ∧ s.flow.waiting = [] ∧
        s.skew.natAbs ≤ min profRec.skewWarn profRec.skewStop ∧ (s.seq.orders.map (·.number)).Nodup ∧ s.oldestQueued? .lift = none
    (∀ x ∈ [(StopOutcome.block, Binding.none, true), (.pause, .level 0, false), (.pause, .none, true)],
      base (stoppingBy x.1 x.2.1 rest) x.1 x.2.1 ∧ (stoppingBy x.1 x.2.1 rest).faults.flags = Inhibits.none ∧
        (stoppingBy x.1 x.2.1 rest).bindingOk (o x.1 x.2.1) = x.2.2) ∧
    (base (stoppingBy .pause .none inhibitedLift) .pause .none ∧
      (stoppingBy .pause .none inhibitedLift).faults.flags.group (o .pause .none).group = true ∧
      (stoppingBy .pause .none inhibitedLift).faults.admits (o .pause .none).group (o .pause .none).kind = false) := by decide

theorem witness_StoppingIntervalStepsDown_one (out : StopOutcome) (b : Binding) (s : State) :
    (stoppingBy out b s).oneActiveEach := fun _ => List.length_filter_le _ _

/-- Entry 2 asks LIFT_UP for G1 ACTIVE, with this loss action. -/
def asking (l : LossAction) (s : State) : State :=
  { s with fitment := { fitted with
      interlocks := fitted.interlocks.set 1 (some ⟨some .liftUp, l, [⟨.input, false, .input 0, 0, 0⟩]⟩) } }

theorem witness_StoppingIntervalStepsDown_lost :
    ∀ l ∈ [LossAction.stopWait, .stopFail],
      let s := asking l raise1
      s.supply.mode = .run ∧ s.active? .lift = some (raising .moving) ∧ s.run? .lift = some (runAt 650) ∧
        s.profile? .lift = some profRec ∧ s.skew.natAbs ≤ min profRec.skewWarn profRec.skewStop ∧
        s.askInterlock (raising .moving) = some 2 ∧
        (s.fitment.interlocks.toList[2 - 1]?).join = some ⟨some .liftUp, l, [⟨.input, false, .input 0, 0, 0⟩]⟩ ∧
        s.isObstructed .lift = false ∧ profRec.stop < 650 := by decide

/-- Table 5-5, intervals 7 to 9: the arrival takes the first stop step at once. -/
theorem test_arrival_takes_the_first_stop_step :
    after (.controlInterval .lift) (lifting 899300 899300 120 .moving) (fun t =>
      (t.run? .lift).map (·.fCmd) == some 70 && (t.active? .lift).map (·.outcome) == some (some .arrived)) = true := by decide

theorem witness_StoppingIntervalStepsDown_arrived :
    let base (o : Order) (p : Phase) (c : MoveClass) (cmd : Nat) (s : State) :=
      s.supply.mode = .run ∧ s.active? .lift = some o ∧ o.state = .moving ∧ o.phase? = some p ∧ p.cls = some c ∧
        s.run? .lift = some (runAt cmd) ∧ s.profile? c.profile = some profRec ∧
        s.skew.natAbs ≤ min profRec.skewWarn profRec.skewStop ∧ s.askInterlock o = none ∧ s.isObstructed .lift = false ∧
        s.flow.waiting = []
    let down : Phase := ⟨.gravity, some .liftDown, 0, .switch, true⟩
    let descent : Order := order 1 .lift .deploy .moving [down]
    let landed := ((withOrders [descent] (lifting 0 0 50 .moving)).modTracker .lk fun t => { t with home := true }).modTracker .lr
      fun t => { t with home := true }
    (∀ cmd ∈ [50, 51], base (raising .moving) raisePhase .liftUp cmd (lifting 899000 899000 cmd .moving) ∧
      ∀ a ∈ MoveClass.liftUp.axes, (lifting 899000 899000 cmd .moving).axisRec? a = some axisRec ∧
        (raisePhase.target - (lifting 899000 899000 cmd .moving).reference .liftUp).natAbs ≤ axisRec.arrival) ∧
    (base (raising .moving) raisePhase .liftUp 51 (lifting 901001 901001 51 .moving) ∧
      raisePhase.target < (lifting 901001 901001 51 .moving).reference .liftUp) ∧
    (base descent down .liftDown 50 landed ∧ ∀ a ∈ MoveClass.liftDown.axes, (landed.tracker a).home = true) := by decide

/-- A state whose LIFT group is obstructed. -/
def obstructed (s : State) : State := { s with operator := { s.operator with obstructed := #v[true, false, false] } }

theorem witness_StoppingIntervalStepsDown_gates :
    let o (st : OrderState) (b : Binding) : Order := { raising st with binding := b }
    let s (st : OrderState) (b : Binding) : State := only (o st b)
    ∀ st ∈ [OrderState.blocked, .holdWait, .claiming], ∀ b ∈ [Binding.none, .level 0],
      ((s st b).supply.mode = .run ∧ (s st b).active? .lift = some (o st b) ∧ (o st b).state = st ∧
        (o st b).phase? = some raisePhase ∧ raisePhase.kind ≠ .check ∧ (s st b).askInterlock (o st b) = none ∧
        (s st b).isObstructed .lift = false ∧ (s st b).bindingOk (o st b) = decide (b = .none) ∧
        ((s st b).seq.orders.map (·.number)).Nodup ∧ (s st b).flow.waiting = [] ∧ (s st b).flow.granted = []) ∧
      ((asking .stopWait (s st b)).active? .lift = some (o st b) ∧
        (asking .stopWait (s st b)).askInterlock (o st b) = some 2) ∧
      ((obstructed (s st b)).active? .lift = some (o st b) ∧ (obstructed (s st b)).askInterlock (o st b) = none ∧
        (obstructed (s st b)).isObstructed .lift = true) := by decide

theorem witness_SkewStopEndsThePhase :
    let s := lifting 615001 600000 650 .moving
    (s.supply.mode = .run ∧ s.active? .lift = some (raising .moving) ∧ (raising .moving).phase? = some raisePhase ∧
      raisePhase.cls = some .liftUp ∧ s.run? .lift = some (runAt 650) ∧ s.profile? .lift = some profRec ∧
      raisePhase.sync = true ∧ profRec.skewStop < s.skew.natAbs ∧ s.faults.entries.length < 16 ∧ s.flow.waiting = []) ∧
      s.faults.sound := by
  exact ⟨by decide, by unfold FaultTable.sound; decide⟩

/-- The raise or the lowering with both cylinders at this speed, LK on its switch or not, 10 ms below its stall time. -/
def stalling (o : Order) (speed : Int) (home : Bool) : State :=
  let s := withOrders [o] (lifting 600000 600000 650 .moving)
  let s := (s.modTracker .lk fun t => { t with speed := speed, home := home }).modTracker .lr fun t => { t with speed := -speed }
  s.setRun .lift (some { runAt 650 with stall := 390 })

theorem witness_SkewStopEndsThePhase_stall :
    (∀ x ∈ [(raising .moving, raisePhase, MoveClass.liftUp, false, [Axis.lk, .lr]),
            (lowering, ⟨.gravity, some .liftDown, 100000, .target, true⟩, .liftDown, true, [.lr])],
      let s := stalling x.1 999 x.2.2.2.1
      s.supply.mode = .run ∧ s.active? .lift = some x.1 ∧ x.1.state = .moving ∧ x.1.phase? = some x.2.1 ∧
        x.2.1.cls = some x.2.2.1 ∧ s.run? .lift = some { runAt 650 with stall := 390 } ∧
        s.profile? x.2.2.1.profile = some profRec ∧ s.skew.natAbs ≤ min profRec.skewWarn profRec.skewStop ∧
        s.askInterlock x.1 = none ∧ s.isObstructed .lift = false ∧ s.arrived x.1 x.2.1 x.2.2.1 = false ∧
        x.1.speed = .normal ∧ x.1.kind ≠ .home ∧
        max profRec.fMin (min profRec.normal ((x.2.1.target - s.reference x.2.2.1).natAbs * profRec.kApp / 1000)) = 700 ∧
        profRec.fMin ≤ min 700 (650 + profRec.ramp) ∧
        (x.2.2.1.axes.filter fun a => !(decide (x.2.2.1 = .liftDown) && (s.tracker a).home)) = x.2.2.2.2 ∧
        (∀ a ∈ x.2.2.2.2, (s.tracker a).speed.natAbs < profRec.stallSpeed) ∧ profRec.stallTime ≤ 390 + 10 ∧
        s.flow.waiting = [] ∧ s.faults.entries.length + 2 ≤ 16) ∧ ∀ o, (stalling o 999 false).faults.sound := by
  exact ⟨by decide, fun _ => sound_rest⟩

/-- R99: at the stall speed the condition does not hold; below it the stall time ends the phase, STALL LATCHED for both. -/
theorem test_stall :
    after (.controlInterval .lift) (stalling (raising .moving) 1000 false) (fun t =>
      (t.run? .lift).map (·.stall) == some 0 && t.faults.entries == []) = true ∧
    after (.controlInterval .lift) (stalling (raising .moving) 999 false) (fun t =>
      t.faults.entries.map (fun e => (e.code, e.subject, e.active)) == [(.stall, .axis .lk, false), (.stall, .axis .lr, false)] &&
        (t.active? .lift).map (fun o => (o.state, o.pendReason)) == some (.settling, some .stall)) = true := by decide

/-- The raise in a state, with control timers about to expire. -/
def timed (st : OrderState) (c : GroupCtl) : State := withCtl .lift c (withOrders [raising st] rest)

theorem oneActive_timed (st : OrderState) (c : GroupCtl) : (timed st c).oneActiveEach := by
  intro g; exact List.length_filter_le _ _

theorem witness_OrderTimersEndOrStopTheOrder :
    let b := timed .blocked { GroupCtl.reset with block := some 0 }
    let h (st : OrderState) := timed st { GroupCtl.reset with hold := some 0 }
    (∀ st c, (timed st c).supply.mode = .run ∧ ((timed st c).seq.orders.map (·.number)).Nodup ∧ (timed st c).oneActiveEach ∧
      (timed st c).run? .lift = none) ∧
    (b.active? .lift = some (raising .blocked) ∧ (b.ctl .lift).block ≠ none ∧ b.oldestQueued? .lift = none) ∧
    ((h .holdWait).active? .lift = some (raising .holdWait) ∧ ((h .holdWait).ctl .lift).hold ≠ none ∧
      (h .holdWait).oldestQueued? .lift = none) ∧
    ((h .paused).active? .lift = some (raising .paused) ∧ ((h .paused).ctl .lift).hold ≠ none ∧
      (h .paused).oldestQueued? .lift = none) ∧
    ((h .moving).active? .lift = some (raising .moving) ∧ (raising .moving).inMovement = true) := by
  refine ⟨fun st c => ⟨rfl, List.nodup_singleton _, oneActive_timed _ _, rfl⟩, by decide, by decide, by decide, by decide⟩

/-- The raise SETTLING with an outcome and a pending end, on phase 0 of these phases. -/
def settled (out : StopOutcome) (res : Option OrderResult) (ps : List Phase) : State :=
  withCtl .lift { GroupCtl.reset with settle := some 0 }
    (withOrders [{ raising .settling with phases := ps, outcome := some out, pendResult := res }] rest)

theorem witness_SettledOrderGoesOn :
    let o (out : StopOutcome) (res : Option OrderResult) (ps : List Phase) : Order :=
      { raising .settling with phases := ps, outcome := some out, pendResult := res }
    (∀ out res ps, (settled out res ps).supply.mode = .run ∧ ((settled out res ps).seq.orders.map (·.number)).Nodup ∧
      (settled out res ps).oneActiveEach ∧ (settled out res ps).active? .lift = some (o out res ps) ∧
      (o out res ps).state = .settling ∧ ((settled out res ps).ctl .lift).settle ≠ none ∧
      (settled out res ps).oldestQueued? .lift = none ∧ (settled out res ps).run? .lift = none ∧
      (settled out res ps).faults.sound) ∧
    ((o .finish (some .cancelled) [raisePhase]).outcome = some .finish ∧
      (o .finish (some .cancelled) [raisePhase]).pendResult = some .cancelled ∧ OrderResult.cancelled ≠ .completed) ∧
    ((o .arrived none [raisePhase]).outcome = some .arrived ∧
      (o .arrived none [raisePhase]).index + 1 = (o .arrived none [raisePhase]).phases.length ∧
      (o .arrived none [raisePhase]).kind = .raiseTo) ∧
    ((o .arrived none [raisePhase, raisePhase]).index + 1 < (o .arrived none [raisePhase, raisePhase]).phases.length ∧
      (o .arrived none [raisePhase, raisePhase]).phases[0 + 1]? = some raisePhase ∧
      claimed 1 (settled .arrived none [raisePhase, raisePhase]).flow.waiting = false ∧
      claimed 1 (settled .arrived none [raisePhase, raisePhase]).flow.granted = false) := by
  refine ⟨fun out res ps => ⟨rfl, List.nodup_singleton _, fun g => List.length_filter_le _ _, rfl, rfl, ?_, rfl, rfl, sound_rest⟩,
    by decide, by decide, by decide⟩
  show (some 0 : Timer) ≠ none
  decide

/-- A HOME settled on its last phase, with a SKEW entry in the Fault Table. -/
def settledHome : State :=
  { withCtl .lift { GroupCtl.reset with settle := some 0 }
      (withOrders [{ raising .settling with kind := .home, outcome := some .arrived }] rest) with
    faults := { FaultTable.reset with entries := [⟨.skew, .group .lift, false, 0, 0, 1⟩], flags := ⟨true, false, false, false⟩ } }

/-- The raise settled toward FAILED, with a raise waiting behind it. -/
def settledBefore : State :=
  withCtl .lift { GroupCtl.reset with settle := some 0 }
    (withOrders [{ raising .settling with outcome := some .finish, pendResult := some .failed, pendReason := some .stall },
      { raising .queued with number := 2 }] rest)

theorem witness_SettledOrderGoesOn_home :
    let o : Order := { raising .settling with kind := .home, outcome := some .arrived }
    (settledHome.supply.mode = .run ∧ settledHome.active? .lift = some o ∧ (settledHome.ctl .lift).settle ≠ none ∧
      settledHome.oldestQueued? .lift = none ∧ settledHome.run? .lift = none ∧ o.index + 1 = o.phases.length ∧
      o.kind = .home ∧ (settledHome.seq.orders.map (·.number)).Nodup) ∧ settledHome.faults.sound ∧ settledHome.oneActiveEach := by
  exact ⟨by decide, by unfold FaultTable.sound; decide, fun _ => List.length_filter_le _ _⟩

theorem witness_SettledOrderGoesOn_next :
    let s := settledBefore
    let o : Order := { raising .settling with outcome := some .finish, pendResult := some .failed, pendReason := some .stall }
    let q : Order := { raising .queued with number := 2 }
    (s.supply.mode = .run ∧ (s.seq.orders.map (·.number)).Nodup ∧ s.active? .lift = some o ∧ (s.ctl .lift).settle ≠ none ∧
      s.run? .lift = none ∧ o.outcome = some .finish ∧ o.pendResult = some .failed ∧ s.drive.prove.overall ≠ .running ∧
      s.oldestQueued? .lift = some q ∧ q.phase? ≠ none ∧ claimed 2 s.flow.waiting = false ∧
      claimed 2 s.flow.granted = false) ∧ s.oneActiveEach := by
  exact ⟨by decide, fun g => by cases g <;> decide⟩

/-- R32, R167: a HOME that completes clears the SKEW entry and the LIFT inhibit. -/
theorem test_home_clears_skew :
    after (.settleTimerExpiry .lift) settledHome (fun t =>
      t.faults.entries == [] && t.faults.flags == Inhibits.none &&
        t.seq.orders.map (fun o => (o.state, o.result)) == [(.ended, some .completed)]) = true := by decide

/-- R14, R15, R32: the next record starts in the event that ends the first, and lodges its claim. -/
theorem test_next_record_starts :
    after (.settleTimerExpiry .lift) settledBefore (fun t =>
      t.seq.orders.map (fun o => (o.number, o.state, o.reason)) == [(1, .ended, some .stall), (2, .claiming, none)]) = true := by decide

theorem witness_LatchCheckFailureIsRecorded :
    let s := withCtl .kerb { GroupCtl.reset with latchCheck := some 0 } (withOrders [checking] rest)
    (s.supply.mode = .run ∧ (s.seq.orders.map (·.number)).Nodup ∧ s.active? .kerb = some checking ∧
      checking.state = .moving ∧ checking.phaseIs .check = true ∧ (s.ctl .kerb).latchCheck ≠ none ∧
      s.oldestQueued? .kerb = none ∧ s.run? .kerb = none ∧ s.faults.entries.length < 16) ∧ s.faults.sound ∧
      s.oneActiveEach := by
  exact ⟨by decide, sound_rest, fun g => List.length_filter_le _ _⟩

/-! ### Witnesses: vehicle status and the power pack -/

theorem witness_StatusExpiryMakesTheRecordStale :
    let s := { rest with vehicle := { Vehicle.reset with fresh := true, timer := some 0 } }
    s.supply.mode = .run ∧ s.vehicle.timer ≠ none ∧ s.faults.sound ∧ s.faults.entries.length < 16 ∧ s.flow.waiting = [] := by
  exact ⟨by decide, by decide, sound_rest, by decide, by decide⟩

/-- The claim of the raise, granted. -/
def granted (ready : Bool) : Claim := ⟨.lift, 1, 70, some 60, some 857, ready⟩

/-- A state of the pump. -/
def pumping (p : PumpState) (prs : Bool) (f : Flow → Flow) (s : State) : State :=
  { s with flow := f { s.flow with pump := p } }.modLine .prs fun x => { x with level := prs }

/-- Section 3.6 at t = 0: the LIFT claim of 70 in a capacity of 60 is granted alone and the pump starts. -/
theorem test_cold_start :
    let s := { rest with flow := { rest.flow with capacity := 60, cold := true, waiting := [⟨.lift, 1, 70, none, none, false⟩] } }
    (tryGrant s).1.flow.granted = [granted false] ∧ (tryGrant s).1.flow.pump = .starting ∧
      (tryGrant s).1.flow.start = some 300 := by decide

/-- A head of this demand before a waiting claim of 30, with K and a granted total. -/
def heading (p : PumpState) (k total demand : Nat) : State :=
  { rest with flow :=
      { rest.flow with
        pump := p, capacity := k
        waiting := [⟨.kerb, 2, demand, none, none, false⟩, ⟨.road, 3, 30, none, none, false⟩]
        granted := if total = 0 then [] else [⟨.lift, 1, total, some total, some 1000, true⟩] } }

theorem witness_GrantsStayWithinCapacity :
    (∀ p k total d, (heading p k total d).faults.flags.pumped = false ∧ (heading p k total d).flow.pump = p ∧
      (heading p k total d).flow.waiting = ⟨.kerb, 2, d, none, none, false⟩ :: [⟨.road, 3, 30, none, none, false⟩]) ∧
    (∀ p ∈ [PumpState.off, .starting, .running, .runOn],
      (30 + grantedTotal (heading p 100 70 30).flow.granted ≤ (heading p 100 70 30).flow.capacity) ∧
      ((heading p 69 0 70).flow.capacity < 70 ∧ grantedTotal (heading p 69 0 70).flow.granted = 0 ∧
        0 < (heading p 69 0 70).flow.capacity) ∧
      ((heading p 100 70 31).flow.capacity < 31 + grantedTotal (heading p 100 70 31).flow.granted ∧
        ¬ (heading p 100 70 31).flow.capacity < 31)) ∧
    ({ rest with faults := { rest.faults with flags := ⟨false, false, false, true⟩ } }).faults.flags.pumped = true := by
  exact ⟨fun _ _ _ _ => ⟨rfl, rfl, rfl⟩, by decide, rfl⟩

theorem witness_PumpTimersMoveThePump :
    let s (prs : Bool) (cs : List Claim) :=
      pumping .starting prs (fun f => { f with start := some 0, granted := cs }) (withOrders [raising .claiming] rest)
    let u := s true [granted false]
    let d := s false [granted false]
    (u.supply.mode = .run ∧ u.flow.pump = .starting ∧ u.flow.start ≠ none ∧ u.level .prs = true ∧ u.flow.granted ≠ [] ∧
      u.order? 1 = some (raising .claiming) ∧ (raising .claiming).cls? ≠ none) ∧
    ((s true []).supply.mode = .run ∧ (s true []).flow.pump = .starting ∧ (s true []).flow.start ≠ none ∧
      (s true []).level .prs = true ∧ (s true []).flow.granted = [] ∧ (s true []).flowField (·.runOn) ≠ 0) ∧
    (d.supply.mode = .run ∧ d.flow.pump = .starting ∧ d.flow.start ≠ none ∧ d.level .prs = false ∧
      d.faults.entries.length < 16 ∧ (d.seq.orders.map (·.number)).Nodup ∧
      ∀ o ∈ d.seq.orders, o.state = .ended ∨ o.state = .claiming ∧ claimed o.number d.flow.granted = true) := by decide

theorem witness_PumpTimersMoveThePump_off :
    let r := pumping .runOn true (fun f => { f with runOn := some 0 }) rest
    let k := pumping .off true (fun f => { f with stuck := some 0 }) rest
    (r.supply.mode = .run ∧ r.flow.pump = .runOn ∧ r.flow.runOn ≠ none) ∧
    (k.supply.mode = .run ∧ k.flow.pump = .off ∧ k.flow.stuck ≠ none ∧ k.faults.entries.length < 16) ∧ k.noActive ∧
      k.faults.sound := by
  exact ⟨by decide, by decide, fun g => by cases g <;> rfl, sound_rest⟩

/-! ### Witnesses: axis trackers -/

/-- An axis of the lift at a position, parked or not, of the state s. -/
def at_ (pos : Int) (parked : Option Int) (s : State) : State :=
  s.modTracker .lk fun t => { t with pos := pos, parked := parked }

theorem witness_PulsesCountExactly :
    (∀ p, (at_ p none rest).supply.mode ≠ .standby ∧ (at_ p none rest).axisRec? .lk = some axisRec ∧
      ((at_ p none rest).tracker .lk).rem < axisRec.den ∧ ((at_ p none rest).tracker .lk).pos = p ∧
      (at_ p none rest).faults.sound) ∧ axisRec.num < axisRec.den ∧
      ((2147483627 * axisRec.den + 0 + 1 * (axisRec.n * axisRec.den + axisRec.num)) / axisRec.den : Int) ≤ 2147483647 ∧
      2147483647 < ((2147483628 * axisRec.den + 0 + 1 * (axisRec.n * axisRec.den + axisRec.num)) / axisRec.den : Int) := by
  refine ⟨fun p => ⟨?_, rfl, ?_, rfl, sound_rest⟩, by decide, by decide, by decide⟩
  · show Supply.run ≠ .standby; decide
  · show 0 < 1; decide

/-- R72, R84: the pulse of 20 µm that reaches 2,147,483,647 is counted, the one from a µm further is not. -/
theorem test_pulse_at_the_edge :
    after (.pulseCounted .lk true) (at_ 2147483627 none (mode .held rest)) (fun t =>
        (t.tracker .lk).pos == 2147483647 && (t.tracker .lk).referenced) = true ∧
      after (.pulseCounted .lk true) (at_ 2147483628 none (mode .held rest)) (fun t =>
        (t.tracker .lk).pos == 2147483628 && !(t.tracker .lk).referenced) = true := by decide

theorem witness_OutwardPulsesAndDriftAreFound :
    let s := at_ 1499981 none (lifting 0 0 650 .moving)
    let q := at_ (-1981) (some 0) rest
    let pos' : Int := (pulseStep axisRec false (q.tracker .lk).pos (q.tracker .lk).rem).1
    (s.supply.mode = .run ∧ s.axisRec? .lk = some axisRec ∧ axisRec.num < axisRec.den ∧
      (s.tracker .lk).rem < axisRec.den ∧ (s.tracker .lk).referenced = true ∧ (s.tracker .lk).parked = none ∧
      axisRec.softUpper < (s.tracker .lk).pos + axisRec.n ∧ -2147483648 ≤ (s.tracker .lk).pos + axisRec.n ∧
      (s.tracker .lk).pos + axisRec.n < 2147483647 ∧ s.active? Axis.lk.group = some (raising .moving) ∧
      (raising .moving).state = .moving ∧ (raising .moving).inMovement = true ∧ s.flow.waiting = []) ∧
    (q.supply.mode ≠ .standby ∧ q.axisRec? .lk = some axisRec ∧ (q.tracker .lk).rem < axisRec.den ∧
      (q.tracker .lk).parked = some 0 ∧ q.faults.entries.length < 16 ∧ pos' ≤ 2147483647 ∧ -2147483648 ≤ pos' ∧
      (axisRec.driftLimit : Int) < |pos' - 0|) := by decide

theorem witness_OutwardPulsesAndDriftAreFound_lower :
    let s (home : Bool) := (at_ (-49981) none (lifting 0 0 650 .moving)).modTracker .lk fun t => { t with home := home }
    let q := at_ 1981 (some 0) rest
    let pos' : Int := (pulseStep axisRec true (q.tracker .lk).pos (q.tracker .lk).rem).1
    (∀ home, (s home).supply.mode = .run ∧ (s home).axisRec? .lk = some axisRec ∧ ((s home).tracker .lk).rem < axisRec.den ∧
      ((s home).tracker .lk).referenced = true ∧ ((s home).tracker .lk).parked = none ∧
      ((s home).tracker .lk).pos - axisRec.n < axisRec.softLower ∧ -2147483648 < ((s home).tracker .lk).pos - axisRec.n ∧
      (s home).active? Axis.lk.group = some (raising .moving) ∧ (s home).flow.waiting = [] ∧
      ((s home).tracker .lk).home = home) ∧
    ((q.tracker .lk).parked = some 0 ∧ q.noActive ∧ pos' ≤ 2147483647 ∧ -2147483648 ≤ pos' ∧
      (axisRec.driftLimit : Int) < |pos' - 0|) := by
  exact ⟨by decide, by decide, noActive_rest, by decide, by decide, by decide⟩

theorem witness_OutwardPulsesAndDriftAreFound_idle : (at_ (-1981) (some 0) rest).noActive ∧ (at_ (-1981) (some 0) rest).faults.sound :=
  ⟨fun g => by cases g <;> rfl, sound_rest⟩

theorem witness_WindowEndPresentsTheAxis :
    rest.supply.mode ≠ .standby ∧ rest.axisRec? .tl = some axisRec := by decide

/-- A home switch of LK about to be taken, from this position. -/
def closing (raw home : Bool) (sense : Sense) (pos : Int) : State :=
  rest.modTracker .lk fun t =>
    { t with pos := pos, rawHome := raw, home := home, sense := sense, homeTimer := some 0 }

theorem witness_HomeSwitchReferencesTheAxis :
    let n := closing true false .towardHome 5000
    let f := closing true false .stationary 5001
    (rest.supply.mode ≠ .standby ∧ (rest.tracker .lk).rawHome ≠ true) ∧
    (n.supply.mode ≠ .standby ∧ (n.tracker .lk).homeTimer ≠ none ∧ (n.tracker .lk).rawHome = true ∧
      (n.tracker .lk).home = false ∧ (n.tracker .lk).sense ≠ .away ∧ n.axisRec? .lk = some axisRec ∧
      |(n.tracker .lk).pos - axisRec.home| ≤ axisRec.homeWindow) ∧
    (((closing true false .away 0).tracker .lk).sense = .away ∧ ((closing false true .away 0).tracker .lk).rawHome = false ∧
      ((closing true false .away 0).tracker .lk).homeTimer ≠ none) ∧
    (f.supply.mode ≠ .standby ∧ (f.tracker .lk).homeTimer ≠ none ∧ (f.tracker .lk).rawHome = true ∧
      (f.tracker .lk).home = false ∧ (f.tracker .lk).sense ≠ .away ∧ f.axisRec? .lk = some axisRec ∧
      (f.tracker .lk).referenced = true ∧ (axisRec.homeWindow : Int) < |(f.tracker .lk).pos - axisRec.home| ∧
      f.faults.entries.length < 16) := by decide

theorem witness_HomeSwitchReferencesTheAxis_idle :
    (closing true false .stationary 5001).noActive ∧ (closing true false .stationary 5001).faults.sound :=
  ⟨fun g => by cases g <;> rfl, sound_rest⟩

/-- Section 4.9.3 at 1,900: LK stands 8,200 µm from home when its switch closes; it snaps to 0, REFERENCE_MISMATCH LATCHED. -/
theorem test_mismatched_snap :
    after (.homeSwitchDebounceExpiry .lk) (closing true false .towardHome 8200) (fun t =>
      (t.tracker .lk).pos == 0 && t.faults.flags.lift && t.faults.entries.map (fun e => (e.code, e.subject, e.active)) ==
        [(.referenceMismatch, .axis .lk, false)]) = true := by decide

/-! ### Witnesses: operator inputs and the emergency stop -/

/-- A line about to be taken. -/
def lineAt (l : Line) (raw level : Bool) (s : State) : State := s.modLine l fun _ => ⟨raw, level, some 0⟩

theorem witness_LinesAreDebounced :
    let b := lineAt (.h 3) true true rest
    let c := lineAt (.g 7) true false rest
    let w := rest.setHand 1 ⟨.half, some 0⟩
    (rest.supply.mode = .run ∧ (rest.line (.g 7)).raw ≠ true) ∧
    (b.supply.mode = .run ∧ (b.line (.h 3)).timer ≠ none ∧ (b.line (.h 3)).raw = (b.line (.h 3)).level) ∧
    (c.supply.mode = .run ∧ (c.line (.g 7)).timer ≠ none ∧ (c.line (.g 7)).raw ≠ (c.line (.g 7)).level) ∧
    (w.supply.mode = .run ∧ (w.hand 1).state = .half ∧ (w.hand 1).window ≠ none) := by decide

theorem witness_LinesAreDebounced_idle : (lineAt (.g 7) true false rest).noActive := by intro g; cases g <;> rfl

/-- G8, which stops LIFT when ACTIVE, about to be taken active in the interval of Section 5.12.1. -/
def tripping (st : OrderState) : State :=
  lineAt (.g 7) true false { lifting 612400 609100 650 st with fitment := { fitted with policy := some policyReq.record } }

theorem witness_LinesAreDebounced_stop :
    ∀ st ∈ [OrderState.moving, .stopping],
      let s := tripping st
      s.supply.mode = .run ∧ (s.line (.g 7)).timer ≠ none ∧ (s.line (.g 7)).raw = true ∧ (s.line (.g 7)).level = !true ∧
        s.fitment.policy = some policyReq.record ∧
        policyReq.record.slots[2 * Group.lift.idx.val]? = some ⟨some 7, true⟩ ∧
        policyReq.record.slots[2 * Group.lift.idx.val + 1]? = some ⟨none, false⟩ ∧ s.isObstructed .lift = false ∧
        s.active? .lift = some (raising st) ∧ s.active? .kerb = none ∧ s.active? .road = none ∧ s.flow.waiting = [] := by decide

theorem witness_LinesAreDebounced_latch :
    let due (level : Bool) (s : State) := ((lineAt (.latchSense .kerb) level (!level) s).line (.latchSense .kerb)).timer ≠ none ∧
      ((lineAt (.latchSense .kerb) level (!level) s).line (.latchSense .kerb)).raw = level ∧
      ((lineAt (.latchSense .kerb) level (!level) s).line (.latchSense .kerb)).level = !level
    let c := lineAt (.latchSense .kerb) true false (only checking)
    (due true rest ∧ due false rest ∧ (lineAt (.latchSense .kerb) true false rest).active? .kerb = none) ∧
    (c.supply.mode = .run ∧ due true (only checking) ∧ c.active? .kerb = some checking ∧ checking.state = .moving ∧
      checking.phaseIs .check = true ∧ checking.kind = .closeShutter ∧ (c.seq.orders.map (·.number)).Nodup ∧
      c.oldestQueued? .kerb = none ∧ c.run? .kerb = none) := by decide

/-- The raise with its claim ready, at this position, with PSW and PRS about to be taken so. -/
def pressed (pos : Int) (p : PumpState) (psw prs : Bool) : State :=
  lineAt .psw psw (!psw) (lineAt .prs prs (!prs)
    (pumping p true (fun f => { f with granted := [granted true] }) (lifting pos pos 650 .moving)))

theorem witness_LinesAreDebounced_pressure :
    let near (s : State) (o : Order) : Bool :=
      decide (o.state = .moving) && (s.flow.granted.any fun q => q.order == o.number && q.ready) &&
        match o.phase? with
        | some ⟨.pumped, some c, target, _, _⟩ => decide (|target - s.reference c| ≤ 20000)
        | _ => false
    (∀ b ∈ [true, false], ∀ p ∈ [PumpState.off, .starting, .running, .runOn],
      (pressed 0 p b b).supply.mode = .run ∧ ((pressed 0 p b b).line .psw).timer ≠ none ∧ ((pressed 0 p b b).line .psw).raw = b ∧
        ((pressed 0 p b b).line .psw).level = !b ∧ ((pressed 0 p b b).line .prs).timer ≠ none ∧
        ((pressed 0 p b b).line .prs).raw = b ∧ ((pressed 0 p b b).line .prs).level = !b ∧ (pressed 0 p b b).flow.pump = p ∧
        ((pressed 0 p b b).seq.orders.map (·.number)).Nodup ∧ (pressed 0 p b b).faults.entries.length < 16 ∧
        ∀ o ∈ (pressed 0 p b b).seq.orders, o.state.isActive = true → o.state = .moving ∧ o.phaseIs .pumped = true) ∧
    (let s := pressed 880000 .running true true
     s.seq.orders.any (near s) = true) ∧
    (let s := pressed 879999 .running true true
     s.seq.orders.any (near s) = false) := by decide

theorem witness_LinesAreDebounced_sound (pos : Int) (p : PumpState) (a b : Bool) :
    (pressed pos p a b).faults.sound ∧ (lineAt (.latchSense .kerb) true false (only checking)).faults.sound ∧
      (lineAt (.latchSense .kerb) true false (only checking)).oneActiveEach :=
  ⟨sound_rest, sound_rest, fun _ => List.length_filter_le _ _⟩

theorem witness_HoldInputsMoveTheTwoHandSet :
    let s (st : TwoHandState) := (lineAt (.h 3) true false rest).setHand (handOf 3) ⟨st, none⟩
    (∀ st, (s st).supply.mode = .run ∧ ((s st).line (.h 3)).timer ≠ none ∧ ((s st).line (.h 3)).raw = true ∧
      ((s st).line (.h 3)).level = false ∧ (∀ o ∈ (s st).seq.orders, o.binding = .none)) ∧
      ((s .released).hand (handOf 3)).state = .released ∧ ((s .half).hand (handOf 3)).state = .half ∧
      ((s .lockout).hand (handOf 3)).state = .lockout := by
  refine ⟨fun st => ?_, by decide, by decide, by decide⟩
  cases st <;> decide

/-- H4 about to be taken so with the raise bound so in a state, its set in this state. -/
def bound (b : Binding) (st : OrderState) (hand : TwoHandState) (raw : Bool) : State :=
  (lineAt (.h 3) raw (!raw) (only { raising st with binding := b })).setHand 1 ⟨hand, none⟩

theorem witness_HoldInputsMoveTheTwoHandSet_bound :
    let o (b : Binding) (st : OrderState) : Order := { raising st with binding := b }
    (∀ raw ∈ [true, false], ∀ st ∈ [OrderState.holdWait, .paused, .claiming, .moving, .blocked],
      ∀ b ∈ [Binding.level 3, .edge 3, .twoHand 1, .level 2, .none],
        let s := bound b st (if raw then .half else .held) raw
        s.supply.mode = .run ∧ (s.line (.h 3)).timer ≠ none ∧ (s.line (.h 3)).raw = raw ∧ (s.line (.h 3)).level = !raw ∧
          s.order? (o b st).number = some (o b st) ∧ (s.seq.orders.map (·.number)).Nodup ∧
          (∀ x ∈ s.seq.orders, x.number ≠ (o b st).number → x.binding = .none) ∧
          (s.hand (handOf 3)).state = (if raw then .half else .held) ∧ s.flow.waiting = [] ∧ s.flow.granted = []) ∧
    ((o (.level 3) .moving).phase? = some raisePhase ∧ raisePhase.kind ≠ .check ∧ (o (.level 3) .moving).inMovement = true) ∧
    (∀ raw ∈ [true, false], ((bound (.twoHand 1) .paused .lockout raw).hand (handOf 3)).state ≠ if raw then .half else .held) := by
  decide

theorem witness_LoopOpeningStopsEverything :
    (working.supply.mode = .run ∧ working.operator.estop = .clear ∧ working.faults.entries.length < 16 ∧ (working.seq.orders.map (·.number)).Nodup) ∧
      working.faults.sound ∧ (∀ e, (stop e rest).supply.mode = .run ∧ (stop e rest).operator.estop = e) ∧
      (mode .standby rest).supply.mode ≠ .run := by
  exact ⟨by decide, sound_working, fun _ => ⟨rfl, rfl⟩, by decide⟩

/-- R34, R119: of the state at work, the opening ends the order ABORTED ESTOP and releases its channels. -/
theorem test_loop_opening :
    after .loopOpening working (fun t =>
      t.seq.orders.map (fun o => (o.state, o.result, o.reason)) == [(.ended, some .aborted, some .estop)] &&
        (t.chan 0).state == .idle && t.flow.pump == .off && t.operator.estop == .active) = true := by decide

theorem witness_StopIsLeftByReleaseAndReset :
    (∀ e, (stop e rest).answers ∧ (stop e rest).operator.estop = e ∧ (stop e rest).faults.sound) ∧
    (let s := { rest with operator := { rest.operator with estop := .held, release := some 0 } }
     s.supply.mode = .run ∧ s.operator.estop = .held ∧ s.operator.release ≠ none) := by
  exact ⟨fun _ => ⟨⟨rfl, rfl⟩, rfl, sound_rest⟩, by decide⟩

/-! ### Witnesses: drive -/

theorem witness_ValveMapOpensBetweenItsEnds :
    (ChannelRec.mk 250 999 1000 250 60 100 3000).lo < (ChannelRec.mk 250 999 1000 250 60 100 3000).hi ∧
      (ChannelRec.mk 250 999 1000 250 60 100 3000).hi ≤ 1000 ∧ 1000 ≤ 1000 ∧ (1 : Nat) ≠ 0 := by decide

/-- A channel in a state. -/
def chanIn (c : Channel) (st : ChanState) (s : State) : State := s.modChan c fun _ => ⟨st, 116, 232, some 0, 0, none, none⟩

theorem witness_PeriodsAndDeadTimes :
    let w := rest.modPair 2 fun _ => ⟨some 0, none, some (.odd, 244)⟩
    (((chanIn 5 .running rest).supply.mode = .run ∧ (chanIn 5 .ending rest).supply.mode = .run ∧
      (5 : Channel).val = (5 : PropChannel).val ∧ (2 : PairNo).val = (5 : PropChannel).val / 2) ∧
      rest.chanRec? 5 = some chanRec ∧
      rest.chanRec? (memberChannel 2 .even) = some chanRec ∧ ((chanIn 5 .running rest).chan 5).state = .running ∧
      ((chanIn 5 .ending rest).chan 5).state = .ending) ∧
    (w.supply.mode ≠ .standby ∧ (w.pair 2).dead ≠ none ∧ (w.pair 2).waiting = some (.odd, 244) ∧
      (w.chan (memberChannel 2 .odd)).state = .idle ∧ (w.chan (memberChannel 2 (otherMember .odd))).state = .idle ∧
      w.chanRec? (memberChannel 2 .odd) = some chanRec) ∧
    (twisted.supply.mode ≠ .standby ∧ (twisted.pair 2).dead ≠ none ∧ (twisted.pair 2).waiting = none) := by decide

theorem witness_PeriodsAndDeadTimes_commands :
    rest.chanRec? (memberChannel 2 .odd) = some chanRec ∧ rest.supply.mode = .run ∧ rest.operator.estop = .clear ∧
      (stop .held rest).chanRec? (memberChannel 2 .odd) = some chanRec ∧ (stop .held rest).operator.estop ≠ .clear := by decide

/-- Table 6-9 at 4,062: the waiting TL-IN starts with 244 and an on time of 1,220 µs at a period of 5,000 µs. -/
theorem test_dead_time_starts_the_waiting_member :
    after (.deadTimeExpiry 2)
      { rest.modPair 2 fun _ => ⟨some 0, none, some (.odd, 244)⟩ with
        fitment := { fitted with channels := Vector.replicate 12 (some ⟨5000, 100, 900, 250, 60, 100, 3000⟩) } } (fun t =>
      (t.chan 5).state == .running && (t.chan 5).opening == 244 && (t.chan 5).onTime == 1220 && (t.chan 4).state == .idle &&
        (t.pair 2) == Pair.reset) = true := by decide

/-- The kerb latch in a pulse for order 1. -/
def pulsing (os : List Order) : State :=
  (withOrders os rest).modChan Side.kerb.latch fun _ => ⟨.running, 1000, 0, none, 0, some 0, some 1⟩

theorem witness_PulseEndAdvancesTheOrder :
    (∀ os, (pulsing os).supply.mode = .run ∧ ((pulsing os).chan Side.kerb.latch).state = .running ∧
      ((pulsing os).chan Side.kerb.latch).pulse = some 0 ∧ ((pulsing os).chan Side.kerb.latch).requester = some 1) ∧
    (pulsing []).order? 1 = none ∧
    ((pulsing [unlatching]).order? 1 = some unlatching ∧ unlatching.group = Side.kerb.group ∧
      unlatching.kind = .openShutter ∧ unlatching.state = .moving ∧
      unlatching.phaseIs .pulse = true ∧ (unlatching.phases[unlatching.index + 1]?).map (·.kind) = some .pumped ∧
      (pulsing [unlatching]).oldestQueued? Side.kerb.group = none ∧
      ((pulsing [unlatching]).seq.orders.map (·.number)).Nodup) := by
  refine ⟨fun os => ⟨rfl, rfl, rfl, rfl⟩, by decide, by decide⟩

/-- Channel 9 RUNNING with this on time and low count. -/
def measured (on low : Nat) : State := rest.modChan 9 fun _ => ⟨.running, 536, on, none, low, none, none⟩

/-- The raise with its channels on and a measurement of LK-UP about to be judged. -/
def raisingOn (low on : Nat) : State := (running 2 raise1).modChan 0 fun _ => ⟨.running, 536, on, none, low, none, none⟩

theorem witness_CoilFaultsAreFound :
    ((measured 100 2).supply.mode = .run ∧ (9 : Channel).val = (9 : PropChannel).val ∧ (measured 100 2).chanRec? 9 = some chanRec ∧
      ((measured 100 2).chan 9).state ≠ .idle ∧ 100 ≤ ((measured 100 2).chan 9).onTime ∧ chanRec.openThr ≤ 100 ∧
      99 < chanRec.openThr ∧ ((measured 100 1).chan 9).low + 1 < 3 ∧ 2 ≤ ((measured 100 2).chan 9).low ∧
      ((measured 99 0).chan 9).onTime < 100) ∧
    ((measured 100 2).drive.prove.driving ≠ some 9 ∧ (measured 100 2).faults.entries.length < 16 ∧
      0 < ((measured 100 2).chan 9).onTime ∧ (measured 0 2).outputOn 9 = false ∧ ((measured 0 2).chan 9).state = .running ∧
      rest.outputOn 11 = false ∧ (rest.chan Side.kerb.latch).state ≠ .running) := by decide

theorem witness_CoilFaultsAreFound_phase :
    (let s := raisingOn 2 100
     s.supply.mode = .run ∧ s.chanRec? 0 = some chanRec ∧ (s.chan 0).state ≠ .idle ∧ 100 ≤ (s.chan 0).onTime ∧
       2 ≤ (s.chan 0).low ∧ s.faults.entries.length < 16 ∧ s.active? (channelGroup 0) = some (raising .moving) ∧
       (0 : Channel) ∈ (raising .moving).drives ∧ s.flow.waiting = [] ∧ s.drive.prove.driving ≠ some 0) ∧
    (let s := pulsing [unlatching]
     s.supply.mode = .run ∧ (s.chan Side.kerb.latch).state = .running ∧ s.chanRec? Side.kerb.latch = some chanRec ∧
       chanRec.openThr ≤ 100 ∧ 99 < chanRec.openThr ∧ s.faults.entries.length < 16 ∧ s.active? Side.kerb.group = some unlatching ∧
       unlatching.state = .moving ∧ unlatching.phaseIs .pulse = true ∧ s.flow.waiting = [] ∧
       channelGroup Side.kerb.latch = Side.kerb.group ∧ Side.kerb.latch ∈ unlatching.drives ∧ 10 ≤ Side.kerb.latch.val) := by decide

theorem witness_CoilFaultsAreFound_sound :
    (measured 100 2).noActive ∧ (measured 100 2).faults.sound ∧ (raisingOn 2 100).faults.sound ∧
      (pulsing [unlatching]).faults.sound :=
  ⟨fun g => by cases g <;> rfl, sound_rest, sound_rest, sound_rest⟩

/-- R111, R124: a short on a RUNNING channel with on time 0 changes nothing. -/
theorem test_short_on_an_output_that_is_off :
    after (.coilShortDetected 9) (measured 0 0) (fun t => (t.chan 9).state == .running && t.faults.entries == []) = true := by decide

/-- R123, R125: a latch pulse found open ends the OPEN's phase, FAILED COIL, and the entry is LATCHED at once. -/
theorem test_latch_check_low :
    after (.latchCoilCheck .kerb 99) (pulsing [unlatching]) (fun t =>
      t.seq.orders.map (fun o => (o.state, o.pendResult, o.pendReason)) == [(.settling, some .failed, some .coil)] &&
        t.faults.entries.map (fun e => (e.code, e.subject, e.active)) == [(.coilOpen, .channel Side.kerb.latch, false)] &&
        (t.chan Side.kerb.latch).state == .idle) = true := by decide

/-- A proving test before the drive of channel n, or with it under its drive. -/
def proving (n : Nat) (d : Option Channel) : State :=
  rest.modProve fun x => { x with overall := .running, next := n, driving := d, drive := d.map fun _ => 0 }

theorem witness_ProvingVisitsTheChannels :
    ((proving 7 none).supply.mode = .run ∧ (proving 7 none).drive.prove.overall = .running ∧
      (proving 7 none).drive.prove.driving = none ∧
      (proving 7 none).nextVisit (proving 7 none).drive.prove.next = some 7 ∧
      (∀ p, channelPair 7 = some p → ((proving 7 none).pair p).dead = none)) ∧
    ((proving 7 (some 7)).supply.mode = .run ∧ (proving 7 (some 7)).drive.prove.driving = some 7 ∧ (proving 7 (some 7)).chanRec? 7 = some chanRec ∧
      ((proving 7 (some 7)).nextVisit ((7 : Channel).val + 1)).isSome ∧
      (∀ p, channelPair 7 = some p → ((proving 7 (some 7)).chanRec? (memberChannel p .even)).isSome) ∧
      99 < chanRec.openThr ∧ chanRec.openThr ≤ 100) := by decide

theorem witness_ProvingVisitsTheChannels_waits :
    let gap (n : Nat) := (proving 7 none).modProve fun x => { x with gap := some n }
    let d := (proving 7 none).modPair 3 fun _ => ⟨some 1, none, none⟩
    (∀ s ∈ [gap 0, gap 1, d], s.supply.mode = .run ∧ s.drive.prove.overall = .running ∧ s.drive.prove.driving = none ∧
      s.nextVisit s.drive.prove.next = some 7) ∧
      (gap 0).drive.prove.gap = some 0 ∧ (gap 1).drive.prove.gap = some (0 + 1) ∧ channelPair 7 = some 3 ∧
      (d.pair 3).dead ≠ none := by decide

/-- The last drive of the test of Table 6-10, with this result of channel 7 and these records. -/
def lastDrive (seven : ChanResult) (os : List Order) : State :=
  (withOrders os (proving 11 (some 11))).modProve fun x => { x with results := (Vector.replicate 12 .pass).set 7 seven }

theorem witness_ProvingVisitsTheChannels_end :
    (∀ seven os, (lastDrive seven os).supply.mode = .run ∧ (lastDrive seven os).drive.prove.driving = some 11 ∧
      (lastDrive seven os).chanRec? 11 = some chanRec ∧ (lastDrive seven os).nextVisit ((11 : Channel).val + 1) = none ∧
      (lastDrive seven os).faults.sound ∧ (lastDrive seven os).faults.entries.length < 16) ∧
    ((lastDrive .open_ [raising .queued]).noActive ∧ ((lastDrive .open_ [raising .queued]).seq.orders.map (·.number)).Nodup ∧
      (∀ x ∈ (lastDrive .open_ [raising .queued]).seq.orders, x.state = .queued ↔ x = raising .queued) ∧
      (lastDrive .open_ [raising .queued]).order? 1 = some (raising .queued) ∧ (raising .queued).phase? ≠ none ∧
      claimed 1 (lastDrive .open_ [raising .queued]).flow.waiting = false ∧
      claimed 1 (lastDrive .open_ [raising .queued]).flow.granted = false) ∧
    (∀ ch : Channel, ((lastDrive .pass []).drive.prove.results.set (11 : Channel) .pass)[ch] = .pass) ∧
    ((lastDrive .open_ []).drive.prove.results.set (11 : Channel) .pass)[(7 : Channel)] = .open_ ∧
    (lastDrive .pass []).noActive := by
  exact ⟨fun _ _ => ⟨rfl, rfl, rfl, rfl, sound_rest, Nat.succ_pos 15⟩, ⟨fun g => by cases g <;> rfl, by decide, by decide, rfl, by decide,
    rfl, rfl⟩, by decide, by decide, fun g => by cases g <;> rfl⟩

/-- Table 6-10, at 520: the test ends FAILED with failure count 1, PROVING_FAILED is ACTIVE, and the waiting order starts. -/
theorem test_proving_ends :
    after (.provingDriveEnd 100) (lastDrive .open_ [raising .queued]) (fun t =>
      t.drive.prove.overall == .failed && t.drive.prove.failures == 1 && t.drive.prove.endedAt == some 1000 &&
        t.faults.entries.map (fun e => (e.code, e.active)) == [(.provingFailed, true)] &&
        t.seq.orders.map (·.state) == [.claiming]) = true ∧
    after (.provingDriveEnd 100) (lastDrive .pass []) (fun t =>
      t.drive.prove.overall == .passed && t.drive.prove.failures == 0 && t.faults.entries == []) = true := by decide

/-- Table 6-10, at 400: channel 7 is found OPEN, and no entry is made. -/
theorem test_proving_drive_finds_open :
    after (.provingDriveEnd 0) (proving 7 (some 7)) (fun t =>
      t.drive.prove.results[7] == .open_ && t.drive.prove.next == 8 && (t.pair 3).dead == some 60 &&
        t.faults.entries == []) = true := by decide

/-! ### Witnesses: beacons -/

/-- Patterns 2 and 3 of Section 8.10. -/
def steps2 : List PatStep := [⟨true, 25⟩, ⟨true, 25⟩, ⟨false, 10⟩]

/-- REAR playing pattern 2 at a step, with a repeat count and a pending selection. -/
def playing (step repeats : Nat) (pend : Option Selection) : State :=
  { rest with fitment := { fitted with patterns := fitted.patterns.set 1 (some ⟨0, steps2⟩) } }.setPlayer .rear
    ⟨⟨2, false, .scene 2⟩, steps2, repeats, .playing, step, 1, some 0, pend⟩

theorem witness_StepTimerPlaysThePattern :
    (∀ st n x, (playing st n x).supply.mode = .run ∧ ((playing st n x).player .rear).cond = .playing ∧
      ((playing st n x).player .rear).timer ≠ none) ∧
    ((playing 0 0 (some ⟨3, false, .scene 3⟩)).player .rear).pending = some ⟨3, false, .scene 3⟩ ∧
    (((playing 1 0 none).player .rear).pending = none ∧
      ((playing 1 0 none).player .rear).step + 1 < ((playing 1 0 none).player .rear).steps.length) ∧
    (((playing 2 2 none).player .rear).steps.length ≤ ((playing 2 2 none).player .rear).step + 1 ∧
      ((playing 2 2 none).player .rear).cycle < ((playing 2 2 none).player .rear).repeats ∧
      (playing 2 2 none).pattern? ((playing 2 2 none).player .rear).sel.pattern = some ⟨0, steps2⟩) ∧
    (((playing 2 1 none).player .rear).repeats ≠ 0 ∧
      ((playing 2 1 none).player .rear).repeats ≤ ((playing 2 1 none).player .rear).cycle) := by
  refine ⟨fun st n x => ⟨rfl, rfl, ?_⟩, by decide, by decide, by decide, by decide⟩
  show (some 0 : Timer) ≠ none
  decide

/-- Table 8-9, at 250 and at 500 with nothing pending: step 1 after step 0, and the dark step lights nothing. -/
theorem test_pattern_steps :
    after (.stepTimerExpiry .rear) (playing 0 0 none) (fun t =>
        (t.player .rear).step == 1 && (t.player .rear).timer == some 250) = true ∧
      after (.stepTimerExpiry .rear) (playing 1 0 none) (fun t =>
        (t.player .rear).step == 2 && !t.lampDriven (.a .rear) && !t.lampDriven (.b .rear)) = true := by decide

theorem witness_LampCurrentsAreJudged :
    (playing 0 0 none).supply.mode = .run ∧ (playing 0 0 none).lampDriven (.b .rear) = true ∧
      (playing 0 0 none).lampIsDiscrete (.b .rear) = false ∧ 50 ≤ 50 ∧ 49 < 50 ∧
      (playing 0 0 none).faults.entries.length < 16 ∧
      (discrete.setLatch .rear true).lampDriven (.b .rear) = true ∧ (discrete.setLatch .rear true).supply.mode = .run := by
  decide

theorem witness_LampCurrentsAreJudged_sound :
    (playing 0 0 none).faults.sound ∧ (discrete.setLatch .rear true).faults.sound := ⟨sound_rest, sound_rest⟩

end Sys2Proof.Tests
end

section
/-! O26, the refusals of a SUBMIT (R11): first what each failing check makes of submitRefusal?, each under the passing of the
checks before its own, then the reply that a refusal leaves. -/

namespace Sys2Proof.Machine

/-! ### The checks of R11 in their order -/

section Checks

variable {s : State} {g : Group} {k : OrderKind} {b : Binding}

theorem submitRefusal?_notLocked (hopen : s.fitment.locked = false) : s.submitRefusal? g k b = some .notLocked := by
  simp [State.submitRefusal?, hopen]

variable (hlocked : s.fitment.locked = true)
include hlocked

theorem submitRefusal?_notFitted (habsent : s.fitted g = false) : s.submitRefusal? g k b = some .notFitted := by
  simp [State.submitRefusal?, hlocked, habsent]

variable (hfitted : s.fitted g = true)
include hfitted

theorem submitRefusal?_stopped (hstop : s.operator.estop ≠ .clear) : s.submitRefusal? g k b = some .stopped := by
  simp [State.submitRefusal?, hlocked, hfitted, hstop]

variable (hclear : s.operator.estop = .clear)
include hclear

theorem submitRefusal?_resetting (hreset : s.faults.resetting[g.idx] ≠ none) :
    s.submitRefusal? g k b = some .resetting := by
  obtain ⟨remaining, hremaining⟩ := Option.ne_none_iff_exists'.mp hreset
  simp [State.submitRefusal?, hlocked, hfitted, hclear, hremaining]

variable (hsteady : s.faults.resetting[g.idx] = none)
include hsteady

theorem submitRefusal?_inhibited (hinhibited : s.faults.flags.group g = true ∧ s.faults.admits g k = false) :
    s.submitRefusal? g k b = some .inhibited := by
  simp [State.submitRefusal?, hlocked, hfitted, hclear, hsteady, hinhibited]

variable (hadmitted : ¬ (s.faults.flags.group g = true ∧ s.faults.admits g k = false))
include hadmitted

theorem submitRefusal?_notReferenced (hlost : ∃ a ∈ neededAxes g k, (s.tracker a).referenced = false) :
    s.submitRefusal? g k b = some .notReferenced := by
  simp [State.submitRefusal?, hlocked, hfitted, hclear, hsteady, hadmitted, hlost]

variable (hreferenced : ¬ ∃ a ∈ neededAxes g k, (s.tracker a).referenced = false)
include hreferenced

theorem submitRefusal?_holdRequired (hweak : b.kind.rank < (s.minBinding k).rank) :
    s.submitRefusal? g k b = some .holdRequired := by
  simp [State.submitRefusal?, hlocked, hfitted, hclear, hsteady, hadmitted, hreferenced, hweak]

theorem submitRefusal?_tableFull (hbound : (s.minBinding k).rank ≤ b.kind.rank) (hfull : s.tableFull = true) :
    s.submitRefusal? g k b = some .tableFull := by
  simp [State.submitRefusal?, hlocked, hfitted, hclear, hsteady, hadmitted, hreferenced, hbound.not_gt, hfull]

end Checks

/-- R7: the table is full when each of its eight slots holds a record and none of them is ENDED. -/
theorem State.tableFull_iff (s : State) :
    s.tableFull = true ↔ 8 ≤ s.seq.orders.length ∧ ∀ o ∈ s.seq.orders, o.state ≠ .ended := by
  simp only [State.tableFull, Bool.and_eq_true, decide_eq_true_eq, List.all_eq_true]
  rfl

/-! ### The reply -/

/-- R11: a SUBMIT whose fields pass answers the reason of its first failing check and keeps the state. -/
theorem exec_submit_refused {tag : Byte} {r : SubmitReq} {k : OrderKind} {b : Binding} {s : State} {w : Why}
    (hanswers : s.answers) (hfields : firstBad r.checks = none) (hkind : r.kind? = some k)
    (hbinding : r.binding? = some b) (hrefusal : s.submitRefusal? r.group k b = some w) :
    ∃ t, exec (.submit tag r) s = .next t ∧
      t.quiet = (s.refusedReply 0x10 tag (BitVec.ofNat 8 w.code) 0 0 0).quiet := by
  have hrequest : submitRequest r s = (s, .refused w 0 0 0) := by
    simp [submitRequest, hfields, hkind, hbinding, hrefusal, Reply.no]
  exact request_refused .submit tag (submitRequest r) hanswers hrequest

/-- Settles O26, along the chain of the eight checks: each clause is the refusal of its check, answered. -/
theorem submitIsRefusedByTheFirstCheck : Obligations.SubmitIsRefusedByTheFirstCheck := by
  intro tag r k b s hanswers hfields hkind hbinding refused inhibited needed unreferenced
  have refuse {w : Why} (h : s.submitRefusal? r.group k b = some w) : refused (BitVec.ofNat 8 w.code) :=
    exec_submit_refused hanswers hfields hkind hbinding h
  have hneeded : needed = neededAxes r.group k := by cases k <;> rfl
  have hunreferenced : unreferenced ↔ ∃ a ∈ neededAxes r.group k, (s.tracker a).referenced = false := by
    rw [← hneeded]
  refine ⟨fun hopen => refuse (submitRefusal?_notLocked hopen), fun hlocked => ?_⟩
  refine ⟨fun habsent => refuse (submitRefusal?_notFitted hlocked habsent), fun hfitted => ?_⟩
  refine ⟨fun hstop => refuse (submitRefusal?_stopped hlocked hfitted hstop), fun hclear => ?_⟩
  refine ⟨fun hreset => refuse (submitRefusal?_resetting hlocked hfitted hclear hreset), fun hsteady => ?_⟩
  refine ⟨fun hinhibited => refuse (submitRefusal?_inhibited hlocked hfitted hclear hsteady hinhibited),
    fun hadmitted => ?_⟩
  refine ⟨fun hlost => refuse (submitRefusal?_notReferenced hlocked hfitted hclear hsteady hadmitted
    (hunreferenced.mp hlost)), fun hreferenced => ?_⟩
  have hknown := mt hunreferenced.mpr hreferenced
  exact ⟨fun hweak => refuse (submitRefusal?_holdRequired hlocked hfitted hclear hsteady hadmitted hknown hweak),
    fun hbound hslots hlive => refuse (submitRefusal?_tableFull hlocked hfitted hclear hsteady hadmitted hknown hbound
      (s.tableFull_iff.mpr ⟨hslots, hlive⟩))⟩

end Sys2Proof.Machine
end

section
/-! O31, the acceptance of a VEHICLE (R37, R38, R40): its fields as they are checked, recorded and answered, then what it makes of
the capacity in force and of the rest of the state. -/

namespace Sys2Proof.Machine

/-! ### The fields of a VEHICLE -/

/-- R38: clamping takes the nearer end of the range for a number outside it. -/
theorem clampTo_eq {lo hi : Int} (hrange : lo ≤ hi) (x : Int) :
    clampTo lo hi x = if x < lo then lo else if hi < x then hi else x := by
  unfold clampTo
  split_ifs <;> omega

/-- R37: a number is reported clamped when it lies outside its range. -/
theorem clampField_flag {lo hi : Int} (hrange : lo ≤ hi) (x : Int) :
    (clampField lo hi x).2 = decide (x < lo ∨ hi < x) := by
  simp only [clampField, clampTo_eq hrange, decide_eq_decide]
  split_ifs <;> omega

/-- R37: the codes of the brake, 0 to 2. -/
theorem coded_brake {b : Byte} (hcode : b.toNat ≤ 2) :
    coded Brake.all b = some (if b = 0 then .applied else if b = 1 then .released else .unknown) := by
  obtain rfl | rfl | rfl : b = 0 ∨ b = 1 ∨ b = 2 := by bv_omega
  all_goals rfl

/-- R37: brake and night within their codes are all that the fields of a VEHICLE are checked for. -/
theorem VehicleReq.firstBad_checks {r : VehicleReq} (hbrake : r.brake.toNat ≤ 2) (hnight : r.night.toNat ≤ 1) :
    firstBad r.checks = none := by
  have hflag : isFlag r.night = true := by simpa [isFlag] using Nat.lt_succ_of_le hnight
  simp [VehicleReq.checks, firstBad, coded_brake hbrake, hflag]

/-- R37, R38: the record of an accepted VEHICLE, its clamps written out. -/
theorem Vehicle.accept_eq {r : VehicleReq} (hbrake : r.brake.toNat ≤ 2) (timeout : Nat) (now : U32) :
    Vehicle.accept r timeout now =
      { brake := if r.brake = 0 then .applied else if r.brake = 1 then .released else .unknown
        speed := if 2500 < r.speed.toNat then 2500 else r.speed.toNat
        oil := if r.oil.toInt < -40 then -40 else if 150 < r.oil.toInt then 150 else r.oil.toInt
        pitch := if r.pitch.toInt < -300 then -300 else if 300 < r.pitch.toInt then 300 else r.pitch.toInt
        roll := if r.roll.toInt < -300 then -300 else if 300 < r.roll.toInt then 300 else r.roll.toInt
        night := r.night == 1
        fresh := true
        acceptedAt := some now
        timer := some timeout } := by
  have hspeed : min 2500 r.speed.toNat = if 2500 < r.speed.toNat then 2500 else r.speed.toNat := by
    split_ifs <;> omega
  simp [Vehicle.accept, flagOf, coded_brake hbrake, hspeed, clampTo_eq]

/-- R37: the payload that answers an accepted VEHICLE, its clamp flags written out. -/
theorem vehicleReply_eq (r : VehicleReq) (wasFresh : Bool) :
    vehicleReply r wasFresh =
      bFlag (!wasFresh) ++ bFlag (decide (2500 < r.speed.toNat)) ++
        bFlag (decide (r.oil.toInt < -40 ∨ 150 < r.oil.toInt)) ++
        bFlag (decide (r.pitch.toInt < -300 ∨ 300 < r.pitch.toInt)) ++
        bFlag (decide (r.roll.toInt < -300 ∨ 300 < r.roll.toInt)) := by
  simp only [vehicleReply, clampField_flag (show (-40 : Int) ≤ 150 by decide),
    clampField_flag (show (-300 : Int) ≤ 300 by decide)]

/-! ### The capacity in force -/

/-- R56: with nothing waiting, granting changes nothing. -/
theorem grantNow_of_waiting_nil {s : State} (hnone : s.flow.waiting = []) : grantNow s = s := by
  have htry : tryGrant s = (s, []) := by
    unfold tryGrant
    split
    · rfl
    · rw [hnone]
      simp only [grantFrom, List.isEmpty_nil, if_true]
      rw [← hnone]
  simp [grantNow, htry, reportReady]

/-- R57: a change of the capacity in force reaches the orders of waiting claims alone: no reply, no fault and no part of
the plant goes by it. -/
@[simp] theorem capacityEvent_plant (s : State) :
    (capacityEvent s).link = s.link ∧ (capacityEvent s).trackers = s.trackers ∧ (capacityEvent s).drive = s.drive ∧
      (capacityEvent s).faults = s.faults := by
  unfold capacityEvent
  dsimp only
  split <;> simp

/-- R57: with nothing waiting, a new capacity in force is all that comes of it. -/
theorem capacityEvent_of_waiting_nil {s : State} (hnone : s.flow.waiting = []) :
    capacityEvent s = recomputeCapacity s := by
  unfold capacityEvent
  dsimp only
  split
  · rfl
  · exact grantNow_of_waiting_nil hnone

/-- R54: the capacity in force under a FRESH vehicle status goes by the oil temperature. -/
theorem State.capacityNow_of_fresh {s : State} {f : FlowRec} (hlocked : s.fitment.locked = true)
    (hflow : s.fitment.flow = some f) (hfresh : s.vehicle.fresh = true) :
    s.capacityNow.1 = if f.threshold ≤ s.vehicle.oil then f.capacity else f.cold := by
  simp only [State.capacityNow, hlocked, hflow, hfresh, if_true, true_and]
  split <;> rfl

/-! ### The acceptance -/

/-- R37, R40: the state in which an accepted VEHICLE has the capacity worked out: the status is recorded, and after a STALE
status STATUS_STALE has ended. -/
def State.vehicleRecorded (s : State) (r : VehicleReq) : State :=
  if s.vehicle.fresh then { s with vehicle := Vehicle.accept r (s.timing (·.status)) s.supply.time }
  else Machine.latch .statusStale .none { s with vehicle := Vehicle.accept r (s.timing (·.status)) s.supply.time }

theorem acceptVehicle_eq (r : VehicleReq) (s : State) : acceptVehicle r s = capacityEvent (s.vehicleRecorded r) := rfl

@[simp] theorem State.vehicleRecorded_frame (r : VehicleReq) (s : State) :
    (s.vehicleRecorded r).link = s.link ∧ (s.vehicleRecorded r).seq = s.seq ∧ (s.vehicleRecorded r).runs = s.runs ∧
      (s.vehicleRecorded r).flow = s.flow ∧ (s.vehicleRecorded r).fitment = s.fitment ∧
      (s.vehicleRecorded r).trackers = s.trackers ∧ (s.vehicleRecorded r).drive = s.drive := by
  unfold State.vehicleRecorded
  split <;> simp

@[simp] theorem State.vehicleRecorded_vehicle (r : VehicleReq) (s : State) :
    (s.vehicleRecorded r).vehicle = Vehicle.accept r (s.timing (·.status)) s.supply.time := by
  unfold State.vehicleRecorded
  split <;> simp

/-- R40: a VEHICLE that finds the status FRESH leaves the Fault Table as it is. -/
theorem acceptVehicle_faults {s : State} (hfresh : s.vehicle.fresh = true) (r : VehicleReq) :
    (acceptVehicle r s).faults = s.faults := by
  simp [acceptVehicle_eq, State.vehicleRecorded, hfresh]

/-- R37: whatever claims wait, an accepted VEHICLE records the status and leaves the link and the plant as they are. -/
@[simp] theorem acceptVehicle_plant (r : VehicleReq) (s : State) :
    (acceptVehicle r s).vehicle = Vehicle.accept r (s.timing (·.status)) s.supply.time ∧
      (acceptVehicle r s).link = s.link ∧ (acceptVehicle r s).trackers = s.trackers ∧
      (acceptVehicle r s).drive = s.drive := by
  simp [acceptVehicle_eq]

/-- R54, R57: with nothing waiting, an accepted VEHICLE touches no order and no grant, and the capacity in force is the one
of the oil temperature now recorded. -/
theorem acceptVehicle_of_waiting_nil {r : VehicleReq} {s : State} (hnone : s.flow.waiting = []) :
    (acceptVehicle r s).records = s.records ∧ (acceptVehicle r s).runs = s.runs ∧
      (acceptVehicle r s).flow.granted = s.flow.granted ∧ (acceptVehicle r s).flow.pump = s.flow.pump ∧
      (acceptVehicle r s).flow.capacity = (s.vehicleRecorded r).capacityNow.1 := by
  have hcapacity : acceptVehicle r s = recomputeCapacity (s.vehicleRecorded r) := by
    rw [acceptVehicle_eq, capacityEvent_of_waiting_nil (by simpa using hnone)]
  rw [hcapacity]
  simp [recomputeCapacity, State.modFlow, State.records]

/-! ### The reply -/

/-- R185: a DONE changes nothing but the link. -/
@[simp] theorem State.doneReply_frame (kind tag : Byte) (payload : List Byte) (s : State) :
    (s.doneReply kind tag payload).supply = s.supply ∧ (s.doneReply kind tag payload).fitment = s.fitment ∧
      (s.doneReply kind tag payload).records = s.records ∧ (s.doneReply kind tag payload).vehicle = s.vehicle ∧
      (s.doneReply kind tag payload).flow = s.flow ∧ (s.doneReply kind tag payload).trackers = s.trackers ∧
      (s.doneReply kind tag payload).runs = s.runs ∧ (s.doneReply kind tag payload).drive = s.drive ∧
      (s.doneReply kind tag payload).operator = s.operator ∧ (s.doneReply kind tag payload).faults = s.faults := by
  simp [← queueReply_done, State.records]

/-- R185: which replies are outgoing after a DONE depends on the link alone. -/
theorem State.doneReply_outgoing {s t : State} (hlink : t.link = s.link) (kind tag : Byte) (payload : List Byte) :
    (t.doneReply kind tag payload).link.outgoing = (s.doneReply kind tag payload).link.outgoing := by
  simp [State.doneReply, State.withReply, hlink]

/-- R37: an accepted VEHICLE and its answer. -/
theorem exec_vehicle_accepted {tag : Byte} {r : VehicleReq} {s : State} (hanswers : s.answers)
    (hlocked : s.fitment.locked = true) (hfields : firstBad r.checks = none) :
    ∃ t, exec (.vehicle tag r) s = .next t ∧
      t.quiet = ((acceptVehicle r s).doneReply 0x20 tag (vehicleReply r s.vehicle.fresh)).quiet := by
  have hrequest : vehicleRequest r s = (acceptVehicle r s, .done (vehicleReply r s.vehicle.fresh)) := by
    simp [vehicleRequest, hlocked, hfields]
  exact request_done .vehicle tag (vehicleRequest r) hanswers hrequest

/-- Settles O31: the fields go by what is recorded and answered; what stays goes by the effect on the plant and, with
nothing waiting, on the orders and the grants. -/
theorem vehicleFieldsAreClamped : Obligations.VehicleFieldsAreClamped := by
  intro tag r s hanswers hlocked hbrake hnight
  obtain ⟨t, hexec, hquiet⟩ :=
    exec_vehicle_accepted (tag := tag) hanswers hlocked (VehicleReq.firstBad_checks hbrake hnight)
  obtain ⟨-, hsupply, hfitment, hvehicle, hflow, htrackers, hruns, hdrive, hoperator, -, hfaults, -⟩ :=
    State.quiet_blocks hquiet
  obtain ⟨hrecords, -, -⟩ := State.quiet_seq hquiet
  obtain ⟨-, -, -, -, -, -, -, houtgoing⟩ := State.quiet_link hquiet
  have hrecorded : t.vehicle = Vehicle.accept r (s.timing (·.status)) s.supply.time := by
    simp [hvehicle]
  refine ⟨t, hexec, hrecorded.trans (Vehicle.accept_eq hbrake _ _), ?_, by simp [hfitment], by simp [htrackers],
    by simp [hdrive], by simp [hoperator], by simp [hsupply], fun hnone => ?_⟩
  · rw [houtgoing, ← vehicleReply_eq]
    exact State.doneReply_outgoing (by simp) _ _ _
  · obtain ⟨horders, hmotion, hgranted, hpump, hcapacity⟩ := acceptVehicle_of_waiting_nil (r := r) hnone
    refine ⟨by simp [hrecords, horders], by simp [hruns, hmotion], by simp [hflow, hgranted], by simp [hflow, hpump],
      fun hfresh => by simp [hfaults, acceptVehicle_faults hfresh], fun f hfitted => ?_⟩
    calc t.flow.capacity
        = (s.vehicleRecorded r).capacityNow.1 := by simp [hflow, hcapacity]
      _ = if f.threshold ≤ (s.vehicleRecorded r).vehicle.oil then f.capacity else f.cold :=
          State.capacityNow_of_fresh (by simpa using hlocked) (by simpa using hfitted) (by simp [Vehicle.accept])
      _ = if f.threshold ≤ t.vehicle.oil then f.capacity else f.cold := by
          rw [State.vehicleRecorded_vehicle, hrecorded]

end Sys2Proof.Machine
end

section
/-! O32, the removal of LATCHED entries by CLEAR_FAULTS (R168) and at the end of a group's RESETTING interval (R170). A
removal can only clear flags, and flags that only clear reach neither an order nor the plant: so each event leaves exactly
the table that the removal makes. -/

namespace Sys2Proof.Machine

/-! ### Flags that only clear -/

/-- Every flag that is set in a is set in b. -/
def Inhibits.within (a b : Inhibits) : Prop :=
  (∀ g, a.group g = true → b.group g = true) ∧ (a.pumped = true → b.pumped = true)

theorem Inhibits.within_refl (a : Inhibits) : a.within a := ⟨fun _ => id, id⟩

theorem Inhibits.none_within (a : Inhibits) : Inhibits.none.within a := by
  refine ⟨fun g => ?_, by simp [Inhibits.none]⟩
  cases g <;> simp [Inhibits.none, Inhibits.group]

/-- R165: fewer entries and fewer overflow inhibits set no further flag. -/
theorem flagsOf_within {l k : List Entry} {o p : Inhibits} (hentries : l ⊆ k) (hoverflow : o.within p) :
    (flagsOf l o).within (flagsOf k p) := by
  have hany : ∀ f : Entry → Bool, l.any f = true → k.any f = true := fun f hl => by
    obtain ⟨e, hmem, he⟩ := List.any_eq_true.1 hl
    exact List.any_eq_true.2 ⟨e, hentries hmem, he⟩
  obtain ⟨hgroup, hpumped⟩ := hoverflow
  refine ⟨fun g => ?_, ?_⟩
  · simp only [flagsOf_group, Bool.or_eq_true]
    exact Or.imp (hgroup g) (hany _)
  · simp only [flagsOf_pumped, Bool.or_eq_true]
    exact Or.imp hpumped (hany _)

/-- R167: a removal sets no flag of a sound table. -/
theorem FaultTable.remove_flags_within {t : FaultTable} (hsound : t.sound) (p : Entry → Bool) :
    (t.remove p).flags.within t.flags := by
  obtain ⟨-, -, hflags⟩ := hsound
  rw [hflags]
  exact flagsOf_within (List.filter_subset_self _) (Inhibits.within_refl _)

/-- R168: nor does CLEAR_FAULTS, which may also empty the overflow inhibits. -/
theorem FaultTable.clear_flags_within {t : FaultTable} (hsound : t.sound) : t.clear.flags.within t.flags := by
  obtain ⟨-, -, hflags⟩ := hsound
  rw [hflags]
  refine flagsOf_within (List.filter_subset_self _) ?_
  dsimp only
  split
  · exact Inhibits.none_within _
  · exact Inhibits.within_refl _

/-- R16: an order meets newly set flags alone. -/
theorem meetInhibit_of_within {old : Inhibits} {s : State} (hwithin : s.faults.flags.within old) (g : Group) :
    meetInhibit old g s = s := by
  obtain ⟨hgroup, hpumped⟩ := hwithin
  unfold meetInhibit
  split
  · rfl
  · refine if_neg fun hmet => ?_
    simp only [Bool.or_eq_true, Bool.and_eq_true, Bool.not_eq_true'] at hmet
    obtain ⟨⟨hset, hclear⟩, -⟩ | ⟨⟨hset, hclear⟩, -⟩ := hmet
    · simp [hgroup g hset] at hclear
    · simp [hpumped hset] at hclear

/-- R165: flags that only clear are met by no order: the report reaches the Flow Arbiter and the Beacon Engine. -/
theorem reportFlags_of_within {old : Inhibits} {s : State} (hwithin : s.faults.flags.within old) :
    reportFlags old s = if s.faults.flags = old then s else reportCleared old s := by
  simp only [reportFlags, Group.all, List.foldl_cons, List.foldl_nil, meetInhibit_of_within hwithin]

/-- R165: the report of flags that only clear leaves the table, the link and the plant as they are. -/
theorem reportFlags_plant_of_within {old : Inhibits} {s : State} (hwithin : s.faults.flags.within old) :
    (reportFlags old s).faults = s.faults ∧ (reportFlags old s).link = s.link ∧
      (reportFlags old s).trackers = s.trackers ∧ (reportFlags old s).drive = s.drive := by
  rw [reportFlags_of_within hwithin]
  split <;> simp

/-! ### The removals -/

/-- R168: what CLEAR_FAULTS leaves, by the state and the code of an entry. -/
theorem Entry.not_clearable (e : Entry) :
    (!e.clearable) = (e.active || decide (e.code = .skew ∨ e.code = .referenceMismatch ∨ e.code = .latchFault)) := by
  simp [Entry.clearable, Bool.or_assoc]

/-- R170: what the end of a RESETTING interval leaves, by the state and the subject of an entry. -/
theorem not_recoversWith (g : Group) (e : Entry) :
    (!recoversWith g e) = (e.active || decide (e.subject.group? ≠ some g)) := by
  simp [recoversWith]

@[simp] theorem FaultTable.clear_overflow (t : FaultTable) : t.clear.overflow = false := rfl

@[simp] theorem FaultTable.clear_resetting (t : FaultTable) : t.clear.resetting = t.resetting := rfl

theorem FaultTable.clear_entries (t : FaultTable) : t.clear.entries = t.entries.filter fun e => !e.clearable := rfl

theorem FaultTable.clear_overflowInhibits (t : FaultTable) :
    t.clear.overflowInhibits = if t.clear.entries.length < 16 then Inhibits.none else t.overflowInhibits := rfl

/-- R168: the number of entries that CLEAR_FAULTS removes. -/
theorem FaultTable.clear_removed (t : FaultTable) :
    (t.entries.filter Entry.clearable).length = t.entries.length - t.clear.entries.length := by
  have hsplit : t.entries.length = (t.entries.filter Entry.clearable).length + t.clear.entries.length := by
    simpa [FaultTable.clear_entries] using t.entries.length_eq_length_filter_add Entry.clearable
  omega

@[simp] theorem removeFaults_faults (p : Entry → Bool) (s : State) : (removeFaults p s).faults = s.faults.remove p := by
  unfold removeFaults
  dsimp only
  split <;> rfl

/-! ### CLEAR_FAULTS -/

/-- R168: the state that CLEAR_FAULTS leaves before its reply. -/
theorem clearFaultsRequest_plant {s : State} (hsound : s.faults.sound) :
    (clearFaultsRequest s).1.faults = s.faults.clear ∧ (clearFaultsRequest s).1.link = s.link ∧
      (clearFaultsRequest s).1.trackers = s.trackers ∧ (clearFaultsRequest s).1.drive = s.drive :=
  reportFlags_plant_of_within (s := { s with faults := s.faults.clear }) (FaultTable.clear_flags_within hsound)

/-- R168: the reply to CLEAR_FAULTS, from the table that it leaves. -/
theorem clearFaultsRequest_done {s : State} (hsound : s.faults.sound) :
    clearFaultsRequest s = ((clearFaultsRequest s).1,
      .done (clearReport (s.faults.entries.length - s.faults.clear.entries.length) s.faults.clear)) := by
  obtain ⟨hfaults, -⟩ := clearFaultsRequest_plant hsound
  rw [← FaultTable.clear_removed, ← hfaults]
  rfl

/-- R168: an answered CLEAR_FAULTS: the table that it leaves, which its reply reports, and what it does not touch. -/
theorem exec_clearFaults {tag : Byte} {s : State} (hsound : s.faults.sound) (hanswers : s.answers) :
    ∃ t, exec (.clearFaults tag) s = .next t ∧
      t.faults = s.faults.clear ∧
      t.link.outgoing = (s.doneReply 0x24 tag
        (clearReport (s.faults.entries.length - t.faults.entries.length) t.faults)).link.outgoing ∧
      t.fitment = s.fitment ∧ t.trackers = s.trackers ∧ t.drive = s.drive ∧ t.operator = s.operator := by
  obtain ⟨t, hexec, hquiet⟩ :=
    request_done .clearFaults tag clearFaultsRequest hanswers (clearFaultsRequest_done hsound)
  obtain ⟨-, -, hfitment, -, -, htrackers, -, hdrive, hoperator, -, hfaults, -⟩ := State.quiet_blocks hquiet
  obtain ⟨-, -, -, -, -, -, -, houtgoing⟩ := State.quiet_link hquiet
  obtain ⟨htable, hlink, hplaces, hchans⟩ := clearFaultsRequest_plant hsound
  have hcleared : t.faults = s.faults.clear := by simp [hfaults, htable]
  refine ⟨t, hexec, hcleared, ?_, by simp [hfitment], by simp [htrackers, hplaces], by simp [hdrive, hchans],
    by simp [hoperator]⟩
  rw [houtgoing, hcleared]
  exact State.doneReply_outgoing hlink _ _ _

/-! ### The end of a RESETTING interval -/

/-- R170: the table when a group's RESETTING interval has ended. -/
def FaultTable.resetOver (t : FaultTable) (g : Group) : FaultTable :=
  FaultTable.remove { t with resetting := t.resetting.set g.idx none } (recoversWith g)

theorem FaultTable.resetOver_entries (t : FaultTable) (g : Group) :
    (t.resetOver g).entries = t.entries.filter fun e => !recoversWith g e := rfl

theorem FaultTable.resetOver_keeps (t : FaultTable) (g : Group) :
    (t.resetOver g).overflow = t.overflow ∧ (t.resetOver g).overflowInhibits = t.overflowInhibits := ⟨rfl, rfl⟩

theorem FaultTable.resetOver_resetting (t : FaultTable) (g : Group) :
    (t.resetOver g).resetting = t.resetting.set g.idx none := rfl

theorem FaultTable.resetOver_sound {t : FaultTable} (hsound : t.sound) (g : Group) : (t.resetOver g).sound :=
  FaultTable.remove_sound _ _ ((FaultTable.sound_resetting _ _).2 hsound)

/-- R170: the expiry of a running RESETTING timer. -/
theorem resettingExpiry_plant {g : Group} {s : State} (hsound : s.faults.sound)
    (hrunning : s.faults.resetting[g.idx] ≠ none) :
    (resettingExpiry g s).faults = s.faults.resetOver g ∧ (resettingExpiry g s).trackers = s.trackers ∧
      (resettingExpiry g s).drive = s.drive := by
  have hwithin : (removeFaults (recoversWith g) (setResetting g none s)).faults.flags.within s.faults.flags := by
    rw [removeFaults_faults]
    exact FaultTable.remove_flags_within ((FaultTable.sound_resetting _ _).2 hsound) _
  obtain ⟨htable, -, hplaces, hchans⟩ := reportFlags_plant_of_within hwithin
  rw [resettingExpiry, if_pos (Option.isSome_iff_ne_none.2 hrunning), htable, hplaces, hchans]
  simp [setResetting, FaultTable.resetOver]

/-- R170: the end of a group's RESETTING interval. -/
theorem exec_resettingTimerExpiry {g : Group} {s : State} (hsound : s.faults.sound) (hmode : s.supply.mode = .run)
    (hrunning : s.faults.resetting[g.idx] ≠ none) :
    ∃ t, exec (.resettingTimerExpiry g) s = .next t ∧ t.faults = s.faults.resetOver g ∧ t.fitment = s.fitment ∧
      t.trackers = s.trackers ∧ t.drive = s.drive ∧ t.operator = s.operator := by
  obtain ⟨t, hexec, hquiet⟩ := runEvent_next (resettingExpiry g) hmode
  obtain ⟨-, -, hfitment, -, -, htrackers, -, hdrive, hoperator, -, hfaults, -⟩ := State.quiet_blocks hquiet
  obtain ⟨htable, hplaces, hchans⟩ := resettingExpiry_plant hsound hrunning
  exact ⟨t, hexec, hfaults.trans htable, by simp [hfitment], htrackers.trans hplaces, hdrive.trans hchans,
    by simp [hoperator]⟩

/-- Settles O32: each event leaves the table that its removal makes, since the flags it recomputes only clear. -/
theorem latchedEntriesAreRemoved : Obligations.LatchedEntriesAreRemoved := by
  refine fun s hsound => ⟨fun tag hanswers => ?_, fun g hmode hrunning => ?_⟩
  · obtain ⟨t, hexec, htable, hreply, hframe⟩ := exec_clearFaults (tag := tag) hsound hanswers
    refine ⟨t, hexec, ?_, ?_, ?_, ?_, ?_, ?_, hframe⟩
    · simp only [htable, FaultTable.clear_entries, Entry.not_clearable]
    · rw [htable, FaultTable.clear_overflow]
    · rw [htable, FaultTable.clear_overflowInhibits]
    · rw [htable]
      exact FaultTable.clear_sound _ hsound
    · rw [htable, FaultTable.clear_resetting]
    · rw [hreply, htable]
      simp [clearReport, faultSummary, bFlag]
  · obtain ⟨t, hexec, htable, hframe⟩ := exec_resettingTimerExpiry hsound hmode hrunning
    obtain ⟨hoverflow, hinhibits⟩ := s.faults.resetOver_keeps g
    rw [← htable] at hoverflow hinhibits
    refine ⟨t, hexec, ?_, hoverflow, hinhibits, ?_, ?_, hframe⟩
    · simp only [htable, FaultTable.resetOver_entries, not_recoversWith]
    · rw [htable]
      exact FaultTable.resetOver_sound hsound g
    · rw [htable, FaultTable.resetOver_resetting]

end Sys2Proof.Machine
end

section
/-! O2 and O3: what every command does, by the cases of its effect, and the Fault Table under it. -/

namespace Sys2Proof.Machine

/-! ### The queue of waiting commands -/

theorem handOn_pending (s : State) : (handOn s).pending = s.pending := by
  unfold handOn
  dsimp only
  split <;> simp [State.modLink]

theorem Effect.pending {c : Instr} {s a : State} (h : Effect c s a) : a.pending = s.pending := by
  cases h <;> simp [State.modLink, handOn_pending]

/-! ### Requests and events -/

/-- The owners of the requests of Table 11-6: what each answers to one of its requests. -/
inductive IsOwner : (State → State × Reply) → Prop
  | fitEquipment (r : EquipmentReq) : IsOwner (fitEquipmentRequest r)
  | fitAxis (r : AxisReq) : IsOwner (fitAxisRequest r)
  | fitChannel (r : ChannelReq) : IsOwner (fitChannelRequest r)
  | fitFlow (r : FlowReq) : IsOwner (fitFlowRequest r)
  | fitProfile (r : ProfileReq) : IsOwner (fitProfileRequest r)
  | fitTiming (r : TimingReq) : IsOwner (fitTimingRequest r)
  | fitPolicy (r : PolicyReq) : IsOwner (fitPolicyRequest r)
  | fitInterlock (r : InterlockReq) : IsOwner (fitInterlockRequest r)
  | fitLamps (r : LampsReq) : IsOwner (fitLampsRequest r)
  | fitPattern (r : PatternReq) : IsOwner (fitPatternRequest r)
  | fitScene (r : SceneReq) : IsOwner (fitSceneRequest r)
  | fitRead (kind index : Byte) : IsOwner (fitReadRequest kind index)
  | fitLock : IsOwner fitLockRequest
  | submit (r : SubmitReq) : IsOwner (submitRequest r)
  | cancel (n : Nat) : IsOwner (cancelRequest n)
  | retire (n : Nat) : IsOwner (retireRequest n)
  | queryOrder (n : Nat) : IsOwner (queryOrderRequest n)
  | queryTable : IsOwner queryTableRequest
  | vehicle (r : VehicleReq) : IsOwner (vehicleRequest r)
  | queryAxes : IsOwner queryAxesRequest
  | queryStatus (sec : Byte) : IsOwner (queryStatusRequest sec)
  | queryFaults : IsOwner queryFaultsRequest
  | clearFaults : IsOwner clearFaultsRequest
  | groupReset (code : Byte) : IsOwner (groupResetRequest code)
  | stopReset : IsOwner stopResetRequest
  | prove : IsOwner proveRequest
  | queryProve : IsOwner queryProveRequest
  | beaconOverride (r : OverrideReq) : IsOwner (beaconOverrideRequest r)
  | setOutput (line value : Byte) : IsOwner (setOutputRequest line value)
  | standby : IsOwner standbyRequest

/-- R185: a request of a kind is handed to an owner. -/
theorem serve_isOwner (k : ReqKind) (p : List Byte) : IsOwner (serve k p) := by
  cases k <;> constructor

/-- The events that neither the supply, nor the emergency stop machine, nor a running proving test, nor the count of an axis
goes by: what each does. -/
inductive IsRoutine : (State → State) → Prop
  | controlInterval (g : Group) : IsRoutine (interval g)
  | blockWindowExpiry (g : Group) : IsRoutine (blockExpiry g)
  | holdWindowExpiry (g : Group) : IsRoutine (holdExpiry g)
  | settleTimerExpiry (g : Group) : IsRoutine (settleExpiry g)
  | latchCheckTimerExpiry (g : Group) : IsRoutine (latchCheckExpiry g)
  | timeLimitReached (g : Group) : IsRoutine (limitReached g)
  | statusTimerExpiry : IsRoutine statusExpiry
  | startTimerExpiry : IsRoutine startExpiry
  | runOnTimerExpiry : IsRoutine runOnExpiry
  | stuckTimerExpiry : IsRoutine stuckExpiry
  | trackerWindowEnd (a : Axis) : IsRoutine (windowOver a)
  | homeSwitchRawChange (a : Axis) (level : Bool) : IsRoutine (homeRaw a level)
  | inputRawChange (l : Line) (level : Bool) : IsRoutine (inputRaw l level)
  | inputDebounceExpiry (l : Line) : IsRoutine (inputExpiry l)
  | twoHandWindowExpiry (t : Fin 2) : IsRoutine (handExpiry t)
  | periodBoundary (c : Channel) : IsRoutine (boundary c)
  | deadTimeExpiry (p : PairNo) : IsRoutine (deadExpiry p)
  | pulseTimerExpiry (d : Side) : IsRoutine (pulseExpiry d)
  | latchCoilCheck (d : Side) (current : Nat) : IsRoutine (pulseCheck d current)
  | coilMeasurement (c : Channel) (current : Nat) : IsRoutine (measure c current)
  | stepTimerExpiry (p : LampPair) : IsRoutine (stepExpiry p)
  | overrideTimerExpiry (p : LampPair) : IsRoutine (overrideExpiry p)
  | lampMeasurement (l : Lamp) (current : Nat) : IsRoutine (measureLamp l current)
  | lampShortDetected (l : Lamp) : IsRoutine (shortLamp l)
  | resettingTimerExpiry (g : Group) : IsRoutine (resettingExpiry g)

/-- R183, R184: at most two places of the request buffer stay occupied. -/
def keepsPlaces (f : Link → Link) : Prop := ∀ l : Link, l.places.length ≤ 2 → (f l).places.length ≤ 2

/-- What a command that the part takes brings about before the end of its event: a request by its owner, a change of the
receiver, a routine event, or one of the others. -/
inductive Happens : State → State → Prop
  | request {s : State} {f : State → State × Reply} (hf : IsOwner f) (kind tag : Byte) (h : s.answers) :
    Happens s (queueReply false kind tag (f s).2 (f s).1)
  | receiver {s : State} {f : Link → Link} (hf : keepsPlaces f) : Happens s (s.modLink f)
  | routine {s : State} {f : State → State} (hf : IsRoutine f) : Happens s (f s)
  | enableTakenLow {s : State} : Happens s (enableLow s)
  | enableTakenHigh {s : State} : Happens s (enableHigh s)
  | lineBreak {s : State} : Happens s (lineBreak s)
  | standbyEntry {s : State} (h : s.supply.mode = .run) : Happens s (standbyDue s)
  | requestHandedOn {s : State} (h : s.supply.mode = .run) : Happens s (handOn s)
  | frameSent {s : State} (h : s.supply.mode = .run) : Happens s (frameGone s)
  | pulseCounted {s : State} (a : Axis) (forward : Bool) : Happens s (pulse a forward s)
  | homeSwitchDebounceExpiry {s : State} (a : Axis) : Happens s (homeExpiry a s)
  | loopOpening {s : State} : Happens s (loopOpens s)
  | loopClosing {s : State} : Happens s (loopCloses s)
  | releaseTimerExpiry {s : State} (h : s.supply.mode = .run) : Happens s (releaseExpiry s)
  | coilShortDetected {s : State} (c : Channel) (h : s.supply.mode = .run) : Happens s (coilShort c s)
  | provingDriveStart {s : State} (h : s.supply.mode = .run) : Happens s (proveNext s)
  | provingDriveEnd {s : State} (current : Nat) (h : s.supply.mode = .run) : Happens s (proveOver current s)

@[simp] theorem Link.hunt_places (l : Link) : l.hunt.places = l.places := rfl

theorem Link.take_places_length (l : Link) (h : l.places.length ≤ 2) : l.take.places.length ≤ 2 := by
  unfold Link.take
  dsimp only
  split
  · rename_i hroom
    simpa [Config.maxPlaces] using Nat.succ_le_of_lt hroom
  · exact h

theorem Link.judge_places_length (l : Link) (h : l.places.length ≤ 2) : l.judge.places.length ≤ 2 := by
  unfold Link.judge
  (repeat' split) <;> simp [h, Link.take_places_length]

theorem Link.assemble_places (b : Byte) (l : Link) : (l.assemble b).places = l.places := by
  unfold Link.assemble Link.checkByte
  (repeat' first | split | dsimp only) <;> rfl

theorem keepsPlaces_gapOut : keepsPlaces Link.gapOut := fun l h => by
  unfold Link.gapOut
  split <;> simp [h]

theorem keepsPlaces_complete : keepsPlaces Link.complete := fun l h => by
  unfold Link.complete
  split <;> simp [h, Link.take_places_length]

theorem keepsPlaces_mismatch : keepsPlaces Link.mismatch := fun l h => by
  unfold Link.mismatch
  split <;> simp [h]

theorem keepsPlaces_byte (b : Byte) : keepsPlaces (Link.byte b) := fun l h => by
  simpa [Link.byte, Link.assemble_places] using l.judge_places_length h

/-- R185: the effect of a request is its owner's answer, put into the reply path; the effects of the events are theirs. -/
theorem Effect.happens {c : Instr} {s a : State} (heffect : Effect c s a) : Happens s a := by
  cases heffect with
  | fitEquipment _ _ h => exact .request (.fitEquipment _) _ _ h
  | fitAxis _ _ h => exact .request (.fitAxis _) _ _ h
  | fitChannel _ _ h => exact .request (.fitChannel _) _ _ h
  | fitFlow _ _ h => exact .request (.fitFlow _) _ _ h
  | fitProfile _ _ h => exact .request (.fitProfile _) _ _ h
  | fitTiming _ _ h => exact .request (.fitTiming _) _ _ h
  | fitPolicy _ _ h => exact .request (.fitPolicy _) _ _ h
  | fitInterlock _ _ h => exact .request (.fitInterlock _) _ _ h
  | fitLamps _ _ h => exact .request (.fitLamps _) _ _ h
  | fitPattern _ _ h => exact .request (.fitPattern _) _ _ h
  | fitScene _ _ h => exact .request (.fitScene _) _ _ h
  | fitRead _ _ _ h => exact .request (.fitRead _ _) _ _ h
  | fitLock _ h => exact .request .fitLock _ _ h
  | submit _ _ h => exact .request (.submit _) _ _ h
  | cancel _ _ h => exact .request (.cancel _) _ _ h
  | retire _ _ h => exact .request (.retire _) _ _ h
  | queryOrder _ _ h => exact .request (.queryOrder _) _ _ h
  | queryTable _ h => exact .request .queryTable _ _ h
  | vehicle _ _ h => exact .request (.vehicle _) _ _ h
  | queryAxes _ h => exact .request .queryAxes _ _ h
  | queryStatus _ _ h => exact .request (.queryStatus _) _ _ h
  | queryFaults _ h => exact .request .queryFaults _ _ h
  | clearFaults _ h => exact .request .clearFaults _ _ h
  | groupReset _ _ h => exact .request (.groupReset _) _ _ h
  | stopReset _ h => exact .request .stopReset _ _ h
  | prove _ h => exact .request .prove _ _ h
  | queryProve _ h => exact .request .queryProve _ _ h
  | beaconOverride _ _ h => exact .request (.beaconOverride _) _ _ h
  | setOutput _ _ _ h => exact .request (.setOutput _ _) _ _ h
  | standby _ h => exact .request .standby _ _ h
  | frameGapTimeout => exact .receiver keepsPlaces_gapOut
  | framingError => exact .receiver (fun l h => l.judge_places_length h)
  | frameComplete => exact .receiver keepsPlaces_complete
  | checkMismatch => exact .receiver keepsPlaces_mismatch
  | byteReceived b => exact .receiver (keepsPlaces_byte b)
  | receiveLineReturnedHigh => exact .receiver fun _ h => h
  | enableTakenLow => exact .enableTakenLow
  | enableTakenHigh => exact .enableTakenHigh
  | lineBreak => exact .lineBreak
  | standbyEntry h => exact .standbyEntry h
  | requestHandedOn h => exact .requestHandedOn h
  | frameSent h => exact .frameSent h
  | pulseCounted a forward => exact .pulseCounted a forward
  | homeSwitchDebounceExpiry a => exact .homeSwitchDebounceExpiry a
  | loopOpening => exact .loopOpening
  | loopClosing => exact .loopClosing
  | releaseTimerExpiry h => exact .releaseTimerExpiry h
  | coilShortDetected c h => exact .coilShortDetected c h
  | provingDriveStart h => exact .provingDriveStart h
  | provingDriveEnd i h => exact .provingDriveEnd i h
  | controlInterval => exact .routine (.controlInterval _)
  | blockWindowExpiry => exact .routine (.blockWindowExpiry _)
  | holdWindowExpiry => exact .routine (.holdWindowExpiry _)
  | settleTimerExpiry => exact .routine (.settleTimerExpiry _)
  | latchCheckTimerExpiry => exact .routine (.latchCheckTimerExpiry _)
  | timeLimitReached => exact .routine (.timeLimitReached _)
  | statusTimerExpiry => exact .routine .statusTimerExpiry
  | startTimerExpiry => exact .routine .startTimerExpiry
  | runOnTimerExpiry => exact .routine .runOnTimerExpiry
  | stuckTimerExpiry => exact .routine .stuckTimerExpiry
  | trackerWindowEnd => exact .routine (.trackerWindowEnd _)
  | homeSwitchRawChange => exact .routine (.homeSwitchRawChange _ _)
  | inputRawChange => exact .routine (.inputRawChange _ _)
  | inputDebounceExpiry => exact .routine (.inputDebounceExpiry _)
  | twoHandWindowExpiry => exact .routine (.twoHandWindowExpiry _)
  | periodBoundary => exact .routine (.periodBoundary _)
  | deadTimeExpiry => exact .routine (.deadTimeExpiry _)
  | pulseTimerExpiry => exact .routine (.pulseTimerExpiry _)
  | latchCoilCheck => exact .routine (.latchCoilCheck _ _)
  | coilMeasurement => exact .routine (.coilMeasurement _ _)
  | stepTimerExpiry => exact .routine (.stepTimerExpiry _)
  | overrideTimerExpiry => exact .routine (.overrideTimerExpiry _)
  | lampMeasurement => exact .routine (.lampMeasurement _ _)
  | lampShortDetected => exact .routine (.lampShortDetected _)
  | resettingTimerExpiry => exact .routine (.resettingTimerExpiry _)

/-- R185: handing on a request changes nothing, or leaves what the request's owner, or a refusal, leaves. -/
theorem handOn_outcome {P : State → Prop} {s : State} (hstay : P s)
    (hplaces : ∀ (ps : List Place), s.supply.standby = .none → ps.length = s.link.places.length →
      P (s.modLink fun l => { l with places := ps }))
    (howner : ∀ (u : State) (f : State → State × Reply), IsOwner f → u.supply = s.supply → P u → P (f u).1)
    (hreply : ∀ (u : State) (kind tag : Byte) (r : Reply), P u → P (queueReply true kind tag r u)) : P (handOn s) := by
  have hmarked : ∀ ps : List Place, (markAnswered ps).length = ps.length := by
    intro ps
    induction ps with
    | nil => rfl
    | cons p rest ih => unfold markAnswered; split <;> simp [ih]
  unfold handOn
  split
  · rename_i p _ hnone
    refine hreply _ _ _ _ ?_
    have hmark := hplaces _ hnone (hmarked s.link.places)
    unfold answer
    split
    · exact hmark
    split
    · exact howner _ _ (serve_isOwner _ _) rfl hmark
    · exact hmark
  · exact hstay

/-- Settles O2, by the three outcomes of a command. -/
theorem everyCommandCompletes : Obligations.EveryCommandCompletes := by
  intro c s
  obtain ⟨t, hexec, houtcome⟩ := exec_next c s
  refine ⟨t, hexec, ?_⟩
  cases houtcome with
  | powerOn => unfold powerOn; dsimp only; split <;> simp [State.overLines, State.noticeStop]
  | idle => rfl
  | effect heffect => simpa using heffect.pending

/-! ### The writes of the fitment -/

/-- R173: what holds of a state and of the effect of a write in range holds of the write's outcome. -/
theorem openWrite_outcome {P : State → Prop} {checks : List Bool} {write : State → State} {s : State} (hstay : P s)
    (hwrite : P (write s)) : P (openWrite checks write s).1 := by
  unfold openWrite
  split
  · exact hstay
  · exact hwrite

theorem lockedWrite_outcome {P : State → Prop} {checks : List Bool} {write : State → State} {s : State} (hstay : P s)
    (hwrite : s.fitment.locked = false → P (write s)) : P (lockedWrite checks write s).1 := by
  unfold lockedWrite
  split
  · exact hstay
  · exact openWrite_outcome hstay (hwrite (by simpa using ‹¬ s.fitment.locked = true›))

/-- t has the orders, the link, the plant and the faults of s: the writes of most records reach the fitment and the beacons
alone. -/
def State.samePlant (s t : State) : Prop :=
  t.link = s.link ∧ t.seq = s.seq ∧ t.flow = s.flow ∧ t.trackers = s.trackers ∧ t.runs = s.runs ∧ t.drive = s.drive ∧
    t.operator = s.operator ∧ t.faults = s.faults

theorem State.samePlant_refl (s : State) : s.samePlant s := ⟨rfl, rfl, rfl, rfl, rfl, rfl, rfl, rfl⟩

theorem State.modFitment_samePlant (f : Fitment → Fitment) (s : State) : s.samePlant (s.modFitment f) :=
  ⟨rfl, rfl, rfl, rfl, rfl, rfl, rfl, rfl⟩

theorem fitEquipmentRequest_samePlant (r : EquipmentReq) (s : State) : s.samePlant (fitEquipmentRequest r s).1 :=
  lockedWrite_outcome s.samePlant_refl fun _ => s.modFitment_samePlant _

theorem fitChannelRequest_samePlant (r : ChannelReq) (s : State) : s.samePlant (fitChannelRequest r s).1 :=
  lockedWrite_outcome s.samePlant_refl fun _ => s.modFitment_samePlant _

theorem fitFlowRequest_samePlant (r : FlowReq) (s : State) : s.samePlant (fitFlowRequest r s).1 :=
  lockedWrite_outcome s.samePlant_refl fun _ => s.modFitment_samePlant _

theorem fitProfileRequest_samePlant (r : ProfileReq) (s : State) : s.samePlant (fitProfileRequest r s).1 :=
  lockedWrite_outcome s.samePlant_refl fun _ => s.modFitment_samePlant _

theorem fitTimingRequest_samePlant (r : TimingReq) (s : State) : s.samePlant (fitTimingRequest r s).1 :=
  lockedWrite_outcome s.samePlant_refl fun _ => s.modFitment_samePlant _

theorem fitInterlockRequest_samePlant (r : InterlockReq) (s : State) : s.samePlant (fitInterlockRequest r s).1 := by
  unfold fitInterlockRequest
  split
  · exact lockedWrite_outcome s.samePlant_refl fun _ => s.modFitment_samePlant _
  · exact s.samePlant_refl

theorem fitLampsRequest_samePlant (r : LampsReq) (s : State) : s.samePlant (fitLampsRequest r s).1 :=
  lockedWrite_outcome s.samePlant_refl fun _ => by simp [State.samePlant, LampPair.all]

theorem fitPatternRequest_samePlant (r : PatternReq) (s : State) : s.samePlant (fitPatternRequest r s).1 := by
  unfold fitPatternRequest
  split
  · exact openWrite_outcome s.samePlant_refl (by simp [State.samePlant])
  · exact s.samePlant_refl

theorem fitSceneRequest_samePlant (r : SceneReq) (s : State) : s.samePlant (fitSceneRequest r s).1 :=
  openWrite_outcome s.samePlant_refl (by simp [State.samePlant])

/-- FIT_AXIS reaches its own tracker as well (R70). -/
theorem fitAxisRequest_faults (r : AxisReq) (s : State) : (fitAxisRequest r s).1.faults = s.faults := by
  unfold fitAxisRequest
  split
  · exact lockedWrite_outcome (P := fun t => t.faults = s.faults) rfl fun _ => rfl
  · exact lockedWrite_outcome (P := fun t => t.faults = s.faults) rfl fun _ => rfl

theorem State.samePlant.sound {s t : State} (h : s.samePlant t) (hsound : s.faults.sound) : t.faults.sound := by
  obtain ⟨-, -, -, -, -, -, -, hfaults⟩ := h
  rwa [hfaults]

/-! ### The Fault Table -/

theorem snapAll_sound {s : State} (h : s.faults.sound) : (snapAll s).faults.sound := by
  simpa [snapAll, Axis.all] using
    snapIfActive_sound _ (snapIfActive_sound _ (snapIfActive_sound _ (snapIfActive_sound _ (snapIfActive_sound _ h))))

theorem fitPolicyRequest_sound (r : PolicyReq) {s : State} (h : s.faults.sound) :
    (fitPolicyRequest r s).1.faults.sound := by
  unfold fitPolicyRequest lockedWrite openWrite
  split
  · exact h
  split
  · exact h
  · exact refreshStops_sound (by simpa [State.modFitment] using h)

theorem fitLockRequest_sound {s : State} (h : s.faults.sound) : (fitLockRequest s).1.faults.sound := by
  unfold fitLockRequest
  split
  · exact h
  split
  · exact h
  · exact snapAll_sound (by simpa [State.modFitment] using h)

theorem takeOrder_sound (r : SubmitReq) (k : OrderKind) (b : Binding) {s : State} (h : s.faults.sound) :
    (takeOrder r k b s).1.faults.sound := by
  have hadvance (u : State) (hu : u.faults = s.faults) : (advanceGroup r.group u).faults.sound :=
    advanceGroup_sound _ (hu ▸ h)
  unfold takeOrder
  dsimp only
  split <;> exact hadvance _ (by split <;> simp)

theorem submitRequest_sound (r : SubmitReq) {s : State} (h : s.faults.sound) : (submitRequest r s).1.faults.sound := by
  unfold submitRequest
  (repeat' split) <;> first | exact h | exact takeOrder_sound _ _ _ h

theorem cancelRequest_sound (n : Nat) {s : State} (h : s.faults.sound) : (cancelRequest n s).1.faults.sound := by
  unfold cancelRequest cancelOrder
  (repeat' split) <;> simp [h, endOrder_sound, endWaiting_sound, endPulse_sound, State.modOrder]

theorem acceptVehicle_sound (r : VehicleReq) {s : State} (h : s.faults.sound) : (acceptVehicle r s).faults.sound := by
  unfold acceptVehicle
  dsimp only
  split
  · exact capacityEvent_sound h
  · exact capacityEvent_sound (latch_sound _ _ h)

theorem vehicleRequest_sound (r : VehicleReq) {s : State} (h : s.faults.sound) : (vehicleRequest r s).1.faults.sound := by
  unfold vehicleRequest
  (repeat' split) <;> simp [h, acceptVehicle_sound]

theorem clearFaultsRequest_sound {s : State} (h : s.faults.sound) : (clearFaultsRequest s).1.faults.sound :=
  reportFlags_sound (s := { s with faults := s.faults.clear }) _ (FaultTable.clear_sound _ h)

theorem resetGroup_sound (g : Group) {s : State} (h : s.faults.sound) : (resetGroup g s).faults.sound := by
  have habort : (abortGroup g s).faults.sound := by
    unfold abortGroup
    dsimp only
    split <;> simp [h, abortOrders_sound]
  exact (FaultTable.sound_resetting _ _).2 (releaseAll_sound _ habort)

theorem groupResetRequest_sound (b : Byte) {s : State} (h : s.faults.sound) : (groupResetRequest b s).1.faults.sound := by
  unfold groupResetRequest
  (repeat' split) <;> simp [h, resetGroup_sound]

theorem clearStop_sound {s : State} (h : s.faults.sound) : (clearStop s).faults.sound := by
  have hremoved := removeFaults_sound (·.is .estop .none) (s := setEstop .clear none s) (by simpa using h)
  simpa [clearStop] using reportFlags_sound s.faults.flags hremoved

theorem stopResetRequest_sound {s : State} (h : s.faults.sound) : (stopResetRequest s).1.faults.sound := by
  unfold stopResetRequest
  split <;> simp [h, clearStop_sound]

theorem proveRequest_sound {s : State} (h : s.faults.sound) : (proveRequest s).1.faults.sound := by
  unfold proveRequest
  (repeat' split) <;> simp [h, startProve_sound]

theorem IsOwner.sound {f : State → State × Reply} (hf : IsOwner f) {s : State} (h : s.faults.sound) :
    (f s).1.faults.sound := by
  cases hf with
  | fitEquipment => exact (fitEquipmentRequest_samePlant _ s).sound h
  | fitAxis => simpa [fitAxisRequest_faults] using h
  | fitChannel => exact (fitChannelRequest_samePlant _ s).sound h
  | fitFlow => exact (fitFlowRequest_samePlant _ s).sound h
  | fitProfile => exact (fitProfileRequest_samePlant _ s).sound h
  | fitTiming => exact (fitTimingRequest_samePlant _ s).sound h
  | fitPolicy => exact fitPolicyRequest_sound _ h
  | fitInterlock => exact (fitInterlockRequest_samePlant _ s).sound h
  | fitLamps => exact (fitLampsRequest_samePlant _ s).sound h
  | fitPattern => exact (fitPatternRequest_samePlant _ s).sound h
  | fitScene => exact (fitSceneRequest_samePlant _ s).sound h
  | fitLock => exact fitLockRequest_sound h
  | submit => exact submitRequest_sound _ h
  | cancel => exact cancelRequest_sound _ h
  | vehicle => exact vehicleRequest_sound _ h
  | clearFaults => exact clearFaultsRequest_sound h
  | groupReset => exact groupResetRequest_sound _ h
  | stopReset => exact stopResetRequest_sound h
  | prove => exact proveRequest_sound h
  | fitRead | retire | queryOrder | queryTable | queryAxes | queryStatus | queryFaults | queryProve | beaconOverride
  | setOutput | standby => simpa using h

/-! ### Resets and supply states -/

theorem emptyOrders_sound {s : State} (h : s.faults.sound) : (emptyOrders s).faults.sound := by
  simpa [emptyOrders, Group.all] using endRun_sound .road (endRun_sound .kerb (endRun_sound .lift h))

/-- R172: the entries whose conditions a reset ends keep their codes and subjects. -/
theorem resetFaults_sound {s : State} (h : s.faults.sound) : (resetFaults s).faults.sound := by
  obtain ⟨hlength, hdistinct, -⟩ := h
  refine FaultTable.recompute_sound _ (by simpa using hlength) ?_
  convert hdistinct using 1
  rw [List.map_map]
  refine List.map_congr_left fun e _ => ?_
  dsimp only [Function.comp]
  split <;> rfl

theorem resetInputs_sound (t : Timer) {s : State} (h : s.faults.sound) : (resetInputs t s).faults.sound :=
  refreshStops_sound h

theorem clearWork_sound (t : Timer) {s : State} (h : s.faults.sound) : (clearWork t s).faults.sound := by
  have hreleased : (releaseDrive (emptyOrders (s.modLink Link.emptied))).faults.sound :=
    releaseAll_sound _ (by simpa using emptyOrders_sound (s := s.modLink Link.emptied) h)
  simpa only [clearWork, darken_frame] using resetFaults_sound (resetInputs_sound t (by simpa using hreleased))

theorem heldEntry_sound {s : State} (h : s.faults.sound) : (heldEntry s).faults.sound := by
  simpa [heldEntry, State.modSupply] using clearWork_sound none h

theorem restartEstop_sound {s : State} (h : s.faults.sound) : (restartEstop s).faults.sound := by
  unfold restartEstop
  dsimp only
  (repeat' split) <;> simp [State.noticeStop, h, raise_sound, FaultTable.remove_sound]

theorem warmTrackers_sound (c : ResetCause) {s : State} (h : s.faults.sound) : (warmTrackers c s).faults.sound := by
  unfold warmTrackers
  (repeat' split) <;> simp [h, snapAll_sound]

theorem warmReset_sound (c : ResetCause) {s : State} (h : s.faults.sound) : (warmReset c s).faults.sound := by
  simpa [warmReset, State.modSupply] using warmTrackers_sound c (restartEstop_sound (clearWork_sound _ (s := s.modLink _) h))

theorem leaveStandby_sound {s : State} (h : s.faults.sound) : (leaveStandby s).faults.sound := by
  unfold leaveStandby
  dsimp only
  split <;> simp [h, warmReset_sound, heldEntry_sound]

theorem enableLow_sound {s : State} (h : s.faults.sound) : (enableLow s).faults.sound := by
  unfold enableLow
  dsimp only
  (repeat' split) <;> simp [State.modSupply, h, heldEntry_sound]

theorem enableHigh_sound {s : State} (h : s.faults.sound) : (enableHigh s).faults.sound := by
  unfold enableHigh
  dsimp only
  (repeat' split) <;> simp [State.modSupply, State.inMode, h, warmReset_sound, leaveStandby_sound]

theorem lineBreak_sound {s : State} (h : s.faults.sound) : (lineBreak s).faults.sound := by
  unfold lineBreak
  dsimp only
  (repeat' split) <;> simp [State.modLink, h, warmReset_sound, leaveStandby_sound]

theorem standbyDue_sound {s : State} (h : s.faults.sound) : (standbyDue s).faults.sound := by
  unfold standbyDue
  split
  · exact (FaultTable.sound_resetting _ _).2 (releaseAll_sound _ h)
  · exact h

theorem powerOn_sound (s : State) : (powerOn s).faults.sound := by
  have hreset : FaultTable.reset.sound := ⟨by decide, by decide, by decide⟩
  unfold powerOn
  dsimp only
  split
  · exact raise_sound _ _ hreset
  · exact hreset

/-! ### What events that reach no order leave -/

@[simp] theorem homeRaw_rest (a : Axis) (v : Bool) (s : State) :
    (homeRaw a v s).link = s.link ∧ (homeRaw a v s).seq = s.seq ∧ (homeRaw a v s).flow = s.flow ∧
      (homeRaw a v s).runs = s.runs ∧ (homeRaw a v s).drive = s.drive ∧ (homeRaw a v s).beacon = s.beacon ∧
      (homeRaw a v s).faults = s.faults := by
  unfold homeRaw
  split <;> simp

@[simp] theorem inputRaw_rest (l : Line) (v : Bool) (s : State) :
    (inputRaw l v s).link = s.link ∧ (inputRaw l v s).seq = s.seq ∧ (inputRaw l v s).flow = s.flow ∧
      (inputRaw l v s).trackers = s.trackers ∧ (inputRaw l v s).runs = s.runs ∧ (inputRaw l v s).drive = s.drive ∧
      (inputRaw l v s).beacon = s.beacon ∧ (inputRaw l v s).faults = s.faults ∧
      (inputRaw l v s).operator.estop = s.operator.estop := by
  unfold inputRaw
  split <;> simp [State.modLine]

@[simp] theorem setLoopLine_rest (v : Bool) (s : State) :
    (setLoopLine v s).link = s.link ∧ (setLoopLine v s).seq = s.seq ∧ (setLoopLine v s).flow = s.flow ∧
      (setLoopLine v s).trackers = s.trackers ∧ (setLoopLine v s).runs = s.runs ∧ (setLoopLine v s).drive = s.drive ∧
      (setLoopLine v s).beacon = s.beacon ∧ (setLoopLine v s).faults = s.faults ∧
      (setLoopLine v s).operator.estop = s.operator.estop := by
  simp [setLoopLine]

@[simp] theorem loopCloses_rest (s : State) :
    (loopCloses s).seq = s.seq ∧ (loopCloses s).flow = s.flow ∧ (loopCloses s).trackers = s.trackers ∧
      (loopCloses s).runs = s.runs ∧ (loopCloses s).drive = s.drive ∧ (loopCloses s).beacon = s.beacon ∧
      (loopCloses s).faults = s.faults ∧ (loopCloses s).link.places = s.link.places := by
  unfold loopCloses estopClosing
  dsimp only
  (repeat' split) <;> simp [setEstop, takeLoop, State.noticeStop]

@[simp] theorem releaseExpiry_rest (s : State) :
    (releaseExpiry s).seq = s.seq ∧ (releaseExpiry s).flow = s.flow ∧ (releaseExpiry s).trackers = s.trackers ∧
      (releaseExpiry s).runs = s.runs ∧ (releaseExpiry s).drive = s.drive ∧ (releaseExpiry s).beacon = s.beacon ∧
      (releaseExpiry s).faults = s.faults ∧ (releaseExpiry s).link.places = s.link.places := by
  unfold releaseExpiry
  split <;> simp [setEstop, State.noticeStop]

@[simp] theorem proveNext_rest (s : State) :
    (proveNext s).link = s.link ∧ (proveNext s).seq = s.seq ∧ (proveNext s).flow = s.flow ∧
      (proveNext s).trackers = s.trackers ∧ (proveNext s).runs = s.runs ∧ (proveNext s).drive.chans = s.drive.chans ∧
      (proveNext s).drive.pairs = s.drive.pairs ∧ (proveNext s).beacon = s.beacon ∧ (proveNext s).faults = s.faults := by
  unfold proveNext
  split <;> simp [startDrive, State.modProve]

/-! ### Every step -/

theorem IsRoutine.sound {f : State → State} (hf : IsRoutine f) {s : State} (h : s.faults.sound) : (f s).faults.sound := by
  cases hf with
  | controlInterval => exact interval_sound _ h
  | blockWindowExpiry => exact blockExpiry_sound _ h
  | holdWindowExpiry => exact holdExpiry_sound _ h
  | settleTimerExpiry => exact settleExpiry_sound _ h
  | latchCheckTimerExpiry => exact latchCheckExpiry_sound _ h
  | timeLimitReached => exact limitReached_sound _ h
  | statusTimerExpiry => exact statusExpiry_sound h
  | startTimerExpiry => exact startExpiry_sound h
  | runOnTimerExpiry => exact runOnExpiry_sound h
  | stuckTimerExpiry => exact stuckExpiry_sound h
  | trackerWindowEnd => exact windowOver_sound _ h
  | inputDebounceExpiry => exact inputExpiry_sound _ h
  | twoHandWindowExpiry => exact handExpiry_sound _ h
  | periodBoundary => exact boundary_sound _ h
  | pulseTimerExpiry => exact pulseExpiry_sound _ h
  | latchCoilCheck => exact pulseCheck_sound _ _ h
  | coilMeasurement => exact measure_sound _ _ h
  | lampMeasurement => exact measureLamp_sound _ _ h
  | lampShortDetected => exact shortLamp_sound _ h
  | resettingTimerExpiry => exact resettingExpiry_sound _ h
  | homeSwitchRawChange | inputRawChange | deadTimeExpiry | stepTimerExpiry | overrideTimerExpiry => simpa using h

theorem Happens.sound {s a : State} (hhappens : Happens s a) (h : s.faults.sound) : a.faults.sound := by
  cases hhappens with
  | request hf => simpa using hf.sound h
  | receiver => exact h
  | routine hf => exact hf.sound h
  | enableTakenLow => exact enableLow_sound h
  | enableTakenHigh => exact enableHigh_sound h
  | lineBreak => exact lineBreak_sound h
  | standbyEntry => exact standbyDue_sound h
  | requestHandedOn =>
    exact handOn_outcome (P := fun t => t.faults.sound) h (fun _ _ _ => h) (fun _ _ hf _ hu => hf.sound hu)
      (fun _ _ _ _ hu => by simpa using hu)
  | frameSent => simpa using h
  | pulseCounted => exact pulse_sound _ _ h
  | homeSwitchDebounceExpiry => exact homeExpiry_sound _ h
  | loopOpening => exact loopOpens_sound h
  | loopClosing => simpa using h
  | releaseTimerExpiry => simpa using h
  | coilShortDetected => exact coilShort_sound _ h
  | provingDriveStart => simpa using h
  | provingDriveEnd => exact proveOver_sound _ h

/-- An invariant that power-on values meet, that what every command brings about and the end of an event keep, and that a
passing millisecond keeps, is kept by every step; the invariant does not speak of the queue of waiting commands. -/
theorem step_keeps {P : State → Prop} (hpending : ∀ (s : State) (q : List Instr), P s → P { s with pending := q })
    (hpower : ∀ s : State, P (powerOn s)) (hhappens : ∀ s a : State, Happens s a → P s → P a)
    (hfinish : ∀ s a : State, P a → P (finish s a)) (htick : ∀ s : State, P s → P (tick s)) {s t : State} (h : P s)
    (hstep : step s = .next t) : P t := by
  unfold step at hstep
  split at hstep
  · cases hstep
    exact htick s h
  · rename_i c rest _
    obtain ⟨u, hexec, houtcome⟩ := exec_next c { s with pending := rest }
    rw [hexec] at hstep
    cases hstep
    cases houtcome with
    | powerOn => exact hpower _
    | idle => exact hpending s rest h
    | effect heffect => exact hfinish _ _ (hhappens _ _ heffect.happens (hpending s rest h))

theorem tick_faults (s : State) : ∃ v, (tick s).faults = { s.faults with resetting := v } := by
  unfold tick
  split
  · exact ⟨_, rfl⟩
  · exact ⟨_, rfl⟩
  · exact ⟨_, rfl⟩

/-- Settles O3: every operation keeps the table sound. -/
theorem faultTableStaysSound : Obligations.FaultTableStaysSound := by
  intro s t h hstep
  refine step_keeps (P := fun s => s.faults.sound) (fun _ _ h => h) powerOn_sound (fun _ _ hh => hh.sound)
    (fun s a h => by simpa using h) (fun s h => ?_) h hstep
  obtain ⟨v, hv⟩ := tick_faults s
  rw [hv]
  exact (FaultTable.sound_resetting _ _).2 h

end Sys2Proof.Machine
end

section
/-! The small statements: a step (O1), the reset state (O10), the valve map (O54), and the locked sections (O9). -/

namespace Sys2Proof.Machine

/-! ### Time -/

theorem mapTable_get {α β : Type} {n : Nat} (f : α → β) (v : Vector α n) (i : Fin n) : (mapTable f v)[i] = f v[i] := by
  simp [mapTable]

/-- R73, R75: what a millisecond does to each tracker, in RUN and in HELD. -/
theorem tickAwake_tracker (s : State) (a : Axis) : (tickAwake s).tracker a = (s.tracker a).tick (s.axisRec? a).isSome := by
  cases a <;> simp [State.tracker, tickAwake, Axis.all, Axis.idx]

/-- R115: what a millisecond does to each pair, in RUN and in HELD. -/
theorem tickAwake_pair (s : State) (p : PairNo) : (tickAwake s).pair p = (s.pair p).tick := mapTable_get _ _ _

theorem tick_of_standby {s : State} (h : s.supply.mode = .standby) : tick s = s := by unfold tick; rw [h]

theorem tick_of_awake {s : State} (h : s.supply.mode ≠ .standby) : tick s = tickAwake s ∨ tick s = tickRun (tickAwake s) := by
  unfold tick
  cases hmode : s.supply.mode with
  | run => exact .inr rfl
  | held => exact .inl rfl
  | standby => exact absurd hmode h

/-- What counts in RUN alone is neither the time counter, nor a tracker, nor a dead-time, nor an entry. -/
theorem tickRun_rest (s : State) :
    (tickRun s).pending = s.pending ∧ (tickRun s).supply = s.supply ∧ (tickRun s).fitment = s.fitment ∧
      (tickRun s).trackers = s.trackers ∧ (tickRun s).drive.pairs = s.drive.pairs ∧
      (tickRun s).faults.entries = s.faults.entries ∧ (tickRun s).faults.flags = s.faults.flags :=
  ⟨rfl, rfl, rfl, rfl, rfl, rfl, rfl⟩

/-- Settles O1, by the two queues, an idle step by the supply state. -/
theorem stepTakesFrontOrPassesTime : Obligations.StepTakesFrontOrPassesTime := by
  refine ⟨fun _ _ _ => rfl, fun s hempty => ⟨tick s, by simp [step, hempty], ?_⟩⟩
  by_cases hmode : s.supply.mode = .standby
  · rw [tick_of_standby hmode]
    exact ⟨hempty, by rw [if_pos hmode], rfl, rfl, rfl, fun _ => rfl, fun _ => rfl, fun p n h => by rw [if_pos hmode, h]⟩
  · have hpos (a : Axis) : ((tickAwake s).tracker a).pos = (s.tracker a).pos := by rw [tickAwake_tracker]; rfl
    have hdead (p : PairNo) (n : Nat) (h : (s.pair p).dead = some n) : ((tickAwake s).pair p).dead = some (n - 1) := by
      rw [tickAwake_pair]; simp [Pair.tick, h, Timer.tick]
    rcases tick_of_awake hmode with htick | htick <;> rw [htick] <;> simp only [hmode, if_false]
    · exact ⟨hempty, rfl, rfl, rfl, rfl, hpos, fun h => h.elim, hdead⟩
    · exact ⟨hempty, rfl, rfl, rfl, rfl, hpos, fun h => h.elim, hdead⟩

/-! ### The reset state -/

/-- Settles O10, by the values of the reset state. -/
theorem resetMeetsInvariants : Obligations.ResetMeetsInvariants := by
  have hchan (c : Channel) : State.reset.chan c = Chan.reset := by simp [State.chan, State.reset, Drive.reset]
  have hpair (p : PairNo) : State.reset.pair p = Pair.reset := by simp [State.pair, State.reset, Drive.reset]
  have hlamp (l : Lamp) : State.reset.lamp l = ⟨.untested, false⟩ := by simp [State.lamp, State.reset, Beacon.reset]
  have haxis (a : Axis) : State.reset.axisRec? a = none := by cases a <;> rfl
  refine ⟨⟨by decide, by decide, by decide⟩, fun p => .inl (by rw [hchan]; rfl), ⟨fun _ => ?_, ?_, ?_⟩, ?_, fun g => by cases g <;> decide,
    fun a r h => by simp [haxis] at h, rfl, rfl, rfl, rfl, rfl, rfl, rfl, rfl, rfl, rfl, rfl, fun a => by cases a <;> decide,
    fun l => by rw [hlamp], fun p => by cases p <;> rfl⟩
  · exact ⟨fun c => by rw [hchan]; rfl, fun p => by rw [hpair]; rfl, rfl, rfl, rfl, by simp [State.reset, Sequencer.reset], rfl, rfl⟩
  · exact fun h => absurd rfl h
  · exact fun h => absurd rfl h
  · exact ⟨by decide, by decide, by simp [State.reset, Sequencer.reset], by decide, by decide, by decide⟩

/-! ### The valve map -/

/-- R110: the rounded part of the span that a demand names does not shrink with the demand, and is the span for 1000. -/
theorem opening_mono (r : ChannelRec) {f f' : Nat} (h : f ≤ f') : opening r f ≤ opening r f' := by
  unfold opening
  have : f * (r.hi - r.lo) ≤ f' * (r.hi - r.lo) := Nat.mul_le_mul_right _ h
  split <;> split <;> omega

theorem opening_full (r : ChannelRec) (hlohi : r.lo < r.hi) : opening r 1000 = r.hi := by
  simp [opening]
  omega

theorem onTime_mono (r : ChannelRec) {o o' : Nat} (h : o ≤ o') : onTime r o ≤ onTime r o' := by
  have : o * r.period ≤ o' * r.period := Nat.mul_le_mul_right _ h
  unfold onTime
  omega

theorem onTime_full (r : ChannelRec) : onTime r 1000 = r.period := by
  unfold onTime
  omega

/-- Settles O54: the ends of the map and its monotonicity bound it. -/
theorem valveMapOpensBetweenItsEnds : Obligations.ValveMapOpensBetweenItsEnds := by
  intro r f o hlohi _ hf ho
  have hlow (hne : f ≠ 0) : r.lo ≤ opening r f := by simp [opening, hne]
  have hhigh : opening r f ≤ r.hi := opening_full r hlohi ▸ opening_mono r hf
  refine ⟨rfl, fun hne => if_neg hne, fun hne => ⟨hlow hne, hhigh⟩, fun hzero => ?_, opening_full r hlohi, rfl,
    onTime_full r, onTime_full r ▸ onTime_mono r ho, fun f' hle _ => opening_mono r hle⟩
  by_cases hne : f = 0
  · exact .inl hne
  · exact .inr (by have := hlow hne; omega)

/-! ### The locked sections -/

theorem lockedWrite_of_locked {s : State} (h : s.fitment.locked = true) (checks : List Bool) (write : State → State) :
    lockedWrite checks write s = (s, .no .locked) := if_pos h

/-- R173: no request to an owner changes a locked section of a LOCKED fitment. -/
theorem IsOwner.lockedSections {f : State → State × Reply} (hf : IsOwner f) {s : State} (h : s.fitment.locked = true) :
    (f s).1.fitment.lockedSections = s.fitment.lockedSections := by
  cases hf with
  | fitPattern r =>
    unfold fitPatternRequest
    split
    · refine openWrite_outcome (P := fun t => t.fitment.lockedSections = s.fitment.lockedSections) rfl ?_
      rw [(adoptPattern_frame _ _).2.2.1]
      rfl
    · rfl
  | fitScene r =>
    refine openWrite_outcome (P := fun t => t.fitment.lockedSections = s.fitment.lockedSections) rfl ?_
    rw [(rederiveAll_frame _ _).2.2.1]
    rfl
  | fitAxis r =>
    unfold fitAxisRequest
    split <;> rw [lockedWrite_of_locked h]
  | fitInterlock r =>
    unfold fitInterlockRequest
    split
    · rw [lockedWrite_of_locked h]
    · rfl
  | fitEquipment r => rw [fitEquipmentRequest, lockedWrite_of_locked h]
  | fitChannel r => rw [fitChannelRequest, lockedWrite_of_locked h]
  | fitFlow r => rw [fitFlowRequest, lockedWrite_of_locked h]
  | fitProfile r => rw [fitProfileRequest, lockedWrite_of_locked h]
  | fitTiming r => rw [fitTimingRequest, lockedWrite_of_locked h]
  | fitPolicy r => rw [fitPolicyRequest, lockedWrite_of_locked h]
  | fitLamps r => rw [fitLampsRequest, lockedWrite_of_locked h]
  | fitLock => rw [fitLockRequest, if_pos h]
  | submit | cancel | vehicle | clearFaults | groupReset | stopReset | prove | fitRead | retire | queryOrder | queryTable
  | queryAxes | queryStatus | queryFaults | queryProve | beaconOverride | setOutput | standby => simp

theorem IsRoutine.fitment {f : State → State} (hf : IsRoutine f) (s : State) : (f s).fitment = s.fitment := by
  cases hf <;> simp

theorem Happens.lockedSections {s a : State} (hhappens : Happens s a) (h : s.fitment.locked = true) :
    a.fitment.lockedSections = s.fitment.lockedSections := by
  cases hhappens with
  | request hf => simpa using hf.lockedSections h
  | routine hf => rw [hf.fitment]
  | requestHandedOn =>
    refine (handOn_outcome (P := fun t => t.fitment.locked = true ∧ t.fitment.lockedSections = s.fitment.lockedSections)
      ⟨h, rfl⟩ (fun _ _ _ => ⟨h, rfl⟩) (fun u f hf _ hu => ?_) (fun _ _ _ _ hu => by simpa using hu)).2
    have hsame := (hf.lockedSections hu.1).trans hu.2
    exact ⟨(congrArg Fitment.locked hsame).trans h, hsame⟩
  | receiver | enableTakenLow | enableTakenHigh | lineBreak | standbyEntry | frameSent | pulseCounted
  | homeSwitchDebounceExpiry | loopOpening | loopClosing | releaseTimerExpiry | coilShortDetected | provingDriveStart
  | provingDriveEnd => simp

/-- Settles O9, by the cases of a command's effect. -/
theorem lockedFitmentStays : Obligations.LockedFitmentStays := by
  intro c s t hlocked hc hexec
  obtain ⟨u, hexec', houtcome⟩ := exec_next c s
  obtain rfl : u = t := by simpa [hexec] using hexec'.symm
  cases houtcome with
  | powerOn hpower => exact absurd hpower hc
  | idle => rfl
  | effect heffect => simpa using heffect.happens.lockedSections hlocked

end Sys2Proof.Machine
end

section
/-! The receiver: what each byte does (O15), how a frame is judged or lost (O16), and that it reads every frame (O17). -/

namespace Sys2Proof.Machine

/-- The command of a receiver event in RUN: its effect on the link is all that quiet shows. -/
theorem receiverEvent_next (f : Link → Link) {s : State} {l : Link} (h : s.supply.mode = .run) (hlink : f s.link = l) :
    ∃ t, runEvent (fun s => s.modLink f) s = .next t ∧ t.quiet = { s with link := l }.quiet :=
  hlink ▸ runEvent_next (fun s => s.modLink f) h

/-! ### The receiver's operations -/

theorem Link.judge_of_not_held {l : Link} (h : l.held = false) : l.judge = l := by simp [Link.judge, h]

theorem Link.byte_of_not_held {l : Link} (h : l.held = false) (b : Byte) : l.byte b = l.assemble b := by
  rw [Link.byte, Link.judge_of_not_held h]

theorem Link.held_of_rx {l : Link} (h : l.rx ≠ .check) : l.held = false := by simp [Link.held, h]

theorem Link.held_of_rxCheck {l : Link} (h : l.rxCheck.length ≠ 2) : l.held = false := by simp [Link.held, h]

theorem Link.held_of_complete {l : Link} (hrx : l.rx = .check) (hcheck : l.rxCheck.length = 2) : l.held = true := by
  simp [Link.held, hrx, hcheck]

theorem Link.assemble_hunt {l : Link} (h : l.rx = .hunt) (b : Byte) :
    l.assemble b =
      if b = 0xC3 then { l with rx := .length, gap := some 5, rxLen := 0, rxBody := [], rxCheck := [] } else l := by
  unfold Link.assemble
  rw [h]
  rfl

theorem Link.assemble_length {l : Link} (h : l.rx = .length) (b : Byte) :
    l.assemble b =
      if 2 ≤ b.toNat ∧ b.toNat ≤ 250 then { l with rx := .body, gap := some 5, rxLen := b, rxBody := [], rxCheck := [] }
      else l.hunt := by
  unfold Link.assemble
  rw [h]
  simp only [inRange, Bool.and_eq_true, decide_eq_true_eq]
  rfl

theorem Link.assemble_body {l : Link} (h : l.rx = .body) (b : Byte) :
    l.assemble b =
      { l with
        rx := if l.rxBody.length + 1 < l.rxLen.toNat then .body else .check
        gap := some 5
        rxBody := l.rxBody ++ [b] } := by
  unfold Link.assemble
  rw [h]
  simp only [Link.restartGap, List.length_append, List.length_singleton]
  split
  · rw [← h]; rfl
  · rfl

theorem Link.assemble_check {l : Link} (h : l.rx = .check) (b : Byte) :
    l.assemble b = { l with gap := if l.rxCheck = [] then some 5 else none, rxCheck := l.rxCheck ++ [b] } := by
  unfold Link.assemble Link.checkByte
  rw [h]
  cases hcheck : l.rxCheck <;> rfl

/-- Settles O15, by the state of the receiver. -/
theorem receiverAssemblesFrames : Obligations.ReceiverAssemblesFrames := by
  intro b s hrun hheld
  refine receiverEvent_next (Link.byte b) hrun ?_
  rw [Link.byte_of_not_held hheld]
  cases hrx : s.link.rx with
  | hunt => exact Link.assemble_hunt hrx b
  | length => exact Link.assemble_length hrx b
  | body => exact Link.assemble_body hrx b
  | check => exact Link.assemble_check hrx b

/-! ### A complete frame -/

/-- The frame that the body of a complete frame spells. -/
theorem Link.frame_of_body {l : Link} {kind tag : Byte} {payload : List Byte} (h : l.rxBody = kind :: tag :: payload) :
    l.frame = ⟨kind, tag, payload⟩ := by simp [Link.frame, h]

/-- Settles O16, by the four ends of a frame. -/
theorem framesAreTakenOrDiscarded : Obligations.FramesAreTakenOrDiscarded := by
  intro s hrun
  refine ⟨fun kind tag payload hrx hcheck hbody hmatch => ?_, fun hrx hcheck hwrong => ?_, fun hgap => ?_, fun hheld => ?_⟩
  · refine receiverEvent_next Link.complete hrun ?_
    have hok : s.link.checkOk = true := by simp [Link.checkOk, hmatch]
    simp only [Link.complete, Link.held_of_complete hrx hcheck, hok, Bool.and_self, if_true, Link.take,
      Link.frame_of_body hbody]
    rfl
  · refine receiverEvent_next Link.mismatch hrun ?_
    have hbad : s.link.checkOk = false := by simp [Link.checkOk, hwrong]
    simp only [Link.mismatch, Link.held_of_complete hrx hcheck, hbad, Bool.not_false, Bool.and_self, if_true]
    rfl
  · refine receiverEvent_next Link.gapOut hrun ?_
    rw [Link.gapOut, if_pos (Option.isSome_iff_ne_none.mpr hgap)]
    rfl
  · refine receiverEvent_next (fun l => l.judge.hunt) hrun ?_
    rw [Link.judge_of_not_held hheld]
    rfl

/-! ### Every frame -/

/-- R183: the bytes of the body, up to LEN, leave the receiver in CHECK with all of them held. -/
theorem Link.reads_body (bs : List Byte) : ∀ l : Link, l.rx = .body → bs ≠ [] → l.rxBody.length + bs.length = l.rxLen.toNat →
    bs.foldl (fun l b => l.byte b) l = { l with rx := .check, gap := some 5, rxBody := l.rxBody ++ bs } := by
  induction bs with
  | nil => exact fun _ _ hne => absurd rfl hne
  | cons b rest ih =>
    intro l hrx _ hlength
    have hbyte := (Link.byte_of_not_held (Link.held_of_rx (by simp [hrx])) b).trans (Link.assemble_body hrx b)
    rw [List.foldl_cons, hbyte]
    rw [List.length_cons] at hlength
    rcases List.eq_nil_or_concat' rest with rfl | ⟨_, _, hrest⟩
    · simp only [List.length_nil] at hlength
      rw [if_neg (by omega)]
      rfl
    · have hne : rest ≠ [] := by simp [hrest]
      have hpos : 0 < rest.length := List.length_pos_iff.mpr hne
      rw [if_pos (by omega), ih _ rfl hne (by simp only [List.length_append, List.length_singleton]; omega)]
      simp

/-- R183: the two check bytes leave the receiver with both of them held. -/
theorem Link.reads_check {l : Link} (hrx : l.rx = .check) (hcheck : l.rxCheck = []) (b c : Byte) :
    (l.byte b).byte c = { l with gap := none, rxCheck := [b, c] } := by
  have hfirst := (Link.byte_of_not_held (Link.held_of_rxCheck (by simp [hcheck])) b).trans (Link.assemble_check hrx b)
  rw [hfirst, Link.byte_of_not_held (Link.held_of_rxCheck (by simp [hcheck])),
    Link.assemble_check (by exact hrx)]
  simp [hcheck]

/-- Settles O17: the sync byte, LEN, the body by induction, and the two check bytes. -/
theorem receiverReadsEveryFrame : Obligations.ReceiverReadsEveryFrame := by
  intro f l hlength hrx
  have hbody : f.body.length = f.payload.length + 2 := by simp [Frame.body]
  have hlen : (BitVec.ofNat 8 f.body.length).toNat = f.body.length := by
    rw [BitVec.toNat_ofNat]
    exact Nat.mod_eq_of_lt (by omega)
  have hsync := (Link.byte_of_not_held (Link.held_of_rx (by simp [hrx])) 0xC3#8).trans (Link.assemble_hunt hrx _)
  rw [if_pos (by decide)] at hsync
  have hcount (l : Link) (h : l.rx = .length) := (Link.byte_of_not_held (Link.held_of_rx (by simp [h]))
    (BitVec.ofNat 8 f.body.length)).trans (Link.assemble_length h _)
  have hwire : f.wire.foldl (fun l b => l.byte b) l =
      { l with rx := .check, gap := none, rxLen := BitVec.ofNat 8 f.body.length, rxBody := f.body,
               rxCheck := checkBytes (BitVec.ofNat 8 f.body.length :: f.body) } := by
    simp only [Frame.wire, Config.syncByte, b8, List.foldl_cons, List.cons_append, List.nil_append, List.foldl_append]
    rw [hsync, hcount _ rfl, if_pos (by omega), Link.reads_body f.body _ rfl (by simp [Frame.body]) (by simp [hlen])]
    simp only [checkBytes, List.foldl_cons, List.foldl_nil]
    rw [Link.reads_check rfl rfl]
    rfl
  rw [hwire]
  exact ⟨Link.held_of_complete rfl rfl, by simp [Link.checkOk], Link.frame_of_body rfl, rfl⟩

end Sys2Proof.Machine
end

section
/-! What the operations of an event keep of the invariants O4 to O8 speak of: one relation, kept by each operation. -/

namespace Sys2Proof.Machine

/-! ### The relation -/

/-- Every record of the Order Table is ENDED. -/
def State.allEnded (s : State) : Prop := ∀ o ∈ s.seq.orders, o.state = .ended

/-- R67: the pump is OFF and no claim is lodged. -/
def State.flowOff (s : State) : Prop := s.flow.pump = .off ∧ s.flow.waiting = [] ∧ s.flow.granted = []

/-- R119: every channel is IDLE and no pair holds a command. -/
def State.driveOff (s : State) : Prop := (∀ c, (s.chan c).state = .idle) ∧ ∀ p, (s.pair p).waiting = none

/-- The numbers of the records, in submission order. -/
def State.numbers (s : State) : List Nat := s.seq.orders.map (·.number)

/-- Table 0-1, record by record: two records of one group that are active are the same. -/
def State.uniqueActive (s : State) : Prop :=
  ∀ x ∈ s.seq.orders, ∀ y ∈ s.seq.orders, x.state.isActive = true → y.state.isActive = true → x.group = y.group →
    x.number = y.number

/-- What the operations of an event keep. What they keep of the orders is said under a condition G, which is True but in the
middle of a phase start, where it says that a number names one record. -/
structure Keeps (G : Prop) (s t : State) : Prop where
  fitment : t.fitment = s.fitment
  supply : t.supply = s.supply
  estop : t.operator.estop = s.operator.estop
  prove : t.drive.prove = s.drive.prove
  places : t.link.places = s.link.places
  nextNumber : t.seq.nextNumber = s.seq.nextNumber
  numbers : t.numbers = s.numbers
  exclusive : s.pairsExclusive → t.pairsExclusive
  remainders : s.remaindersSound → t.remaindersSound
  ended : G → s.allEnded → t.allEnded
  flowOff : G → s.allEnded → s.flowOff → t.flowOff
  driveOff : s.driveTakes = false → s.driveOff → t.driveOff
  unique : G → s.numbers.Nodup → s.uniqueActive → t.uniqueActive

variable {G : Prop}

theorem Keeps.refl (s : State) : Keeps G s s :=
  ⟨rfl, rfl, rfl, rfl, rfl, rfl, rfl, id, id, fun _ => id, fun _ _ => id, fun _ => id, fun _ _ => id⟩

theorem Keeps.driveTakes {s t : State} (h : Keeps G s t) : t.driveTakes = s.driveTakes := by
  simp only [State.driveTakes, h.estop, h.supply]

theorem Keeps.trans {s t u : State} (h : Keeps G s t) (h' : Keeps G t u) : Keeps G s u where
  fitment := h'.fitment.trans h.fitment
  supply := h'.supply.trans h.supply
  estop := h'.estop.trans h.estop
  prove := h'.prove.trans h.prove
  places := h'.places.trans h.places
  nextNumber := h'.nextNumber.trans h.nextNumber
  numbers := h'.numbers.trans h.numbers
  exclusive := h'.exclusive ∘ h.exclusive
  remainders := h'.remainders ∘ h.remainders
  ended hG hended := h'.ended hG (h.ended hG hended)
  flowOff hG hended hoff := h'.flowOff hG (h.ended hG hended) (h.flowOff hG hended hoff)
  driveOff htakes hoff := h'.driveOff (h.driveTakes.trans htakes) (h.driveOff htakes hoff)
  unique hG hnodup hunique := h'.unique hG (h.numbers ▸ hnodup) (h.unique hG hnodup hunique)

theorem Keeps.foldl {α : Type} {f : State → α → State} (h : ∀ s x, Keeps G s (f s x)) (xs : List α) (s : State) :
    Keeps G s (xs.foldl f s) := by
  induction xs generalizing s with
  | nil => exact .refl s
  | cons x rest ih => exact (h s x).trans (ih _)

/-- What Keeps reads of a state. -/
def State.core (s : State) :=
  (s.fitment, s.supply, s.operator.estop, s.drive, s.link.places, s.seq.orders, s.seq.nextNumber, s.flow,
    fun a => (s.tracker a).rem)

theorem Keeps.of_core {s t : State} (h : t.core = s.core) : Keeps G s t := by
  simp only [State.core, Prod.mk.injEq] at h
  obtain ⟨hfitment, hsupply, hestop, hdrive, hplaces, horders, hnext, hflow, hrem⟩ := h
  refine ⟨hfitment, hsupply, hestop, by rw [hdrive], hplaces, hnext, by rw [State.numbers, horders]; rfl, ?_, ?_, ?_, ?_, ?_, ?_⟩
  · simp only [State.pairsExclusive, State.chan, hdrive, imp_self]
  · intro hsound a r hr
    rw [congrFun hrem a]
    exact hsound a r (by simpa only [State.axisRec?, hfitment] using hr)
  · simp only [State.allEnded, horders, imp_self, implies_true]
  · simp only [State.flowOff, hflow, imp_self, implies_true]
  · simp only [State.driveOff, State.chan, State.pair, hdrive, imp_self, implies_true]
  · simp only [State.uniqueActive, horders, imp_self, implies_true]

/-! ### Faults, scenes, timers and notices: nothing that Keeps reads -/

theorem latch_keeps (code : FaultCode) (x : Subject) (s : State) : Keeps G s (latch code x s) := .of_core rfl

theorem raise_keeps (code : FaultCode) (x : Subject) (s : State) : Keeps G s (raise code x s) := by
  unfold raise
  dsimp only
  split <;> exact .of_core rfl

theorem raiseOnce_keeps (code : FaultCode) (x : Subject) (s : State) : Keeps G s (raiseOnce code x s) :=
  (raise_keeps code x s).trans (latch_keeps code x _)

theorem removeFaults_keeps (p : Entry → Bool) (s : State) : Keeps G s (removeFaults p s) := by
  unfold removeFaults
  dsimp only
  split <;> exact .of_core rfl

theorem reportScene_keeps (i : Fin 8) (v : Bool) (s : State) : Keeps G s (reportScene i v s) :=
  .of_core (by simp [State.core, State.tracker])

theorem reportMoving_keeps (s : State) : Keeps G s (reportMoving s) := (reportScene_keeps ..).trans (reportScene_keeps ..)

theorem reportFaultScene_keeps (s : State) : Keeps G s (reportFaultScene s) := reportScene_keeps ..

theorem reportStopScene_keeps (s : State) : Keeps G s (reportStopScene s) := reportScene_keeps ..

theorem reportWindows_keeps (s : State) : Keeps G s (reportWindows s) :=
  (reportScene_keeps ..).trans ((reportScene_keeps ..).trans (reportScene_keeps ..))

theorem modCtl_keeps (g : Group) (f : GroupCtl → GroupCtl) (s : State) : Keeps G s (s.modCtl g f) := .of_core rfl

theorem setRun_keeps (g : Group) (r : Option Run) (s : State) : Keeps G s (s.setRun g r) := .of_core rfl

theorem modLine_keeps (l : Line) (f : LineState → LineState) (s : State) : Keeps G s (s.modLine l f) := .of_core rfl

theorem setHand_keeps (h : Fin 2) (x : TwoHand) (s : State) : Keeps G s (s.setHand h x) := .of_core rfl

theorem endRun_keeps (g : Group) (s : State) : Keeps G s (endRun g s) := .of_core (by simp [State.core, State.tracker])

theorem beginRun_keeps (o : Order) (p : Phase) (c : MoveClass) (share : Nat) (s : State) :
    Keeps G s (beginRun o p c share s) := setRun_keeps ..

theorem stopTimers_keeps (g : Group) (s : State) : Keeps G s (stopTimers g s) := modCtl_keeps ..

/-! ### Trackers -/

/-- R72: a change of a tracker that leaves its remainder as it is. -/
theorem modTracker_keeps {a : Axis} {f : Tracker → Tracker} {s : State} (h : (f (s.tracker a)).rem = (s.tracker a).rem) :
    Keeps G s (s.modTracker a f) := by
  refine .of_core ?_
  have hrem : (fun b => ((s.modTracker a f).tracker b).rem) = fun b => (s.tracker b).rem := by
    funext b
    by_cases hab : a = b
    · subst hab; rw [State.modTracker_tracker_self, h]
    · rw [State.modTracker_tracker_ne s hab]
  simp [State.core, hrem]

/-- R72: a change of the tracker of a present record that leaves its remainder below DEN. -/
theorem modTracker_keeps_of_rem {a : Axis} {r : AxisRec} {f : Tracker → Tracker} {s : State} (hr : s.axisRec? a = some r)
    (h : s.remaindersSound → (f (s.tracker a)).rem < r.den) : Keeps G s (s.modTracker a f) where
  fitment := rfl
  supply := rfl
  estop := rfl
  prove := rfl
  places := rfl
  nextNumber := rfl
  numbers := rfl
  exclusive := id
  remainders := by
    intro hsound b q hq
    refine ⟨(hsound b q hq).1, ?_⟩
    by_cases hab : a = b
    · subst hab
      obtain rfl : r = q := Option.some.inj (hr.symm.trans hq)
      rw [State.modTracker_tracker_self]
      exact h hsound
    · rw [State.modTracker_tracker_ne s hab]
      exact (hsound b q hq).2
  ended _ := id
  flowOff _ _ := id
  driveOff _ := id
  unique _ _ := id

theorem recordParked_keeps (a : Axis) (s : State) : Keeps G s (recordParked a s) :=
  modTracker_keeps (by split <;> rfl)

theorem becomeIdle_keeps (g : Group) (s : State) : Keeps G s (becomeIdle g s) := .foldl (fun s a => recordParked_keeps a s) _ s

theorem ceaseIdle_keeps (g : Group) (s : State) : Keeps G s (ceaseIdle g s) := .foldl (fun _ _ => modTracker_keeps rfl) _ s

theorem idleAfter_keeps (b s : State) : Keeps G s (idleAfter b s) :=
  .foldl (fun s g => by split <;> [exact .refl s; exact becomeIdle_keeps g s]) _ s

/-! ### The Drive Unit -/

/-- An operation of the Drive Unit: it changes channels and pairs alone, besides the Fault Table and the count of free
values. -/
theorem Keeps.of_drive {s t : State} (h : { t with drive := s.drive, faults := s.faults, free := s.free } = s)
    (hprove : t.drive.prove = s.drive.prove) (hexclusive : s.pairsExclusive → t.pairsExclusive)
    (hoff : s.driveTakes = false → s.driveOff → t.driveOff) : Keeps G s t := by
  have hfitment := congrArg State.fitment h
  have hsupply := congrArg State.supply h
  have hoperator := congrArg State.operator h
  have hlink := congrArg State.link h
  have hseq := congrArg State.seq h
  have hflow := congrArg State.flow h
  have htrackers := congrArg State.trackers h
  dsimp only at hfitment hsupply hoperator hlink hseq hflow htrackers
  refine ⟨hfitment, hsupply, by rw [hoperator], hprove, by rw [hlink], by rw [hseq], by simp only [State.numbers, hseq],
    hexclusive, ?_, ?_, ?_, hoff, ?_⟩
  · simp only [State.remaindersSound, State.axisRec?, State.tracker, hfitment, htrackers, imp_self]
  · simp only [State.allEnded, hseq, imp_self, implies_true]
  · simp only [State.flowOff, hflow, imp_self, implies_true]
  · simp only [State.uniqueActive, hseq, imp_self, implies_true]

/-- What a change of one channel leaves of its state, and of the others. -/
theorem modChan_state (c d : Channel) (f : Chan → Chan) (s : State) :
    ((s.modChan c f).chan d).state = if c = d then (f (s.chan c)).state else (s.chan d).state := by
  split
  · rename_i h; subst h; rw [State.modChan_chan_self]
  · rename_i h; rw [State.modChan_chan_ne s h]

theorem modPair_waiting (p q : PairNo) (f : Pair → Pair) (s : State) :
    ((s.modPair p f).pair q).waiting = if p = q then (f (s.pair p)).waiting else (s.pair q).waiting := by
  split
  · rename_i h; subst h; rw [State.modPair_pair_self]
  · rename_i h; rw [State.modPair_pair_ne s h]

theorem modPair_chan (p : PairNo) (f : Pair → Pair) (s : State) (c : Channel) : (s.modPair p f).chan c = s.chan c := rfl

theorem modChan_pair (c : Channel) (f : Chan → Chan) (s : State) (p : PairNo) : (s.modChan c f).pair p = s.pair p := rfl

/-- R115: a change of a channel that does not take it out of IDLE. -/
theorem modChan_keeps {c : Channel} {f : Chan → Chan} {s : State}
    (h : (s.chan c).state = .idle → (f (s.chan c)).state = .idle) : Keeps G s (s.modChan c f) := by
  have hidle (d : Channel) (hd : (s.chan d).state = .idle) : ((s.modChan c f).chan d).state = .idle := by
    rw [modChan_state]
    split
    · rename_i hcd; subst hcd; exact h hd
    · exact hd
  exact .of_drive rfl rfl (fun hexcl p => (hexcl p).imp (hidle _) (hidle _)) fun _ hoff => ⟨fun d => hidle d (hoff.1 d), hoff.2⟩

/-- R115: a change of a pair that gives it no waiting command. -/
theorem modPair_keeps {p : PairNo} {f : Pair → Pair} {s : State} (h : (s.pair p).waiting = none → (f (s.pair p)).waiting = none) :
    Keeps G s (s.modPair p f) := by
  refine .of_drive rfl rfl id fun _ hoff => ⟨hoff.1, fun q => ?_⟩
  rw [modPair_waiting]
  split
  · rename_i hpq; subst hpq; exact h (hoff.2 p)
  · exact hoff.2 q

/-- Uses of free values are nothing that Keeps reads. -/
theorem free_keeps (n : Nat) (s : State) : Keeps G s { s with free := n } := .of_core rfl

theorem startDead_keeps (p : PairNo) (m : Option Member) (s : State) : Keeps G s (startDead p m s) := by
  unfold startDead
  split
  · exact modPair_keeps id
  · exact (modPair_keeps (p := p) (s := s) id).trans (free_keeps _ _)

theorem clearWaiting_keeps (p : PairNo) (m : Member) (s : State) : Keeps G s (clearWaiting p m s) :=
  modPair_keeps fun h => by simp [h]

theorem normalEnd_keeps (c : Channel) (s : State) : Keeps G s (normalEnd c s) := by
  have hreset : Keeps G s (latch .coilOpen (.channel c) (s.modChan c fun _ => Chan.reset)) :=
    (modChan_keeps fun _ => rfl).trans (latch_keeps ..)
  unfold normalEnd
  dsimp only
  split
  · exact hreset.trans (startDead_keeps ..)
  · exact hreset

theorem release_keeps (c : Channel) (s : State) : Keeps G s (release c s) := by
  have hreset : Keeps G s (latch .coilOpen (.channel c) (s.modChan c fun _ => Chan.reset)) :=
    (modChan_keeps fun _ => rfl).trans (latch_keeps ..)
  unfold release
  dsimp only
  split
  · exact hreset.trans ((clearWaiting_keeps ..).trans (startDead_keeps ..))
  · exact hreset

theorem releaseAll_keeps (cs : List Channel) (s : State) : Keeps G s (releaseAll cs s) := .foldl (fun s c => release_keeps c s) cs s

theorem boundary_keeps (c : Channel) (s : State) : Keeps G s (boundary c s) := by
  unfold boundary
  dsimp only
  split
  · exact .refl s
  · exact modChan_keeps fun h => h
  · exact normalEnd_keeps c s

theorem memberChannel_ne (p q : PairNo) : memberChannel p .even ≠ memberChannel q .odd := by
  simp only [memberChannel, ne_eq, Fin.mk.injEq]
  omega

theorem memberChannel_inj {p q : PairNo} {m : Member} (h : memberChannel p m = memberChannel q m) : p = q := by
  cases m <;> simp only [memberChannel, Fin.mk.injEq] at h <;> exact Fin.ext (by omega)

/-- R115: a channel may leave IDLE while the other member of its pair is IDLE. -/
theorem pairsExclusive_modChan {p : PairNo} {m : Member} {f : Chan → Chan} {s : State}
    (hother : (s.chan (memberChannel p (otherMember m))).state = .idle) (h : s.pairsExclusive) :
    (s.modChan (memberChannel p m) f).pairsExclusive := by
  intro q
  by_cases hpq : p = q
  · subst hpq
    cases m with
    | even => exact .inr (by rw [modChan_state, if_neg (memberChannel_ne p p)]; exact hother)
    | odd => exact .inl (by rw [modChan_state, if_neg (memberChannel_ne p p).symm]; exact hother)
  · have hne (n : Member) : memberChannel p m ≠ memberChannel q n := by
      intro heq
      cases m <;> cases n
      · exact hpq (memberChannel_inj heq)
      · exact memberChannel_ne _ _ heq
      · exact memberChannel_ne _ _ heq.symm
      · exact hpq (memberChannel_inj heq)
    rw [modChan_state, modChan_state, if_neg (hne _), if_neg (hne _)]
    exact h q

/-- R115: a channel starts while the other member of its pair is IDLE and the Drive Unit takes commands, or for a command that
waited. -/
theorem startChannel_keeps {p : PairNo} {m : Member} {s : State} (o : Nat)
    (hother : (s.chan (memberChannel p (otherMember m))).state = .idle) (h : s.driveTakes = true ∨ ¬ s.driveOff) :
    Keeps G s (startChannel (memberChannel p m) o s) :=
  .of_drive rfl rfl (pairsExclusive_modChan hother) fun hoff hdrive =>
    h.elim (fun ht => absurd (hoff.symm.trans ht) (by decide)) (absurd hdrive)

theorem holdCommand_keeps {p : PairNo} {m : Member} {s : State} (o : Nat) (h : s.driveTakes = true) :
    Keeps G s (holdCommand p m o s) :=
  .of_drive rfl rfl id fun hoff => absurd (hoff.symm.trans h) (by decide)

theorem command_keeps (p : PairNo) (m : Member) (o : Nat) {s : State} (h : s.driveTakes = true) :
    Keeps G s (command p m o s) := by
  unfold command commandIdle
  dsimp only
  split
  · split
    · exact clearWaiting_keeps ..
    split
    · exact holdCommand_keeps o h
    rename_i hidle
    have hother : (s.chan (memberChannel p (otherMember m))).state = .idle := by simpa using hidle
    split
    · split
      · exact (modPair_keeps fun _ => rfl).trans (startChannel_keeps o hother (.inl h))
      · exact holdCommand_keeps o h
    · exact (clearWaiting_keeps ..).trans (startChannel_keeps o hother (.inl h))
  · rename_i hrun
    split
    · exact modChan_keeps fun hidle => by simp [hrun] at hidle
    · exact (modChan_keeps fun hidle => hidle).trans (clearWaiting_keeps ..)
  · rename_i hending
    split
    · exact .refl s
    · exact (modChan_keeps fun hidle => by simp [hending] at hidle).trans (clearWaiting_keeps ..)

theorem demandCommand_keeps (c : Channel) (f : Nat) (s : State) : Keeps G s (demandCommand c f s) := by
  unfold demandCommand
  split
  · rename_i htakes _ _
    exact command_keeps _ _ _ htakes
  · exact .refl s

theorem sendDemands_keeps (ds : List (Channel × Nat)) (s : State) : Keeps G s (sendDemands ds s) :=
  .foldl (f := fun s (d : Channel × Nat) => demandCommand d.1 d.2 s) (fun s d => demandCommand_keeps d.1 d.2 s) ds s

theorem deadExpiry_keeps (p : PairNo) (s : State) : Keeps G s (deadExpiry p s) := by
  unfold deadExpiry
  dsimp only
  split
  · exact .refl s
  have hstop : Keeps G s (s.modPair p fun x => { x with dead := none, resumable := none }) := modPair_keeps id
  split
  · exact hstop
  · rename_i m o hwaiting
    split
    · rename_i hidle
      refine hstop.trans (.of_drive rfl rfl (fun hexcl => ?_) fun _ hoff => ?_)
      · exact pairsExclusive_modChan (s := State.modPair _ p _) hidle.2 hexcl
      · exact absurd (hwaiting.symm.trans (hoff.2 p)) (by simp)
    · exact hstop

theorem latch_ne_memberChannel (d : Side) (p : PairNo) (m : Member) : d.latch ≠ memberChannel p m := by
  have := p.isLt
  cases d <;> cases m <;> simp [Side.latch, memberChannel, Fin.ext_iff] <;> omega

theorem pulseRequest_keeps (d : Side) (n : Nat) (s : State) : Keeps G s (pulseRequest d n s) := by
  unfold pulseRequest
  split
  · rename_i h
    refine .of_drive rfl rfl (fun hexcl p => ?_) fun hoff => absurd (hoff.symm.trans h.1) (by decide)
    rw [modChan_state, modChan_state, if_neg (latch_ne_memberChannel d p _),
      if_neg (latch_ne_memberChannel d p _)]
    exact hexcl p
  · exact .refl s

end Sys2Proof.Machine
end
section
/-! What the operations on claims and orders keep: the second part of Keeps, up to the routine events. -/

namespace Sys2Proof.Machine

variable {G : Prop}

/-! ### Records that may be set to work -/

/-- The group of the record has no active order. -/
def State.groupFree (s : State) (g : Group) : Prop := ∀ y ∈ s.seq.orders, y.group = g → y.state.isActive = false

/-- R14, R15: an operation may take the record of number n to an active state: it is active already, or it is QUEUED and its
group has no active order. -/
def State.live (s : State) (n : Nat) : Prop :=
  ∃ x ∈ s.seq.orders, x.number = n ∧ (x.state.isActive = true ∨ x.state = .queued ∧ s.groupFree x.group)

/-- The record of number n is active. -/
def State.running (s : State) (n : Nat) : Prop := ∃ x ∈ s.seq.orders, x.number = n ∧ x.state.isActive = true

theorem State.running.live {s : State} {n : Nat} (h : s.running n) : s.live n := by
  obtain ⟨x, hx, hn, hactive⟩ := h
  exact ⟨x, hx, hn, .inl hactive⟩

theorem State.live.not_allEnded {s : State} {n : Nat} (h : s.live n) : ¬ s.allEnded := by
  obtain ⟨x, hx, -, hstate⟩ := h
  intro hended
  rw [hended x hx] at hstate
  simp [OrderState.isActive] at hstate

theorem State.live.of_orders {s t : State} {n : Nat} (h : s.live n) (ho : t.seq.orders = s.seq.orders) : t.live n := by
  unfold State.live State.groupFree
  rw [ho]
  exact h

theorem State.running.of_orders {s t : State} {n : Nat} (h : s.running n) (ho : t.seq.orders = s.seq.orders) : t.running n := by
  unfold State.running
  rw [ho]
  exact h

theorem State.mem_of_active {s : State} {g : Group} {o : Order} (h : s.active? g = some o) :
    o ∈ s.seq.orders ∧ o.group = g ∧ o.state.isActive = true := by
  have hp := List.find?_some h
  simp only [Bool.and_eq_true, decide_eq_true_eq] at hp
  exact ⟨List.mem_of_find?_eq_some h, hp.1, hp.2⟩

theorem State.mem_of_order {s : State} {n : Nat} {o : Order} (h : s.order? n = some o) : o ∈ s.seq.orders ∧ o.number = n :=
  ⟨List.mem_of_find?_eq_some h, by simpa using List.find?_some h⟩

theorem State.running_of_active {s : State} {g : Group} {o : Order} (h : s.active? g = some o) : s.running o.number :=
  let ⟨hmem, _, hactive⟩ := State.mem_of_active h
  ⟨o, hmem, rfl, hactive⟩

theorem State.running_of_order {s : State} {n : Nat} {o : Order} (h : s.order? n = some o) (hactive : o.state.isActive = true) :
    s.running n :=
  let ⟨hmem, hn⟩ := State.mem_of_order h
  ⟨o, hmem, hn, hactive⟩

theorem State.groupFree_of_active_none {s : State} {g : Group} (h : s.active? g = none) : s.groupFree g := by
  intro y hy hg
  simpa [hg] using List.find?_eq_none.1 h y hy

theorem State.active_none_of_allEnded {s : State} (h : s.allEnded) (g : Group) : s.active? g = none := by
  refine List.find?_eq_none.2 fun o ho => ?_
  simp [h o ho, OrderState.isActive]

theorem State.live_of_oldestQueued {s : State} {g : Group} {o : Order} (hfree : s.active? g = none)
    (h : s.oldestQueued? g = some o) : s.live o.number := by
  have hp := List.find?_some h
  simp only [Bool.and_eq_true, decide_eq_true_eq] at hp
  exact ⟨o, List.mem_of_find?_eq_some h, rfl, .inr ⟨hp.2, hp.1 ▸ State.groupFree_of_active_none hfree⟩⟩

/-- R6: with distinct numbers, a number names one record. -/
theorem State.eq_of_number {s : State} (hnodup : s.numbers.Nodup) {x y : Order} (hx : x ∈ s.seq.orders) (hy : y ∈ s.seq.orders)
    (h : x.number = y.number) : x = y := List.inj_on_of_nodup_map hnodup hx hy h

/-! ### Changes of an order -/

/-- A change of the record of number n that keeps its number and group, sets it to work only where it was at work or its group
has no active order, and does not bring it back from ENDED. -/
theorem modOrder_keeps {n : Nat} {f : Order → Order} {s : State} (hnumber : ∀ x, x.number = n → (f x).number = n)
    (hgroup : G → s.numbers.Nodup → ∀ x ∈ s.seq.orders, x.number = n → (f x).group = x.group)
    (hactive : G → s.numbers.Nodup → ∀ x ∈ s.seq.orders, x.number = n → (f x).state.isActive = true →
      x.state.isActive = true ∨ s.groupFree x.group)
    (hended : G → s.allEnded → ∀ x ∈ s.seq.orders, x.number = n → (f x).state = .ended) : Keeps G s (s.modOrder n f) where
  fitment := rfl
  supply := rfl
  estop := rfl
  prove := rfl
  places := rfl
  nextNumber := rfl
  numbers := by
    simp only [State.numbers, State.modOrder, List.map_map]
    refine List.map_congr_left fun x _ => ?_
    dsimp only [Function.comp]
    split
    · rename_i hx; rw [hnumber x hx, hx]
    · rfl
  exclusive := id
  remainders := id
  ended hG hall := by
    intro y hy
    obtain ⟨x, hx, rfl⟩ := List.mem_map.1 hy
    split
    · rename_i hn; exact hended hG hall x hx hn
    · exact hall x hx
  flowOff _ _ := id
  driveOff _ := id
  unique hG hnodup hunique := by
    have hone (x y : Order) (hx : x ∈ s.seq.orders) (hy : y ∈ s.seq.orders) (hn : x.number = n) (hm : y.number ≠ n)
        (hfx : (f x).state.isActive = true) (hya : y.state.isActive = true) (hg : (f x).group = y.group) : False := by
      rw [hgroup hG hnodup x hx hn] at hg
      rcases hactive hG hnodup x hx hn hfx with hxa | hfree
      · exact hm ((hunique x hx y hy hxa hya hg).symm.trans hn)
      · rw [hfree y hy hg.symm] at hya
        exact Bool.false_ne_true hya
    intro x' hx' y' hy' hxa hya hg
    obtain ⟨x, hx, rfl⟩ := List.mem_map.1 hx'
    obtain ⟨y, hy, rfl⟩ := List.mem_map.1 hy'
    by_cases hxn : x.number = n <;> by_cases hyn : y.number = n <;> simp only [hxn, hyn, if_true, if_false] at hxa hya hg ⊢
    · rw [hnumber x hxn, hnumber y hyn]
    · exact (hone x y hx hy hxn hyn hxa hya hg).elim
    · exact (hone y x hy hx hyn hxn hya hxa hg.symm).elim
    · exact hunique x hx y hy hxa hya hg

/-- A change of a record that keeps its number, its group and its state. -/
theorem modOrder_keeps_of_state (n : Nat) {f : Order → Order} (s : State) (hnumber : ∀ x, (f x).number = x.number)
    (hgroup : ∀ x, (f x).group = x.group) (hstate : ∀ x, (f x).state = x.state) : Keeps G s (s.modOrder n f) :=
  modOrder_keeps (fun x hx => (hnumber x).trans hx) (fun _ _ x _ _ => hgroup x) (fun _ _ x _ _ h => .inl (hstate x ▸ h))
    fun _ hall x hx _ => (hstate x).trans (hall x hx)

/-- A change of a live record to an active state. -/
theorem setOrder_keeps {n : Nat} {f : Order → Order} {s : State} (hlive : G → s.live n) (hnumber : ∀ x, (f x).number = x.number)
    (hgroup : ∀ x, (f x).group = x.group) : Keeps G s (setOrder n f s) := by
  refine (modOrder_keeps (fun x hx => (hnumber x).trans hx) (fun _ _ x _ _ => hgroup x) (fun hG hnodup x hx hn _ => ?_)
    fun hG hall => absurd hall (hlive hG).not_allEnded).trans (reportMoving_keeps _)
  obtain ⟨y, hy, hyn, hstate⟩ := hlive hG
  obtain rfl := State.eq_of_number hnodup hx hy (hn.trans hyn.symm)
  exact hstate.imp id And.right

theorem setOrder_orders (n : Nat) (f : Order → Order) (s : State) :
    (setOrder n f s).seq.orders = s.seq.orders.map fun o => if o.number = n then f o else o := by
  simp [setOrder, State.modOrder]

/-- A change of records to active states leaves an active record active. -/
theorem State.running.setOrder {s : State} {m : Nat} (h : s.running m) (n : Nat) {f : Order → Order}
    (hnumber : ∀ x, (f x).number = x.number) (hactive : ∀ x, (f x).state.isActive = true) : (setOrder n f s).running m := by
  obtain ⟨x, hx, hn, ha⟩ := h
  unfold State.running
  rw [setOrder_orders]
  refine ⟨_, List.mem_map_of_mem hx, ?_⟩
  split
  · exact ⟨(hnumber x).trans hn, hactive x⟩
  · exact ⟨hn, ha⟩

/-- A change of a live record to an active state leaves it active. -/
theorem State.live.setOrder {s : State} {n : Nat} (h : s.live n) {f : Order → Order} (hnumber : ∀ x, (f x).number = x.number)
    (hactive : ∀ x, (f x).state.isActive = true) : (setOrder n f s).running n := by
  obtain ⟨x, hx, hn, -⟩ := h
  unfold State.running
  rw [setOrder_orders]
  refine ⟨_, List.mem_map_of_mem hx, ?_⟩
  rw [if_pos hn]
  exact ⟨(hnumber x).trans hn, hactive x⟩

/-! ### The Flow Arbiter -/

/-- An operation of the Flow Arbiter alone. -/
theorem Keeps.of_flow {s : State} (f : Flow → Flow) (h : G → s.allEnded → s.flowOff → (s.modFlow f).flowOff) :
    Keeps G s (s.modFlow f) where
  fitment := rfl
  supply := rfl
  estop := rfl
  prove := rfl
  places := rfl
  nextNumber := rfl
  numbers := rfl
  exclusive := id
  remainders := id
  ended _ := id
  flowOff := h
  driveOff _ := id
  unique _ _ := id

theorem tryGrant_of_waiting_nil {s : State} (h : s.flow.waiting = []) : (tryGrant s).1 = s := by
  unfold tryGrant
  split
  · rfl
  · rw [h]
    simp only [grantFrom, List.isEmpty_nil, if_true]
    rw [← h]

theorem tryGrant_keeps (s : State) : Keeps G s (tryGrant s).1 := by
  have hflow : (tryGrant s).1 = s.modFlow fun _ => (tryGrant s).1.flow := by
    unfold tryGrant
    dsimp only
    (repeat' split) <;> rfl
  rw [hflow]
  refine .of_flow _ fun _ _ hoff => ?_
  rw [tryGrant_of_waiting_nil hoff.2.1]
  exact hoff

theorem pumpOff_keeps (s : State) : Keeps G s (pumpOff s) := by
  unfold pumpOff
  split
  · exact .refl s
  · exact .of_flow _ fun _ _ hoff => ⟨rfl, hoff.2⟩

theorem enterRunOn_keeps {s : State} (h : s.flow.pump ≠ .off) : Keeps G s (enterRunOn s) := by
  unfold enterRunOn
  dsimp only
  split
  · exact pumpOff_keeps s
  · exact .of_flow _ fun _ _ hoff => absurd hoff.1 h

theorem withdrawClaim_keeps (n : Nat) (s : State) : Keeps G s (withdrawClaim n s).1 := by
  unfold withdrawClaim
  dsimp only
  split
  · have hgrant : Keeps G s (tryGrant (s.modFlow fun fl =>
        { fl with waiting := fl.waiting.filter (·.order != n), granted := fl.granted.filter (·.order != n) })).1 :=
      (Keeps.of_flow _ fun _ _ hoff => ⟨hoff.1, by simp [State.modFlow, hoff.2.1], by simp [State.modFlow, hoff.2.2]⟩).trans
        (tryGrant_keeps _)
    split
    · rename_i hrunning
      simp only [Bool.and_eq_true, decide_eq_true_eq] at hrunning
      exact hgrant.trans (enterRunOn_keeps (by simp [hrunning.2]))
    · exact hgrant
  · exact .refl s

theorem enterClaim_keeps (g : Group) (n : Nat) (c : MoveClass) {s : State} {m : Nat} (hlive : G → s.live m) :
    Keeps G s (enterClaim g n c s) := by
  unfold enterClaim
  split
  · exact .of_flow _ fun hG hall => absurd hall (hlive hG).not_allEnded
  · exact .refl s

theorem recomputeCapacity_keeps (s : State) : Keeps G s (recomputeCapacity s) := .of_flow _ fun _ _ => id

theorem emptyFlow_keeps (s : State) : Keeps G s (emptyFlow s) :=
  (Keeps.of_flow _ fun _ _ hoff => ⟨hoff.1, rfl, rfl⟩).trans (pumpOff_keeps _)

/-! ### Readiness and claims -/

theorem onReady_keeps (n share : Nat) (s : State) : Keeps G s (onReady n share s) := by
  unfold onReady
  split
  · exact .refl s
  · rename_i o ho
    split
    · rename_i hclaiming _ _
      have hrunning : s.running n := State.running_of_order ho (by rw [of_decide_eq_true hclaiming]; rfl)
      exact (beginRun_keeps ..).trans (setOrder_keeps (fun _ => (hrunning.of_orders (by simp)).live) (fun _ => rfl) fun _ => rfl)
    · exact .refl s

theorem State.running.onReady {s : State} {m : Nat} (h : s.running m) (n share : Nat) : (onReady n share s).running m := by
  unfold Sys2Proof.Machine.onReady
  split
  · exact h
  · split
    · exact (h.of_orders (by simp)).setOrder n (fun _ => rfl) fun _ => rfl
    · exact h

theorem reportReady_keeps (r : State × List (Nat × Nat)) : Keeps G r.1 (reportReady r) :=
  .foldl (f := fun s (x : Nat × Nat) => onReady x.1 x.2 s) (fun s x => onReady_keeps x.1 x.2 s) _ _

theorem State.running.reportReady {r : State × List (Nat × Nat)} {m : Nat} (h : r.1.running m) : (reportReady r).running m := by
  unfold Sys2Proof.Machine.reportReady
  generalize r.1 = s at h
  induction r.2 generalizing s with
  | nil => exact h
  | cons x rest ih => exact ih _ (h.onReady x.1 x.2)

theorem grantNow_keeps (s : State) : Keeps G s (grantNow s) := (tryGrant_keeps s).trans (reportReady_keeps _)

theorem withdraw_keeps (n : Nat) (s : State) : Keeps G s (withdraw n s) := (withdrawClaim_keeps n s).trans (reportReady_keeps _)

theorem State.running.withdraw {s : State} {m : Nat} (h : s.running m) (n : Nat) : (withdraw n s).running m :=
  State.running.reportReady (h.of_orders (by simp))

theorem lodge_keeps (o : Order) (c : MoveClass) {s : State} {m : Nat} (hlive : G → s.live m) : Keeps G s (lodge o c s) :=
  (enterClaim_keeps o.group o.number c hlive).trans (grantNow_keeps _)

theorem capacityEvent_keeps (s : State) : Keeps G s (capacityEvent s) := by
  unfold capacityEvent
  dsimp only
  split
  · exact recomputeCapacity_keeps s
  · exact (recomputeCapacity_keeps s).trans (grantNow_keeps _)

/-! ### The end of an order -/

theorem reportCleared_keeps (old : Inhibits) (s : State) : Keeps G s (reportCleared old s) := by
  unfold reportCleared
  dsimp only
  split
  · exact (grantNow_keeps s).trans (reportFaultScene_keeps _)
  · exact reportFaultScene_keeps s

theorem reportCompletion_keeps (o : Order) (s : State) : Keeps G s (reportCompletion o s) :=
  (removeFaults_keeps _ s).trans (reportCleared_keeps _ _)

theorem noticeOrder_keeps (s : State) : Keeps G s s.noticeOrder := .of_core rfl

/-- A change of a record to ENDED. -/
theorem setOrder_ended_keeps (n : Nat) {f : Order → Order} (s : State) (hnumber : ∀ x, (f x).number = x.number)
    (hgroup : ∀ x, (f x).group = x.group) (hstate : ∀ x, (f x).state = .ended) : Keeps G s (setOrder n f s) :=
  (modOrder_keeps (fun x hx => (hnumber x).trans hx) (fun _ _ x _ _ => hgroup x)
    (fun _ _ x _ _ h => absurd h (by rw [hstate x]; decide)) fun _ _ x _ _ => hstate x).trans (reportMoving_keeps _)

theorem markEnded_keeps (n : Nat) (res : OrderResult) (why : Option Reason) (s : State) : Keeps G s (markEnded n res why s) := by
  unfold markEnded
  split
  · exact .refl s
  · rename_i o _
    have hstop : Keeps G s (if o.state.isActive then stopTimers o.group (endRun o.group s) else s) := by
      split
      · exact (endRun_keeps ..).trans (stopTimers_keeps ..)
      · exact .refl s
    have hend (u : State) : Keeps G u (setOrder n (fun o => o.atEnd res why u.supply.time u.skew u.seq.endRank) u).noticeOrder :=
      (setOrder_ended_keeps n (f := fun o => o.atEnd res why u.supply.time u.skew u.seq.endRank) u (fun _ => rfl) (fun _ => rfl)
        fun _ => rfl).trans (noticeOrder_keeps _)
    dsimp only
    split
    · exact (hstop.trans (hend _)).trans (reportCompletion_keeps ..)
    · exact hstop.trans (hend _)

/-! ### The gates -/

section
variable {o : Order} {s : State} (hlive : G → s.live o.number)
include hlive

theorem enterBlocked_keeps (e : Nat) : Keeps G s (enterBlocked o e s) :=
  (modCtl_keeps ..).trans (setOrder_keeps (fun hG => (hlive hG).of_orders rfl) (fun _ => rfl) fun _ => rfl)

theorem enterHoldWait_keeps : Keeps G s (enterHoldWait o s) :=
  (modCtl_keeps ..).trans (setOrder_keeps (fun hG => (hlive hG).of_orders rfl) (fun _ => rfl) fun _ => rfl)

/-- The order goes to MOVING, after an operation that leaves the Order Table as it is. -/
theorem toMoving_keeps {t : State} (h : Keeps G s t) (ho : t.seq.orders = s.seq.orders) :
    Keeps G s (setOrder o.number (fun o => { o with state := .moving }) t) :=
  h.trans (setOrder_keeps (fun hG => (hlive hG).of_orders ho) (fun _ => rfl) fun _ => rfl)

theorem enterMoving_keeps (p : Phase) : Keeps G s (enterMoving o p s) := by
  unfold enterMoving
  dsimp only
  split
  · exact toMoving_keeps hlive (beginRun_keeps ..) (by simp)
  · exact toMoving_keeps hlive (beginRun_keeps ..) (by simp)
  · exact toMoving_keeps hlive (.refl s) rfl
  · exact toMoving_keeps hlive (.refl s) rfl
  · split
    · exact toMoving_keeps hlive (pulseRequest_keeps ..) (by simp)
    · exact toMoving_keeps hlive (.refl s) rfl
  · have hmoving := toMoving_keeps hlive (.refl s) rfl
    split
    · exact hmoving.trans (markEnded_keeps ..)
    · exact hmoving.trans (modCtl_keeps ..)

theorem gateFlow_keeps (p : Phase) : Keeps G s (gateFlow o p s) := by
  have hctl : Keeps G s (s.modCtl o.group fun c => { c with block := none, hold := none }) := modCtl_keeps ..
  have hlive' (hG : G) : (s.modCtl o.group fun c => { c with block := none, hold := none }).live o.number :=
    (hlive hG).of_orders rfl
  unfold gateFlow
  dsimp only
  split
  · exact hctl.trans ((setOrder_keeps (f := fun o => { o with state := .claiming }) hlive' (fun _ => rfl) fun _ => rfl).trans
      (lodge_keeps _ _ fun hG =>
        ((hlive' hG).setOrder (f := fun o => { o with state := .claiming }) (fun _ => rfl) fun _ => rfl).live))
  all_goals exact hctl.trans (enterMoving_keeps hlive' p)

theorem gateBinding_keeps (p : Phase) : Keeps G s (gateBinding o p s) := by
  unfold gateBinding
  split
  · exact gateFlow_keeps hlive p
  · exact enterHoldWait_keeps hlive

theorem gateInterlock_keeps (p : Phase) : Keeps G s (gateInterlock o p s) := by
  unfold gateInterlock
  split
  · exact enterBlocked_keeps hlive _
  · split
    · exact enterBlocked_keeps hlive 0
    · exact gateBinding_keeps hlive p

end

/-! ### Phase starts -/

theorem fixTilt_same (s : State) (o : Order) :
    (s.fixTilt o).number = o.number ∧ (s.fixTilt o).group = o.group ∧ (s.fixTilt o).state = o.state := by
  unfold State.fixTilt
  split
  · split <;> exact ⟨rfl, rfl, rfl⟩
  · exact ⟨rfl, rfl, rfl⟩

/-- A relation under the condition that numbers are distinct, from a state with a record that is not ENDED. -/
theorem Keeps.of_nodup {s t : State} (h : Keeps s.numbers.Nodup s t) (hsome : ¬ s.allEnded) : Keeps G s t :=
  { h with
    ended := fun _ hall => absurd hall hsome
    flowOff := fun _ hall => absurd hall hsome
    unique := fun _ hnodup => h.unique hnodup hnodup }

/-- R3: the order with its tilt phase fixed stands for its record in the table, which stays live. -/
theorem modOrder_fixTilt_keeps {n : Nat} {s : State} {o : Order} (ho : s.order? n = some o) (hlive : s.live n) :
    Keeps s.numbers.Nodup s (s.modOrder n fun _ => s.fixTilt o) ∧
      (s.numbers.Nodup → (s.modOrder n fun _ => s.fixTilt o).live n) := by
  obtain ⟨hmem, hn⟩ := State.mem_of_order ho
  obtain ⟨hnumber, hgroup, hstate⟩ := fixTilt_same s o
  have hone (hnodup : s.numbers.Nodup) (x : Order) (hx : x ∈ s.seq.orders) (hxn : x.number = n) : x = o :=
    State.eq_of_number hnodup hx hmem (hxn.trans hn.symm)
  refine ⟨modOrder_keeps (fun _ _ => hnumber.trans hn) (fun hG _ x hx hxn => hone hG x hx hxn ▸ hgroup)
    (fun hG _ x hx hxn ha => .inl (hone hG x hx hxn ▸ hstate ▸ ha)) fun _ hall => absurd hall hlive.not_allEnded, fun hnodup => ?_⟩
  obtain ⟨x, hx, hxn, hok⟩ := hlive
  obtain rfl := hone hnodup x hx hxn
  refine ⟨s.fixTilt x, List.mem_map.2 ⟨x, hx, if_pos hxn⟩, hnumber.trans hxn, ?_⟩
  rw [hstate, hgroup]
  refine hok.imp id fun ⟨hqueued, hfree⟩ => ⟨hqueued, fun y' hy' hg => ?_⟩
  obtain ⟨y, hy, rfl⟩ := List.mem_map.1 hy'
  split at hg
  · rename_i hyn
    rw [if_pos hyn, hstate, hqueued]
    rfl
  · rename_i hyn
    rw [if_neg hyn]
    exact hfree y hy hg

theorem phaseStart_keeps {n : Nat} {s : State} (hlive : s.live n) : Keeps G s (phaseStart n s) := by
  refine .of_nodup ?_ hlive.not_allEnded
  unfold phaseStart
  split
  · exact .refl s
  · rename_i o ho
    obtain ⟨hfix, hlive'⟩ := modOrder_fixTilt_keeps ho hlive
    have hnumber : (s.fixTilt o).number = n := (fixTilt_same s o).1.trans (State.mem_of_order ho).2
    rw [← hnumber] at hlive'
    dsimp only
    split
    · exact hfix
    · split
      · exact hfix.trans (markEnded_keeps ..)
      · split
        · exact hfix.trans (enterMoving_keeps (by simpa only [hnumber] using hlive') _)
        all_goals exact hfix.trans (gateInterlock_keeps (by simpa only [hnumber] using hlive') _)

theorem startQueued_keeps (g : Group) (k : Nat) (s : State) : Keeps G s (startQueued g k s) := by
  induction k generalizing s with
  | zero => exact .refl s
  | succ k ih =>
    unfold startQueued
    split
    · exact .refl s
    · rename_i hnone
      split
      · exact becomeIdle_keeps g s
      · rename_i o ho
        split
        · exact .refl s
        · exact (phaseStart_keeps (State.live_of_oldestQueued (by simpa using hnone) ho)).trans (ih _)

theorem advanceGroup_keeps (g : Group) (s : State) : Keeps G s (advanceGroup g s) := startQueued_keeps ..

theorem endOrder_keeps (o : Order) (res : OrderResult) (why : Option Reason) (s : State) : Keeps G s (endOrder o res why s) :=
  (markEnded_keeps ..).trans (advanceGroup_keeps ..)

theorem endWaiting_keeps (o : Order) (res : OrderResult) (why : Option Reason) (s : State) :
    Keeps G s (endWaiting o res why s) := (withdraw_keeps ..).trans (endOrder_keeps ..)

theorem endPulse_keeps (o : Order) (res : OrderResult) (why : Option Reason) (s : State) : Keeps G s (endPulse o res why s) := by
  unfold endPulse
  dsimp only
  (repeat' split)
  · exact (release_keeps ..).trans (endOrder_keeps ..)
  · exact endOrder_keeps ..
  · exact endOrder_keeps ..

/-! ### Stops -/

theorem toStopping_keeps {n : Nat} (out : StopOutcome) (res : Option OrderResult) (why : Option Reason) {s : State}
    (hlive : s.running n) : Keeps G s (toStopping n out res why s) :=
  setOrder_keeps (fun _ => hlive.live) (fun _ => rfl) fun _ => rfl

theorem stopFailed_keeps {n : Nat} (why : Reason) {s : State} (hlive : s.running n) : Keeps G s (stopFailed n why s) :=
  toStopping_keeps _ _ _ hlive

theorem State.running.toStopping {s : State} {m : Nat} (h : s.running m) (n : Nat) (out : StopOutcome) (res : Option OrderResult)
    (why : Option Reason) : (toStopping n out res why s).running m := h.setOrder n (fun _ => rfl) fun _ => rfl

theorem enterSettling_keeps {o : Order} {f : Order → Order} {s : State} (hlive : s.running o.number)
    (hnumber : ∀ x, (f x).number = x.number) (hgroup : ∀ x, (f x).group = x.group) : Keeps G s (enterSettling o f s) :=
  (modCtl_keeps ..).trans (setOrder_keeps (fun _ => (hlive.of_orders rfl).live) hnumber hgroup)

theorem immediateEnd_keeps (g : Group) (why : Reason) (s : State) : Keeps G s (immediateEnd g why s) := by
  unfold immediateEnd
  split
  · exact .refl s
  · rename_i o ho
    split
    · have hrunning : (withdraw o.number (releaseAll g.channels s)).running o.number :=
        State.running.withdraw ((State.running_of_active ho).of_orders (by simp)) _
      exact (releaseAll_keeps ..).trans ((withdraw_keeps ..).trans ((endRun_keeps ..).trans
        (enterSettling_keeps (hrunning.of_orders (by simp)) (fun _ => rfl) fun _ => rfl)))
    · exact .refl s

/-! ### Changed inhibit flags -/

theorem applyInhibit_keeps {o : Order} {s : State} (hlive : s.running o.number) : Keeps G s (applyInhibit o s) := by
  unfold applyInhibit
  split
  · exact endWaiting_keeps ..
  · exact endWaiting_keeps ..
  · exact endWaiting_keeps ..
  · exact endWaiting_keeps ..
  · split
    · exact stopFailed_keeps _ hlive
    · exact endPulse_keeps ..
  all_goals exact .refl s

theorem meetInhibit_keeps (old : Inhibits) (g : Group) (s : State) : Keeps G s (meetInhibit old g s) := by
  unfold meetInhibit
  split
  · exact .refl s
  · rename_i o ho
    dsimp only
    split
    · exact applyInhibit_keeps (State.running_of_active ho)
    · exact .refl s

theorem reportFlags_keeps (old : Inhibits) (s : State) : Keeps G s (reportFlags old s) := by
  unfold reportFlags
  split
  · exact .refl s
  · exact (Keeps.foldl (fun s g => meetInhibit_keeps old g s) _ s).trans (reportCleared_keeps ..)

theorem raiseFault_keeps (code : FaultCode) (x : Subject) (s : State) : Keeps G s (raiseFault code x s) :=
  (raise_keeps ..).trans (reportFlags_keeps ..)

theorem raiseFaultOnce_keeps (code : FaultCode) (x : Subject) (s : State) : Keeps G s (raiseFaultOnce code x s) :=
  (raiseOnce_keeps ..).trans (reportFlags_keeps ..)

theorem abortOrders_keeps (p : Order → Bool) (why : Reason) (s : State) : Keeps G s (abortOrders p why s) :=
  .foldl (f := fun s (o : Order) => markEnded o.number .aborted (some why) (withdraw o.number s))
    (fun _ _ => (withdraw_keeps ..).trans (markEnded_keeps ..)) _ s

end Sys2Proof.Machine
end
section
/-! What the routine events keep: the third part of Keeps. -/

namespace Sys2Proof.Machine

variable {G : Prop}

theorem Keeps.ite {P : Prop} [Decidable P] {s t u : State} (ht : Keeps G s t) (hu : Keeps G s u) :
    Keeps G s (if P then t else u) := by
  split
  · exact ht
  · exact hu

/-! ### Axis Trackers -/

theorem unreference_keeps (a : Axis) (s : State) : Keeps G s (unreference a s) := modTracker_keeps rfl

theorem limitPass_keeps (a : Axis) (s : State) : Keeps G s (limitPass a s) := by
  unfold limitPass
  split
  · exact .refl s
  · split
    · exact immediateEnd_keeps ..
    · exact .refl s

theorem judgeDrift_keeps (r : AxisRec) (a : Axis) (s : State) : Keeps G s (judgeDrift r a s) := by
  unfold judgeDrift
  dsimp only
  split
  · exact .refl s
  · split
    · exact (modTracker_keeps rfl).trans (raiseFaultOnce_keeps ..)
    · exact .refl s

/-- R72: a pulse keeps the remainder below DEN. -/
theorem pulseStep_rem_lt {r : AxisRec} (hnum : r.num < r.den) {rem : Nat} (hrem : rem < r.den) (forward : Bool) (pos : Int) :
    (pulseStep r forward pos rem).2 < r.den := by
  unfold pulseStep
  (repeat' split) <;> dsimp only <;> omega

/-- R72: a tracker after a pulse that it counts. -/
def Tracker.counted (r : AxisRec) (forward : Bool) (t : Tracker) : Tracker :=
  { t with pos := (pulseStep r forward t.pos t.rem).1, rem := (pulseStep r forward t.pos t.rem).2,
           net := t.net + if forward then 1 else -1 }

theorem countPulse_eq (r : AxisRec) (a : Axis) (forward : Bool) (s : State) :
    countPulse r a forward s =
      if representable ((s.tracker a).counted r forward).pos then
        judgeDrift r a
          (if outwardPass r ((s.tracker a).counted r forward) forward then
            limitPass a (s.modTracker a fun _ => (s.tracker a).counted r forward)
          else s.modTracker a fun _ => (s.tracker a).counted r forward)
      else unreference a s := rfl

theorem countPulse_keeps {r : AxisRec} {a : Axis} (forward : Bool) {s : State} (hr : s.axisRec? a = some r) :
    Keeps G s (countPulse r a forward s) := by
  have hcount : Keeps G s (s.modTracker a fun _ => (s.tracker a).counted r forward) :=
    modTracker_keeps_of_rem hr fun hsound => pulseStep_rem_lt (hsound a r hr).1 (hsound a r hr).2 _ _
  rw [countPulse_eq]
  split
  · split
    · exact hcount.trans ((limitPass_keeps ..).trans (judgeDrift_keeps ..))
    · exact hcount.trans (judgeDrift_keeps ..)
  · exact unreference_keeps a s

theorem pulse_keeps (a : Axis) (forward : Bool) (s : State) : Keeps G s (pulse a forward s) := by
  unfold pulse
  split
  · exact .refl s
  · rename_i r hr
    exact countPulse_keeps forward hr

theorem windowOver_keeps (a : Axis) (s : State) : Keeps G s (windowOver a s) := by
  unfold windowOver
  split
  · exact .refl s
  · exact (modTracker_keeps rfl).trans (reportWindows_keeps _)

theorem snap_keeps (a : Axis) (s : State) : Keeps G s (snap a s) := by
  unfold snap
  split
  · exact .refl s
  · rename_i r hr
    have hraise : Keeps G s
        (if (s.tracker a).referenced = true ∧ (r.homeWindow : Int) < |(s.tracker a).pos - r.home| then
          raiseFaultOnce .referenceMismatch (.axis a) s
        else s) := by
      split
      · exact raiseFaultOnce_keeps ..
      · exact .refl s
    dsimp only
    refine hraise.trans (modTracker_keeps_of_rem (r := r) ?_ fun hsound => ?_)
    · rw [State.axisRec?, hraise.fitment]; exact hr
    · exact Nat.lt_of_le_of_lt (Nat.zero_le _) (hsound a r (by rw [State.axisRec?, hraise.fitment]; exact hr)).1

theorem snapIfActive_keeps (a : Axis) (s : State) : Keeps G s (snapIfActive a s) := by
  unfold snapIfActive
  split
  · exact snap_keeps a s
  · exact .refl s

theorem snapAll_keeps (s : State) : Keeps G s (snapAll s) := .foldl (fun s a => snapIfActive_keeps a s) _ s

theorem homeExpiry_keeps (a : Axis) (s : State) : Keeps G s (homeExpiry a s) := by
  unfold homeExpiry takeHome
  dsimp only
  split
  · split
    · exact (modTracker_keeps rfl).trans (snap_keeps ..)
    · exact modTracker_keeps rfl
  · exact .refl s

theorem homeRaw_keeps (a : Axis) (v : Bool) (s : State) : Keeps G s (homeRaw a v s) := by
  unfold homeRaw
  split
  · exact .refl s
  · exact modTracker_keeps rfl

/-! ### Operator inputs -/

theorem bindingGained_keeps (n : Nat) (s : State) : Keeps G s (bindingGained n s) := by
  unfold bindingGained
  split
  · exact .refl s
  · rename_i o ho
    have hlive (hactive : o.state.isActive = true) (_ : G) : s.live o.number :=
      (State.mem_of_order ho).2 ▸ (State.running_of_order ho hactive).live
    split
    · rename_i hstate _
      exact gateFlow_keeps (hlive (by rw [hstate]; rfl)) _
    · rename_i hstate _
      exact gateInterlock_keeps (hlive (by rw [hstate]; rfl)) _
    · exact .refl s

theorem bindingLost_keeps (n : Nat) (s : State) : Keeps G s (bindingLost n s) := by
  unfold bindingLost
  split
  · exact .refl s
  · rename_i o ho
    have hrunning (hactive : o.state.isActive = true) : s.running n := State.running_of_order ho hactive
    split
    · rename_i hstate
      have hrun := (hrunning (by rw [hstate]; rfl)).withdraw n
      exact (withdraw_keeps ..).trans (enterHoldWait_keeps fun _ => (State.mem_of_order ho).2 ▸ hrun.live)
    · rename_i hstate
      split
      · exact toStopping_keeps _ _ _ (hrunning (by rw [hstate]; rfl))
      · exact .refl s
    all_goals exact .refl s

theorem edgeTaken_keeps (n : Nat) (s : State) : Keeps G s (edgeTaken n s) := by
  unfold edgeTaken
  split
  · exact .refl s
  · split
    · exact (modOrder_keeps_of_state n (f := fun o => { o with startedEdge := true }) s (fun _ => rfl) (fun _ => rfl)
        fun _ => rfl).trans (bindingGained_keeps ..)
    · exact .refl s

theorem reportBinding_keeps (b : Binding) {f : Nat → State → State} (h : ∀ n s, Keeps G s (f n s)) (s : State) :
    Keeps G s (reportBinding b f s) := .foldl (f := fun s (o : Order) => f o.number s) (fun s o => h o.number s) _ s

theorem moveHand_keeps (t : Fin 2) (m : TwoHand) (s : State) : Keeps G s (moveHand t m s) := by
  unfold moveHand
  dsimp only
  split
  · exact (setHand_keeps ..).trans (reportBinding_keeps _ bindingGained_keeps _)
  split
  · exact (setHand_keeps ..).trans (reportBinding_keeps _ bindingLost_keeps _)
  · exact setHand_keeps ..

theorem holdTaken_keeps (h : Fin 4) (level : Bool) (s : State) : Keeps G s (holdTaken h level s) := by
  unfold holdTaken
  dsimp only
  split
  · exact (reportBinding_keeps _ bindingGained_keeps s).trans
      ((reportBinding_keeps _ edgeTaken_keeps _).trans (moveHand_keeps ..))
  · exact (reportBinding_keeps _ bindingLost_keeps s).trans (moveHand_keeps ..)

theorem refreshStop_keeps (g : Group) (s : State) : Keeps G s (refreshStop g s) := by
  unfold refreshStop
  dsimp only
  have hset : Keeps G s
      { s with operator := { s.operator with obstructed := s.operator.obstructed.set g.idx (s.stopStateNow g) } } := .of_core rfl
  split
  · exact hset.trans (immediateEnd_keeps ..)
  · exact hset

theorem refreshStops_keeps (s : State) : Keeps G s (refreshStops s) := .foldl (fun s g => refreshStop_keeps g s) _ s

theorem latchSensed_keeps (d : Side) (s : State) : Keeps G s (latchSensed d s) := by
  unfold latchSensed
  split
  · exact .refl s
  · split
    · exact endOrder_keeps ..
    · exact .refl s

/-- Several running orders go to STOPPING. -/
theorem foldStopping_keeps (out : StopOutcome) (res : Option OrderResult) (why : Option Reason) (xs : List Order) {s : State}
    (h : ∀ o ∈ xs, s.running o.number) : Keeps G s (xs.foldl (fun s o => toStopping o.number out res why s) s) := by
  induction xs generalizing s with
  | nil => exact .refl s
  | cons x rest ih =>
    exact (toStopping_keeps _ _ _ (h x List.mem_cons_self)).trans
      (ih fun o ho => (h o (List.mem_cons_of_mem _ ho)).toStopping _ _ _ _)

theorem pressureActive_keeps (s : State) : Keeps G s (pressureActive s) := by
  unfold pressureActive
  dsimp only
  split
  · exact raiseFault_keeps ..
  · refine foldStopping_keeps _ _ _ _ fun o ho => ?_
    simp only [List.mem_filter, Bool.and_eq_true, State.pumpedMoving, decide_eq_true_eq] at ho
    obtain ⟨hmem, ⟨⟨hmoving, -⟩, -⟩, -⟩ := ho
    exact ⟨o, hmem, rfl, by rw [hmoving]; rfl⟩

theorem pumpLost_keeps (s : State) : Keeps G s (pumpLost s) := by
  have hoff : Keeps G s ((pumpOff s).modFlow fun fl => { fl with granted := [] }) :=
    (pumpOff_keeps s).trans (.of_flow _ fun _ _ hoff => ⟨hoff.1, hoff.2.1, rfl⟩)
  refine hoff.trans ((foldStopping_keeps _ _ _ _ fun o ho => ?_).trans (raiseFaultOnce_keeps ..))
  simp only [List.mem_filter, Bool.and_eq_true, decide_eq_true_eq] at ho
  exact ⟨o, ho.1, rfl, by rw [ho.2.1]; rfl⟩

theorem runningSenseTaken_keeps (level : Bool) (s : State) : Keeps G s (runningSenseTaken level s) := by
  unfold runningSenseTaken
  split
  · exact .of_flow _ fun _ _ => id
  · exact (Keeps.of_flow _ fun _ _ => id).trans (latch_keeps ..)
  · exact (latch_keeps ..).trans (pumpLost_keeps _)
  · exact (latch_keeps ..).trans (pumpLost_keeps _)
  · exact latch_keeps ..
  all_goals exact .refl s

theorem takeLine_keeps (l : Line) (s : State) : Keeps G s (takeLine l s) := by
  have hline : Keeps G s (s.modLine l fun x => { x with level := (s.line l).raw }) := modLine_keeps ..
  unfold takeLine
  dsimp only
  split
  · exact hline.trans (holdTaken_keeps ..)
  · exact hline.trans (refreshStops_keeps _)
  · split
    · exact hline.trans (latchSensed_keeps ..)
    · exact hline
  · split
    · exact hline.trans (pressureActive_keeps _)
    · exact hline.trans (latch_keeps ..)
  · exact hline.trans (runningSenseTaken_keeps ..)

theorem inputExpiry_keeps (l : Line) (s : State) : Keeps G s (inputExpiry l s) := by
  have hline : Keeps G s (s.modLine l fun x => { x with timer := none }) := modLine_keeps ..
  unfold inputExpiry
  dsimp only
  split
  · split
    · exact hline
    · exact hline.trans (takeLine_keeps ..)
  · exact .refl s

theorem inputRaw_keeps (l : Line) (v : Bool) (s : State) : Keeps G s (inputRaw l v s) := by
  unfold inputRaw
  split
  · exact .refl s
  · exact modLine_keeps ..

theorem handExpiry_keeps (t : Fin 2) (s : State) : Keeps G s (handExpiry t s) := by
  unfold handExpiry
  split
  · exact moveHand_keeps ..
  · exact .refl s

/-! ### The Motion Law -/

theorem superviseSkew_keeps (r : ProfileRec) (x : Run) (s : State) : Keeps G s (superviseSkew r x s) := by
  unfold superviseSkew
  dsimp only
  split
  · split
    · exact (setRun_keeps ..).trans (raiseFault_keeps ..)
    · exact .refl s
  · split
    · exact (setRun_keeps ..).trans (latch_keeps ..)
    · exact .refl s
  · exact .refl s

theorem skewEnd_keeps (s : State) : Keeps G s (skewEnd s) := (immediateEnd_keeps ..).trans (raiseFaultOnce_keeps ..)

theorem modRun_keeps (g : Group) (f : Run → Run) (s : State) : Keeps G s (modRun g f s) := by
  unfold modRun
  split
  · exact .refl s
  · exact setRun_keeps ..

theorem readPositions_keeps (o : Order) (p : Phase) (c : MoveClass) (s : State) : Keeps G s (readPositions o p c s) :=
  modRun_keeps ..

/-- A change of records that keeps their states leaves an active record active. -/
theorem State.running.modOrder {s : State} {m : Nat} (h : s.running m) (n : Nat) {f : Order → Order}
    (hnumber : ∀ x, (f x).number = x.number) (hstate : ∀ x, (f x).state = x.state) : (s.modOrder n f).running m := by
  obtain ⟨x, hx, hn, ha⟩ := h
  refine ⟨_, List.mem_map_of_mem hx, ?_⟩
  split
  · exact ⟨(hnumber x).trans hn, (hstate x).symm ▸ ha⟩
  · exact ⟨hn, ha⟩

/-- R23: the blocking entry of an order is recorded. -/
theorem modOrder_blocking_keeps (n e : Nat) (s : State) : Keeps G s (s.modOrder n fun o => { o with blocking := e }) :=
  modOrder_keeps_of_state n s (fun _ => rfl) (fun _ => rfl) fun _ => rfl

/-- Step 3 of an interval (R23, R52): the interlock entries. -/
def examineEntries (o : Order) (s : State) : State :=
  match s.askInterlock o with
  | none => s
  | some e =>
    let s := s.modOrder o.number fun o => { o with blocking := e }
    match s.lossAction e with
    | .stopWait => toStopping o.number .block none none s
    | .stopFail => stopFailed o.number .interlockLost s

/-- Step 3 of an interval: the interlock entries, then the stop state (R139). -/
theorem examineMoving_eq (o : Order) (s : State) :
    examineMoving o s =
      if (examineEntries o s).isObstructed o.group then immediateEnd o.group .obstructed (examineEntries o s)
      else examineEntries o s := rfl

theorem examineEntries_keeps {o : Order} {s : State} (hrunning : s.running o.number) : Keeps G s (examineEntries o s) := by
  unfold examineEntries
  split
  · exact .refl s
  · rename_i e _
    have hrun : (s.modOrder o.number fun o => { o with blocking := e }).running o.number :=
      hrunning.modOrder _ (fun _ => rfl) fun _ => rfl
    dsimp only
    split
    · exact (modOrder_blocking_keeps ..).trans (toStopping_keeps _ _ _ hrun)
    · exact (modOrder_blocking_keeps ..).trans (stopFailed_keeps _ hrun)

theorem examineMoving_keeps {o : Order} {s : State} (hrunning : s.running o.number) : Keeps G s (examineMoving o s) := by
  rw [examineMoving_eq]
  split
  · exact (examineEntries_keeps hrunning).trans (immediateEnd_keeps ..)
  · exact examineEntries_keeps hrunning

theorem stallEnd_keeps (g : Group) (c : MoveClass) (s : State) : Keeps G s (stallEnd g c s) :=
  (immediateEnd_keeps g .stall s).trans (.foldl (fun s a => raiseFaultOnce_keeps .stall (.axis a) s) _ _)

/-- R26: the order whose f_cmd has reached 0: its channels are sent 0, its claim is withdrawn and its run ends. -/
def comeToRest (o : Order) (s : State) : State :=
  endRun o.group (withdraw o.number
    (sendDemands ((o.group.channels.filter fun c => decide (c.val < 10)).map fun c => (c, 0)) s))

theorem comeToRest_keeps (o : Order) (s : State) : Keeps G s (comeToRest o s) :=
  (sendDemands_keeps ..).trans ((withdraw_keeps ..).trans (endRun_keeps ..))

theorem State.running.comeToRest {s : State} {n : Nat} (h : s.running n) (o : Order) : (comeToRest o s).running n := by
  have hsent : (sendDemands ((o.group.channels.filter fun c => decide (c.val < 10)).map fun c => (c, 0)) s).running n :=
    h.of_orders (by simp)
  exact (hsent.withdraw o.number).of_orders (by simp [Sys2Proof.Machine.comeToRest])

theorem stopEnd_keeps {o : Order} {s : State} (hrunning : s.running o.number) : Keeps G s (stopEnd o s) := by
  have hrest : Keeps G s (comeToRest o s) := comeToRest_keeps o s
  have hrun := hrunning.comeToRest o
  unfold stopEnd
  dsimp only
  split
  · exact hrest.trans (endOrder_keeps ..)
  · exact hrest.trans (endOrder_keeps ..)
  · exact hrest.trans ((modCtl_keeps ..).trans
      (setOrder_keeps (fun _ => (hrun.of_orders rfl).live) (fun _ => rfl) fun _ => rfl))
  · have hpaused : Keeps G s (setOrder o.number (fun o => { o with state := .paused, outcome := none }) (comeToRest o s)) :=
      hrest.trans (setOrder_keeps (fun _ => hrun.live) (fun _ => rfl) fun _ => rfl)
    have hrun' : (setOrder o.number (fun o => { o with state := .paused, outcome := none }) (comeToRest o s)).running o.number :=
      hrun.setOrder _ (fun _ => rfl) fun _ => rfl
    split
    · exact hpaused.trans (gateInterlock_keeps (fun _ => hrun'.live) _)
    · exact hpaused.trans (modCtl_keeps ..)
  all_goals exact hrest.trans (enterSettling_keeps hrun (fun _ => rfl) fun _ => rfl)

theorem finishInterval_keeps (r : ProfileRec) (p : Phase) (c : MoveClass) (g : Group) (s : State) :
    Keeps G s (finishInterval r p c g s) := by
  unfold finishInterval
  split
  · rename_i o x ho hx
    have hsent (y : Run) (ds : List (Channel × Nat)) : Keeps G s (sendDemands ds (s.setRun g (some y))) :=
      (setRun_keeps ..).trans (sendDemands_keeps ..)
    have hrun (y : Run) (ds : List (Channel × Nat)) : (sendDemands ds (s.setRun g (some y))).running o.number :=
      (State.running_of_active ho).of_orders (by simp)
    exact .ite ((hsent _ _).trans (stopEnd_keeps (hrun _ _))) (hsent _ _)
  · exact .refl s

theorem moveOn_keeps (r : ProfileRec) (p : Phase) (c : MoveClass) {o : Order} {s : State} (hrunning : s.running o.number) :
    Keeps G s (moveOn r p c o s).1 := by
  unfold moveOn
  split
  · exact toStopping_keeps _ _ _ hrunning
  · split
    · exact .refl s
    · dsimp only
      split
      · exact (setRun_keeps ..).trans (stallEnd_keeps ..)
      · exact setRun_keeps ..

theorem intervalBody_keeps (r : ProfileRec) (p : Phase) (c : MoveClass) (g : Group) (s : State) :
    Keeps G s (intervalBody r p c g s) := by
  unfold intervalBody
  split
  · exact .refl s
  · rename_i o ho
    split
    · have hexamined : Keeps G s (examineMoving o s) := examineMoving_keeps (State.running_of_active ho)
      dsimp only
      split
      · exact hexamined
      · rename_i o' ho'
        split
        · have hmoved := hexamined.trans (moveOn_keeps r p c (State.running_of_active ho'))
          split
          · exact hmoved.trans (finishInterval_keeps ..)
          · exact hmoved
        · exact hexamined.trans (finishInterval_keeps ..)
        all_goals exact hexamined
    · exact finishInterval_keeps ..

theorem motionInterval_keeps (o : Order) (p : Phase) (c : MoveClass) (r : ProfileRec) (x : Run) (s : State) :
    Keeps G s (motionInterval o p c r x s) := by
  unfold motionInterval
  dsimp only
  split
  · exact skewEnd_keeps s
  · split
    · exact (superviseSkew_keeps ..).trans ((readPositions_keeps ..).trans (intervalBody_keeps ..))
    · exact (readPositions_keeps ..).trans (intervalBody_keeps ..)

theorem blockedInterval_keeps {o : Order} {s : State} (hrunning : s.running o.number) : Keeps G s (blockedInterval o s) := by
  unfold blockedInterval
  split
  · exact modOrder_blocking_keeps ..
  · split
    · exact .refl s
    · exact gateBinding_keeps (fun _ => hrunning.live) _
  · exact .refl s

theorem waitingInterval_keeps {o : Order} {s : State} (hrunning : s.running o.number) : Keeps G s (waitingInterval o s) := by
  have hblocked (e : Nat) : Keeps G s (enterBlocked o e (withdraw o.number s)) :=
    (withdraw_keeps ..).trans (enterBlocked_keeps (fun _ => (hrunning.withdraw _).live) e)
  unfold waitingInterval
  split
  · exact hblocked _
  · split
    · exact hblocked 0
    · exact .refl s

theorem interval_keeps (g : Group) (s : State) : Keeps G s (interval g s) := by
  have hctl : Keeps G s (s.modCtl g fun c => { c with interval := Config.controlInterval }) := modCtl_keeps ..
  unfold interval
  dsimp only
  split
  · exact hctl
  · rename_i o ho
    have hrunning := State.running_of_active ho
    split
    · exact hctl.trans (blockedInterval_keeps hrunning)
    · exact hctl.trans (waitingInterval_keeps hrunning)
    · exact hctl.trans (waitingInterval_keeps hrunning)
    · split
      · split
        · exact hctl.trans (motionInterval_keeps ..)
        · exact hctl
      · exact hctl
    · split
      · split
        · exact hctl.trans (motionInterval_keeps ..)
        · exact hctl
      · exact hctl
    all_goals exact hctl

/-! ### The timers of an order -/

theorem onActive_keeps {g : Group} {f : Order → State → State} {s : State}
    (h : ∀ o, s.active? g = some o → Keeps G s (f o s)) : Keeps G s (onActive g f s) := by
  unfold onActive
  split
  · exact .refl s
  · rename_i o ho
    exact h o ho

theorem blockExpiry_keeps (g : Group) (s : State) : Keeps G s (blockExpiry g s) := by
  refine onActive_keeps fun o _ => ?_
  split
  · exact endOrder_keeps ..
  · exact .refl s

theorem holdExpiry_keeps (g : Group) (s : State) : Keeps G s (holdExpiry g s) := by
  refine onActive_keeps fun o _ => ?_
  split
  · exact endOrder_keeps ..
  · exact .refl s

theorem nextPhase_keeps {o : Order} {s : State} (hrunning : s.running o.number) : Keeps G s (nextPhase o s) := by
  have hadvance : Keeps G s (s.modOrder o.number fun o => { o with index := o.index + 1, outcome := none }) :=
    modOrder_keeps_of_state _ _ (fun _ => rfl) (fun _ => rfl) fun _ => rfl
  have hrun : (s.modOrder o.number fun o => { o with index := o.index + 1, outcome := none }).running o.number :=
    hrunning.modOrder _ (fun _ => rfl) fun _ => rfl
  exact hadvance.trans ((phaseStart_keeps hrun.live).trans (advanceGroup_keeps ..))

theorem settled_keeps {o : Order} {s : State} (hrunning : s.running o.number) : Keeps G s (settled o s) := by
  have hctl : Keeps G s (s.modCtl o.group fun c => { c with settle := none }) := modCtl_keeps ..
  unfold settled
  dsimp only
  split
  · split
    · exact hctl.trans (nextPhase_keeps (hrunning.of_orders rfl))
    · exact hctl.trans (endOrder_keeps ..)
  · exact hctl.trans (endOrder_keeps ..)
  · exact hctl

theorem settleExpiry_keeps (g : Group) (s : State) : Keeps G s (settleExpiry g s) := by
  refine onActive_keeps fun o ho => ?_
  split
  · exact settled_keeps (State.running_of_active ho)
  · exact .refl s

theorem latchCheckExpiry_keeps (g : Group) (s : State) : Keeps G s (latchCheckExpiry g s) := by
  refine onActive_keeps fun o _ => ?_
  split
  · exact (raiseOnce_keeps ..).trans ((endOrder_keeps ..).trans (reportFlags_keeps ..))
  · exact .refl s

theorem limitReached_keeps (g : Group) (s : State) : Keeps G s (limitReached g s) := by
  refine onActive_keeps fun o ho => ?_
  split
  · exact stopFailed_keeps _ (State.running_of_active ho)
  · exact .refl s

theorem setResetting_keeps (g : Group) (t : Timer) (s : State) : Keeps G s (setResetting g t s) := .of_core rfl

theorem resettingExpiry_keeps (g : Group) (s : State) : Keeps G s (resettingExpiry g s) := by
  unfold resettingExpiry
  split
  · exact (setResetting_keeps ..).trans ((removeFaults_keeps ..).trans (reportFlags_keeps ..))
  · exact .refl s

/-! ### Vehicle status and pump -/

theorem statusExpiry_keeps (s : State) : Keeps G s (statusExpiry s) := by
  have hstale : Keeps G s { s with vehicle := { s.vehicle with fresh := false, timer := none } } := .of_core rfl
  unfold statusExpiry
  dsimp only
  split
  · exact hstale.trans ((raiseFault_keeps ..).trans (capacityEvent_keeps _))
  · exact .refl s

theorem pumpStarted_keeps {s : State} (h : s.flow.pump = .starting) : Keeps G s (pumpStarted s) := by
  unfold pumpStarted
  dsimp only
  split
  · exact enterRunOn_keeps (by simp [h])
  · have hready : Keeps G s (s.modFlow fun fl =>
        { fl with pump := .running, start := none, granted := fl.granted.map fun c => { c with ready := true } }) :=
      .of_flow _ fun _ _ hoff => absurd (h.symm.trans hoff.1) (by decide)
    exact hready.trans (reportReady_keeps (_, _))

theorem startFailed_keeps (s : State) : Keeps G s (startFailed s) := by
  unfold startFailed
  dsimp only
  exact (Keeps.of_flow _ fun _ _ hoff => ⟨hoff.1, hoff.2.1, rfl⟩).trans
    ((Keeps.foldl (f := fun s (o : Order) => markEnded o.number .failed (some .pump) s) (fun _ _ => markEnded_keeps ..) _ _).trans
      ((pumpOff_keeps _).trans ((raiseFaultOnce_keeps ..).trans
        (Keeps.foldl (f := fun s (o : Order) => advanceGroup o.group s) (fun _ _ => advanceGroup_keeps ..) _ _))))

theorem startExpiry_keeps (s : State) : Keeps G s (startExpiry s) := by
  unfold startExpiry
  split
  · rename_i h
    split
    · exact pumpStarted_keeps h.1
    · exact startFailed_keeps s
  · exact .refl s

theorem runOnExpiry_keeps (s : State) : Keeps G s (runOnExpiry s) := by
  unfold runOnExpiry
  split
  · exact pumpOff_keeps s
  · exact .refl s

theorem stuckExpiry_keeps (s : State) : Keeps G s (stuckExpiry s) := by
  unfold stuckExpiry
  split
  · exact (Keeps.of_flow _ fun _ _ => id).trans (raiseFault_keeps ..)
  · exact .refl s

/-! ### Coils and lamps -/

theorem pulseExpiry_keeps (d : Side) (s : State) : Keeps G s (pulseExpiry d s) := by
  unfold pulseExpiry
  dsimp only
  split
  · rename_i n _ _ _
    have hreset : Keeps G s (latch .coilOpen (.channel d.latch) (s.modChan d.latch fun _ => Chan.reset)) :=
      (modChan_keeps fun _ => rfl).trans (latch_keeps ..)
    refine hreset.trans ?_
    unfold pulseDone
    split
    · exact .refl _
    · rename_i o ho
      split
      · rename_i h
        exact nextPhase_keeps ((State.mem_of_order ho).2 ▸ State.running_of_order ho (by rw [h.1]; rfl))
      · exact .refl _
  · exact .refl s

theorem coilReport_keeps (old : Inhibits) (c : Channel) (s : State) : Keeps G s (coilReport old c s) := by
  unfold coilReport
  split
  · exact reportFlags_keeps ..
  · split
    · exact (immediateEnd_keeps ..).trans (reportFlags_keeps ..)
    · exact reportFlags_keeps ..

theorem coilOpenFound_keeps (c : Channel) (s : State) : Keeps G s (coilOpenFound c s) :=
  (raise_keeps ..).trans (coilReport_keeps ..)

theorem pulseCheck_keeps (d : Side) (i : Nat) (s : State) : Keeps G s (pulseCheck d i s) := by
  unfold pulseCheck
  split
  · exact coilOpenFound_keeps ..
  · exact .refl s

theorem measure_keeps (c : Channel) (i : Nat) (s : State) : Keeps G s (measure c i s) := by
  have hlow (f : Nat → Nat) : Keeps G s (s.modChan c fun x => { x with low := f x.low }) := modChan_keeps id
  unfold measure
  dsimp only
  split
  · exact .refl s
  split
  · split
    · exact hlow (· + 1)
    · exact (hlow fun _ => 0).trans (coilOpenFound_keeps ..)
  · exact hlow fun _ => 0

theorem shortLatch_keeps (l : Lamp) (s : State) : Keeps G s (shortLatch l s) := by
  unfold shortLatch
  split <;> [exact .of_core rfl; exact .refl s]

theorem measureLamp_keeps (l : Lamp) (i : Nat) (s : State) : Keeps G s (measureLamp l i s) := by
  have hhealth (h : Health) : Keeps G s (setHealth l h s) := .of_core rfl
  unfold measureLamp
  split
  · split
    · exact (hhealth _).trans (raiseFault_keeps ..)
    · exact (hhealth _).trans (latch_keeps ..)
  · exact .refl s

theorem shortLamp_keeps (l : Lamp) (s : State) : Keeps G s (shortLamp l s) := by
  have hcut : Keeps G s (s.setLamp l ⟨.shorted, true⟩) := .of_core rfl
  unfold shortLamp
  split
  · exact hcut.trans ((shortLatch_keeps ..).trans ((latch_keeps ..).trans (raiseFaultOnce_keeps ..)))
  · exact .refl s

theorem IsRoutine.keeps {f : State → State} (hf : IsRoutine f) (s : State) : Keeps G s (f s) := by
  cases hf with
  | controlInterval => exact interval_keeps ..
  | blockWindowExpiry => exact blockExpiry_keeps ..
  | holdWindowExpiry => exact holdExpiry_keeps ..
  | settleTimerExpiry => exact settleExpiry_keeps ..
  | latchCheckTimerExpiry => exact latchCheckExpiry_keeps ..
  | timeLimitReached => exact limitReached_keeps ..
  | statusTimerExpiry => exact statusExpiry_keeps s
  | startTimerExpiry => exact startExpiry_keeps s
  | runOnTimerExpiry => exact runOnExpiry_keeps s
  | stuckTimerExpiry => exact stuckExpiry_keeps s
  | trackerWindowEnd => exact windowOver_keeps ..
  | homeSwitchRawChange => exact homeRaw_keeps ..
  | inputRawChange => exact inputRaw_keeps ..
  | inputDebounceExpiry => exact inputExpiry_keeps ..
  | twoHandWindowExpiry => exact handExpiry_keeps ..
  | periodBoundary => exact boundary_keeps ..
  | deadTimeExpiry => exact deadExpiry_keeps ..
  | pulseTimerExpiry => exact pulseExpiry_keeps ..
  | latchCoilCheck => exact pulseCheck_keeps ..
  | coilMeasurement => exact measure_keeps ..
  | lampMeasurement => exact measureLamp_keeps ..
  | lampShortDetected => exact shortLamp_keeps ..
  | resettingTimerExpiry => exact resettingExpiry_keeps ..
  | stepTimerExpiry | overrideTimerExpiry => exact .of_core (by simp [State.core, State.tracker])

end Sys2Proof.Machine
end
section
/-! O4, O6, O7 and O8: every step keeps the pairs exclusive, the tables bounded, one active order for each group and the
remainders in range. The routine events keep them by Keeps; the requests, resets and tests are met here. -/

namespace Sys2Proof.Machine

/-! ### The relation -/

/-- The invariants O4, O6, O7 and O8 speak of pass from s to t. -/
structure Steady (s t : State) : Prop where
  exclusive : s.pairsExclusive → t.pairsExclusive
  remainders : s.remaindersSound → t.remaindersSound
  bounded : s.tablesBounded → t.tablesBounded
  unique : s.tablesBounded → s.uniqueActive → t.uniqueActive

theorem Steady.refl (s : State) : Steady s s := ⟨id, id, id, fun _ => id⟩

theorem Steady.trans {s t u : State} (h : Steady s t) (h' : Steady t u) : Steady s u :=
  ⟨h'.exclusive ∘ h.exclusive, h'.remainders ∘ h.remainders, h'.bounded ∘ h.bounded,
    fun hb hu => h'.unique (h.bounded hb) (h.unique hb hu)⟩

/-- The invariant of O6 goes by the numbers of the records, the counter and the places. -/
theorem State.tablesBounded_iff (s : State) :
    s.tablesBounded ↔ s.numbers.length ≤ 8 ∧ s.numbers.Nodup ∧ (∀ n ∈ s.numbers, 1 ≤ n ∧ n ≤ 65535) ∧ 1 ≤ s.seq.nextNumber ∧
      s.seq.nextNumber ≤ 65535 ∧ s.link.places.length ≤ 2 := by
  simp [State.tablesBounded, State.numbers]

theorem Keeps.steady {s t : State} (h : Keeps True s t) : Steady s t where
  exclusive := h.exclusive
  remainders := h.remainders
  bounded := by rw [State.tablesBounded_iff, State.tablesBounded_iff, h.numbers, h.nextNumber, h.places]; exact id
  unique hb hu := h.unique trivial hb.2.1 hu

/-- What Steady reads of a state. -/
def State.tables (s : State) :=
  (s.fitment.axes, s.drive.chans, s.link.places, s.seq.orders, s.seq.nextNumber, fun a => (s.tracker a).rem)

theorem Steady.of_tables {s t : State} (h : t.tables = s.tables) : Steady s t := by
  simp only [State.tables, Prod.mk.injEq] at h
  obtain ⟨haxes, hchans, hplaces, horders, hnext, hrem⟩ := h
  refine ⟨?_, ?_, ?_, ?_⟩
  · simp only [State.pairsExclusive, State.chan, hchans, imp_self]
  · intro hsound a r hr
    rw [congrFun hrem a]
    exact hsound a r (by simpa only [State.axisRec?, haxes] using hr)
  · simp only [State.tablesBounded, horders, hnext, hplaces, imp_self]
  · simp only [State.uniqueActive, horders, imp_self, implies_true]

/-- A list of records with distinct numbers holds at most one if and only if its members agree in their numbers. -/
theorem length_le_one_iff {os : List Order} (h : (os.map (·.number)).Nodup) :
    os.length ≤ 1 ↔ ∀ x ∈ os, ∀ y ∈ os, x.number = y.number := by
  match os with
  | [] => simp
  | [x] => simp
  | x :: y :: rest =>
    simp only [List.map_cons, List.nodup_cons, List.mem_cons, not_or] at h
    obtain ⟨⟨hne, -⟩, -⟩ := h
    refine ⟨fun hle => absurd hle (by simp), fun hall => absurd (hall x (by simp) y (by simp)) hne⟩

/-- R6: with distinct numbers, a group runs at most one order if and only if its active records are the same. -/
theorem State.oneActiveEach_iff {s : State} (h : s.numbers.Nodup) : s.oneActiveEach ↔ s.uniqueActive := by
  have hgroup (g : Group) := length_le_one_iff (List.Nodup.sublist
    ((List.filter_sublist (p := fun o : Order => decide (o.group = g) && o.state.isActive)).map (·.number)) h)
  constructor
  · intro hone x hx y hy hxa hya hg
    exact (hgroup y.group).1 (hone y.group) x (List.mem_filter.2 ⟨hx, by simp [hxa, hg]⟩) y
      (List.mem_filter.2 ⟨hy, by simp [hya]⟩)
  · intro hunique g
    refine (hgroup g).2 fun x hx y hy => ?_
    simp only [List.mem_filter, Bool.and_eq_true, decide_eq_true_eq] at hx hy
    obtain ⟨hx, hxg, hxa⟩ := hx
    obtain ⟨hy, hyg, hya⟩ := hy
    exact hunique x hx y hy hxa hya (hxg.trans hyg.symm)

/-! ### Writes of the fitment -/

theorem State.samePlant.steady {s t : State} (h : s.samePlant t) (haxes : t.fitment.axes = s.fitment.axes) : Steady s t := by
  obtain ⟨hlink, hseq, -, htrackers, -, hdrive, -, -⟩ := h
  exact .of_tables (by simp only [State.tables, State.tracker, haxes, hlink, hseq, htrackers, hdrive])

theorem modFitment_steady {f : Fitment → Fitment} {s : State} (h : (f s.fitment).axes = s.fitment.axes) :
    Steady s (s.modFitment f) := (s.modFitment_samePlant f).steady h

theorem firstBad_eq_none {checks : List Bool} : firstBad checks = none ↔ ∀ b ∈ checks, b = true := by
  simp [firstBad, List.findIdx?_eq_none_iff]

/-- R173: what holds of a state and of the effect of a write in range holds of the write's outcome. -/
theorem lockedWrite_outcome_of_checks {P : State → Prop} {checks : List Bool} {write : State → State} {s : State}
    (hstay : P s) (hwrite : (∀ b ∈ checks, b = true) → P (write s)) : P (lockedWrite checks write s).1 := by
  unfold lockedWrite openWrite
  split
  · exact hstay
  · split
    · exact hstay
    · rename_i hchecks
      exact hwrite (firstBad_eq_none.1 hchecks)

/-- R70: an AXIS record in range holds NUM below DEN, and its tracker starts with no remainder. -/
theorem writeAxis_steady {a : Axis} {r : AxisRec} (h : r.num < r.den) (s : State) : Steady s (writeAxis a r s) where
  exclusive := id
  remainders := by
    intro hsound b q hq
    have hrec : (writeAxis a r s).axisRec? b = if a = b then some r else s.axisRec? b := by
      split
      · rename_i hab; subst hab; exact table_get_set_self _ _ _
      · rename_i hab; exact table_get_set_ne _ _ (Axis_idx_ne hab)
    by_cases hab : a = b
    · subst hab
      obtain rfl : r = q := by simpa [hrec] using hq
      refine ⟨h, ?_⟩
      rw [writeAxis, State.modTracker_tracker_self]
      exact Nat.lt_of_le_of_lt (Nat.zero_le _) h
    · rw [writeAxis, State.modTracker_tracker_ne _ hab]
      exact hsound b q (by simpa [hrec, hab] using hq)
  bounded := id
  unique _ := id

theorem fitAxisRequest_steady (r : AxisReq) (s : State) : Steady s (fitAxisRequest r s).1 := by
  unfold fitAxisRequest
  split
  · exact lockedWrite_outcome_of_checks (.refl s) fun h =>
      writeAxis_steady (of_decide_eq_true (h _ (List.mem_cons_of_mem _ (List.mem_cons_of_mem _ List.mem_cons_self)))) s
  · exact lockedWrite_outcome (.refl s) fun _ => .refl s

theorem coldCapacity_steady (s : State) : Steady s (coldCapacity s) := .of_tables rfl

theorem fitLockRequest_steady (s : State) : Steady s (fitLockRequest s).1 := by
  unfold fitLockRequest
  split
  · exact .refl s
  · split
    · exact .refl s
    · exact (modFitment_steady rfl).trans ((coldCapacity_steady _).trans (snapAll_keeps _).steady)

/-! ### SUBMIT and RETIRE -/

/-- The i-th number of the counter from n on. -/
theorem nextNumber_iterate {n : Nat} (h : 1 ≤ n ∧ n ≤ 65535) (i : Nat) : nextNumber^[i] n = (n - 1 + i) % 65535 + 1 := by
  induction i with
  | zero => simp; omega
  | succ i ih =>
    rw [Function.iterate_succ_apply', ih, nextNumber]
    split <;> omega

theorem nextNumber_range {n : Nat} (h : 1 ≤ n ∧ n ≤ 65535) : 1 ≤ nextNumber n ∧ nextNumber n ≤ 65535 := by
  unfold nextNumber
  split <;> omega

/-- R6: the number found is some number of the counter, and every number before it is carried. -/
theorem freeNumber_eq (taken : List Nat) (k n : Nat) :
    ∃ i ≤ k, freeNumber taken k n = nextNumber^[i] n ∧ (∀ j < i, nextNumber^[j] n ∈ taken) ∧
      (i < k → nextNumber^[i] n ∉ taken) := by
  induction k generalizing n with
  | zero => exact ⟨0, le_refl _, rfl, fun j hj => absurd hj (Nat.not_lt_zero j), fun h => absurd h (Nat.lt_irrefl 0)⟩
  | succ k ih =>
    unfold freeNumber
    split
    · rename_i htaken
      obtain ⟨i, hi, heq, hbefore, hfree⟩ := ih (nextNumber n)
      refine ⟨i + 1, by omega, by rw [heq]; rfl, fun j hj => ?_, fun hik => hfree (by omega)⟩
      cases j with
      | zero => simpa using htaken
      | succ j => exact hbefore j (by omega)
    · rename_i hfree
      exact ⟨0, by omega, rfl, fun j hj => absurd hj (Nat.not_lt_zero j), fun _ => by simpa using hfree⟩

/-- R6: the counter finds a number that no record carries. -/
theorem freeNumber_not_mem {taken : List Nat} (hlength : taken.length < 65535) {n : Nat} (h : 1 ≤ n ∧ n ≤ 65535) :
    freeNumber taken (taken.length + 1) n ∉ taken := by
  obtain ⟨i, hi, heq, hbefore, hfree⟩ := freeNumber_eq taken (taken.length + 1) n
  rw [heq]
  refine hfree (lt_of_le_of_ne hi fun hall => ?_)
  subst hall
  have hinj : Set.InjOn (fun j => nextNumber^[j] n) (Finset.range (taken.length + 1)) := by
    intro a ha b hb hab
    simp only [Finset.coe_range, Set.mem_Iio, nextNumber_iterate h] at ha hb hab
    omega
  have hsub : (Finset.range (taken.length + 1)).image (fun j => nextNumber^[j] n) ⊆ taken.toFinset := by
    intro x hx
    obtain ⟨j, hj, rfl⟩ := Finset.mem_image.1 hx
    exact List.mem_toFinset.2 (hbefore j (Finset.mem_range.1 hj))
  have hcard := Finset.card_le_card hsub
  rw [Finset.card_image_of_injOn hinj, Finset.card_range] at hcard
  exact absurd (hcard.trans taken.toFinset_card_le) (by omega)

theorem freeNumber_range (taken : List Nat) (k : Nat) {n : Nat} (h : 1 ≤ n ∧ n ≤ 65535) :
    1 ≤ freeNumber taken k n ∧ freeNumber taken k n ≤ 65535 := by
  obtain ⟨i, -, heq, -⟩ := freeNumber_eq taken k n
  rw [heq, nextNumber_iterate h]
  omega

/-- Fewer records are no harm. -/
theorem orders_sublist_steady {s : State} {os : List Order} (h : os.Sublist s.seq.orders) :
    Steady s { s with seq := { s.seq with orders := os } } where
  exclusive := id
  remainders := id
  bounded := by
    rintro ⟨hlength, hnodup, hrange, hrest⟩
    exact ⟨h.length_le.trans hlength, (h.map _).nodup hnodup, fun o ho => hrange o (h.subset ho), hrest⟩
  unique _ hunique x hx y hy := hunique x (h.subset hx) y (h.subset hy)

theorem removeOrder_steady (n : Nat) (s : State) : Steady s (removeOrder n s) := orders_sublist_steady List.filter_sublist

theorem makeRoom_steady (s : State) : Steady s (makeRoom s) := by
  unfold makeRoom
  split
  · exact .refl s
  · split
    · exact removeOrder_steady ..
    · exact .refl s

theorem firstEnded_mem {os : List Order} {o : Order} (h : firstEnded os = some o) : o ∈ os ∧ o.state = .ended := by
  induction os with
  | nil => simp [firstEnded] at h
  | cons x rest ih =>
    unfold firstEnded at h
    split at h
    · split at h <;> simp_all
    · split at h <;> simp_all

theorem firstEnded_eq_none {os : List Order} (h : firstEnded os = none) : ∀ o ∈ os, o.state ≠ .ended := by
  induction os with
  | nil => simp
  | cons x rest ih =>
    unfold firstEnded at h
    split at h
    · split at h <;> simp_all
    · split at h <;> simp_all

/-- R7: a table that is not full of records outside ENDED has room for one more. -/
theorem makeRoom_length {s : State} (hlength : s.seq.orders.length ≤ 8) (hroom : s.tableFull = false) :
    (makeRoom s).seq.orders.length < 8 := by
  unfold makeRoom
  split
  · assumption
  · split
    · rename_i o ho
      have hmem := (firstEnded_mem ho).1
      have hlt : (s.seq.orders.filter (·.number != o.number)).length < s.seq.orders.length :=
        List.length_filter_lt_length_iff_exists.2 ⟨o, hmem, by simp⟩
      exact Nat.lt_of_lt_of_le hlt hlength
    · rename_i hfull _ hnone
      have hall := firstEnded_eq_none hnone
      simp only [State.tableFull, Bool.and_eq_false_iff, decide_eq_false_iff_not, List.all_eq_false, decide_eq_true_eq,
        not_not] at hroom
      rcases hroom with hroom | ⟨o, ho, hended⟩
      · exact absurd (Nat.le_of_not_lt hfull) hroom
      · exact absurd hended (hall o ho)

/-- R6, R14: an order is placed in a table with room, under the counter's number. -/
theorem placeOrder_steady {o : Order} {s : State} (hqueued : o.state = .queued) (hlength : s.seq.orders.length < 8)
    (hnumber : o.number = freeNumber s.numbers (s.numbers.length + 1) s.seq.nextNumber) : Steady s (placeOrder o s) where
  exclusive := id
  remainders := id
  bounded := by
    simp only [State.tablesBounded_iff]
    rintro ⟨hcount, hnodup, hrange, hlow, hhigh, hplaces⟩
    have hfresh := freeNumber_not_mem (by omega : s.numbers.length < 65535) ⟨hlow, hhigh⟩
    have hnew := freeNumber_range s.numbers (s.numbers.length + 1) ⟨hlow, hhigh⟩
    rw [← hnumber] at hfresh hnew
    have hnumbers : (placeOrder o s).numbers = s.numbers ++ [o.number] := by simp [State.numbers, placeOrder]
    rw [hnumbers]
    refine ⟨?_, ?_, ?_, (nextNumber_range hnew).1, (nextNumber_range hnew).2, hplaces⟩
    · simpa [State.numbers] using hlength
    · exact List.nodup_append.2 ⟨hnodup, List.nodup_singleton _, fun a ha b hb hab =>
        hfresh (by rwa [hab, List.mem_singleton.1 hb] at ha)⟩
    · intro n hn
      rcases List.mem_append.1 hn with hn | hn
      · exact hrange n hn
      · rw [List.mem_singleton.1 hn]; exact hnew
  unique _ hunique := by
    have hold (x : Order) (hx : x ∈ (placeOrder o s).seq.orders) (hxa : x.state.isActive = true) : x ∈ s.seq.orders := by
      rcases List.mem_append.1 hx with hx | hx
      · exact hx
      · rw [List.mem_singleton.1 hx, hqueued] at hxa
        exact absurd hxa (by decide)
    exact fun x hx y hy hxa hya => hunique x (hold x hx hxa) y (hold y hy hya) hxa hya

theorem Steady.of_bounded {s t : State} (hexclusive : s.pairsExclusive → t.pairsExclusive)
    (hremainders : s.remaindersSound → t.remaindersSound) (h : s.tablesBounded → Steady s t) : Steady s t :=
  ⟨hexclusive, hremainders, fun hb => (h hb).bounded hb, fun hb => (h hb).unique hb⟩

theorem takeOrder_steady (r : SubmitReq) (k : OrderKind) (b : Binding) {s : State} (hroom : s.tableFull = false) :
    Steady s (takeOrder r k b s).1 := by
  have hplaced : Steady s (placeOrder ((makeRoom s).newOrder r k b (freeNumber (makeRoom s).numbers
      ((makeRoom s).seq.orders.length + 1) (makeRoom s).seq.nextNumber)) (makeRoom s)) := by
    refine .of_bounded (makeRoom_steady s).exclusive (makeRoom_steady s).remainders fun hb => ?_
    refine (makeRoom_steady s).trans (placeOrder_steady rfl (makeRoom_length hb.1 hroom) ?_)
    rw [State.numbers, List.length_map]
    rfl
  unfold takeOrder
  dsimp only
  have hadvanced (c : Prop) [Decidable c] (u : State) :
      Steady u (advanceGroup r.group (if c then ceaseIdle r.group u else u)) :=
    (Keeps.trans (.ite (ceaseIdle_keeps r.group u) (.refl u)) (advanceGroup_keeps r.group _)).steady
  split
  · exact hplaced.trans (hadvanced _ _)
  · exact hplaced.trans (hadvanced _ _)

theorem State.tableFull_of_submitRefusal_none {s : State} {g : Group} {k : OrderKind} {b : Binding}
    (h : s.submitRefusal? g k b = none) : s.tableFull = false := by
  by_contra hfull
  simp only [Bool.not_eq_false] at hfull
  unfold State.submitRefusal? at h
  simp only [hfull, if_true] at h
  (repeat' split at h) <;> simp at h

theorem submitRequest_steady (r : SubmitReq) (s : State) : Steady s (submitRequest r s).1 := by
  unfold submitRequest
  split
  · exact .refl s
  · split
    · exact .refl s
    · rename_i hnone
      exact takeOrder_steady r _ _ (State.tableFull_of_submitRefusal_none hnone)
  · exact .refl s

theorem retireRequest_steady (n : Nat) (s : State) : Steady s (retireRequest n s).1 := by
  unfold retireRequest
  split
  · exact .refl s
  · split
    · exact removeOrder_steady n s
    · exact .refl s

end Sys2Proof.Machine
end
section
/-! O4, O6, O7 and O8, settled: what the remaining requests, the resets, the emergency stop and the proving test keep. -/

namespace Sys2Proof.Machine

/-! ### Requests that keep what the routine events keep -/

theorem cancelRequest_keeps (n : Nat) (s : State) : Keeps True s (cancelRequest n s).1 := by
  unfold cancelRequest
  split
  · exact .refl s
  · rename_i o ho
    unfold cancelOrder
    split
    · exact endOrder_keeps ..
    · exact endWaiting_keeps ..
    · exact endWaiting_keeps ..
    · exact endWaiting_keeps ..
    · exact endWaiting_keeps ..
    · rename_i hmoving
      split
      · obtain ⟨hmem, -⟩ := State.mem_of_order ho
        exact toStopping_keeps _ _ _ ⟨o, hmem, rfl, by rw [hmoving]; rfl⟩
      · exact endPulse_keeps ..
    · exact modOrder_keeps_of_state _ s (fun o => by unfold Order.cancelStop; split <;> rfl)
        (fun o => by unfold Order.cancelStop; split <;> rfl) fun o => by unfold Order.cancelStop; split <;> rfl
    · exact modOrder_keeps_of_state _ s (fun o => by unfold Order.cancelStop; split <;> rfl)
        (fun o => by unfold Order.cancelStop; split <;> rfl) fun o => by unfold Order.cancelStop; split <;> rfl
    · exact .refl s

theorem vehicleRequest_keeps (r : VehicleReq) (s : State) : Keeps True s (vehicleRequest r s).1 := by
  have haccept : Keeps True s { s with vehicle := Vehicle.accept r (s.timing (·.status)) s.supply.time } := .of_core rfl
  unfold vehicleRequest acceptVehicle
  dsimp only
  split
  · split
    · exact .refl s
    · exact haccept.trans ((Keeps.ite (.refl _) (latch_keeps ..)).trans (capacityEvent_keeps _))
  · exact .refl s

theorem clearFaultsRequest_keeps (s : State) : Keeps True s (clearFaultsRequest s).1 :=
  (Keeps.of_core (s := s) (t := { s with faults := s.faults.clear }) rfl).trans (reportFlags_keeps ..)

theorem resetGroup_keeps (g : Group) (s : State) : Keeps True s (resetGroup g s) := by
  have habort : Keeps True s (abortGroup g s) := by
    unfold abortGroup
    exact .ite (abortOrders_keeps ..) ((abortOrders_keeps ..).trans (becomeIdle_keeps ..))
  exact habort.trans ((releaseAll_keeps ..).trans (setResetting_keeps ..))

theorem groupResetRequest_keeps (code : Byte) (s : State) : Keeps True s (groupResetRequest code s).1 := by
  unfold groupResetRequest
  (repeat' split)
  all_goals first | exact .refl s | exact resetGroup_keeps ..

/-! ### The stop machine and the proving test -/

theorem clearStop_steady (s : State) : Steady s (clearStop s) :=
  (Steady.of_tables (s := s) (t := setEstop .clear none s) rfl).trans
    (((removeFaults_keeps ..).trans ((reportFlags_keeps ..).trans (reportStopScene_keeps _))).steady)

theorem stopResetRequest_steady (s : State) : Steady s (stopResetRequest s).1 := by
  unfold stopResetRequest
  split
  · exact .refl s
  · exact .refl s
  · exact .refl s
  · exact clearStop_steady s

theorem modProve_steady (f : Prove → Prove) (s : State) : Steady s (s.modProve f) := .of_tables rfl

theorem startAllQueued_keeps {G : Prop} (s : State) : Keeps G s (startAllQueued s) :=
  .foldl (f := fun s (o : Order) => advanceGroup o.group s) (fun _ _ => advanceGroup_keeps ..) _ s

/-- R128: what the end of the test does after its result stands. -/
theorem endProve_keeps {G : Prop} (s : State) :
    ∃ u, u = (s.modProve fun x =>
      { x with overall := if s.allPass then .passed else .failed, failures := x.found, endedAt := some s.supply.time,
               driving := none, drive := none, gap := none }) ∧ Keeps G u (endProve s) := by
  refine ⟨_, rfl, ?_⟩
  unfold endProve
  dsimp only
  split
  · exact (removeFaults_keeps ..).trans ((reportFlags_keeps ..).trans (startAllQueued_keeps _))
  · exact (raiseFault_keeps ..).trans (startAllQueued_keeps _)

theorem endProve_steady (s : State) : Steady s (endProve s) := by
  obtain ⟨u, rfl, hend⟩ := endProve_keeps (G := True) s
  exact (modProve_steady _ s).trans hend.steady

theorem startProve_steady (s : State) : Steady s (startProve s) := by
  have hstart : Steady s (latch .provingFailed .none (s.modProve fun _ => Prove.start s.supply.time)) :=
    (modProve_steady _ s).trans (latch_keeps ..).steady
  unfold startProve
  dsimp only
  split
  · exact hstart.trans (endProve_steady _)
  · exact hstart

theorem proveRequest_steady (s : State) : Steady s (proveRequest s).1 := by
  unfold proveRequest
  split
  · exact .refl s
  · split
    · exact .refl s
    · exact startProve_steady s

/-- R127: the drive of a channel is over with a result, before the end of the test is judged. -/
def driveOver (c : Channel) (res : ChanResult) (s : State) : State :=
  let s := s.modProve fun x =>
    { x with results := x.results.set c res, driving := none, drive := none, next := c.val + 1,
             gap := some Config.provingGap }
  match channelPair c with
  | some p => startDead p none s
  | none => s

theorem finishDrive_eq (c : Channel) (res : ChanResult) (s : State) :
    finishDrive c res s =
      if ((driveOver c res s).nextVisit (c.val + 1)).isNone then endProve (driveOver c res s) else driveOver c res s := rfl

theorem driveOver_steady (c : Channel) (res : ChanResult) (s : State) : Steady s (driveOver c res s) := by
  unfold driveOver
  dsimp only
  split
  · exact (modProve_steady _ s).trans (startDead_keeps ..).steady
  · exact modProve_steady _ s

theorem finishDrive_steady (c : Channel) (res : ChanResult) (s : State) : Steady s (finishDrive c res s) := by
  rw [finishDrive_eq]
  split
  · exact (driveOver_steady ..).trans (endProve_steady _)
  · exact driveOver_steady ..

theorem coilShort_steady (c : Channel) (s : State) : Steady s (coilShort c s) := by
  unfold coilShort
  split
  · exact finishDrive_steady ..
  · split
    · exact ((release_keeps ..).trans ((raiseOnce_keeps ..).trans (coilReport_keeps ..))).steady
    · exact .refl s

theorem proveNext_steady (s : State) : Steady s (proveNext s) := by
  unfold proveNext
  split
  · exact modProve_steady ..
  · exact .refl s

theorem proveOver_steady (i : Nat) (s : State) : Steady s (proveOver i s) := by
  unfold proveOver
  split
  · exact .refl s
  · exact finishDrive_steady ..

theorem abandonProve_steady (s : State) : Steady s (abandonProve s) := by
  unfold abandonProve
  split
  · exact modProve_steady ..
  · exact .refl s

theorem estopFromClear_steady (s : State) : Steady s (estopFromClear s) := by
  have hstop : Steady s (setEstop .active none s) := .of_tables rfl
  refine hstop.trans ((releaseAll_keeps allChannels _).steady.trans ((abandonProve_steady _).trans (Keeps.steady ?_)))
  exact (emptyFlow_keeps _).trans ((abortOrders_keeps ..).trans ((idleAfter_keeps ..).trans
    ((raiseFault_keeps ..).trans (reportStopScene_keeps _))))

theorem loopOpens_steady (s : State) : Steady s (loopOpens s) := by
  have htaken : Steady s (takeLoop true (setLoopLine true s)) := .of_tables rfl
  unfold loopOpens estopOpening
  dsimp only
  split
  · split
    · exact htaken.trans (estopFromClear_steady _)
    · exact htaken
    · exact .of_tables rfl
    · exact .of_tables rfl
  · exact .of_tables rfl

/-! ### Resets -/

theorem emptyOrders_steady (s : State) : Steady s (emptyOrders s) where
  exclusive := by simp [emptyOrders, State.pairsExclusive, State.chan, Group.all]
  remainders := by simp [emptyOrders, State.remaindersSound, State.axisRec?, State.tracker, Group.all]
  bounded hb := by
    refine ⟨Nat.zero_le _, List.nodup_nil, by simp [emptyOrders, Sequencer.reset], le_refl 1, show 1 ≤ 65535 by decide, ?_⟩
    simpa [emptyOrders, Group.all] using hb.2.2.2.2.2
  unique _ _ := by simp [emptyOrders, State.uniqueActive, Sequencer.reset]

theorem emptied_steady (s : State) : Steady s (s.modLink Link.emptied) where
  exclusive := id
  remainders := id
  bounded := fun ⟨hlength, hnodup, hrange, hlow, hhigh, _⟩ => ⟨hlength, hnodup, hrange, hlow, hhigh, Nat.zero_le 2⟩
  unique _ := id

theorem resetFlow_steady (s : State) : Steady s (resetFlow s) := by
  unfold resetFlow
  dsimp only
  split
  · exact .of_tables rfl
  · exact .of_tables rfl

theorem clearWork_steady (t : Timer) (s : State) : Steady s (clearWork t s) := by
  have hreleased : Steady s (releaseDrive (emptyOrders (s.modLink Link.emptied))) :=
    (emptied_steady s).trans ((emptyOrders_steady _).trans ((abandonProve_steady _).trans (releaseAll_keeps ..).steady))
  have hvehicle (u : State) : Steady u { u with vehicle := Vehicle.reset } := .of_tables rfl
  have hinputs (u : State) : Steady u (resetInputs t u) := by
    have hlines (x : Operator) : Steady u { u with operator := x } := .of_tables rfl
    exact (hlines _).trans (refreshStops_keeps _).steady
  have hdark (u : State) : Steady u (darken (resetFaults u)) := .of_tables rfl
  exact hreleased.trans ((resetFlow_steady _).trans ((hvehicle _).trans ((hinputs _).trans (hdark _))))

theorem parkAll_keeps {G : Prop} (s : State) : Keeps G s (parkAll s) := .foldl (fun s a => recordParked_keeps a s) _ s

theorem heldEntry_steady (s : State) : Steady s (heldEntry s) := by
  have hheld (u : State) : Steady u (takeConditions
      (State.modSupply { u with operator := { u.operator with release := none } } fun x =>
        { x with mode := .held, standby := .none })) := .of_tables rfl
  exact (clearWork_steady none s).trans ((parkAll_keeps _).steady.trans (hheld _))

/-- R143: with the loop open the stop machine starts in ACTIVE with its entry. -/
theorem restartEstop_of_open {s : State} (h : s.operator.loopLine = true) :
    restartEstop s =
      (raise .estop .none
        { s with operator := { s.operator with estop := .active, loopOpen := true, release := none } }).noticeStop := by
  simp [restartEstop, h]

/-- R143: with the loop closed the stop machine starts in CLEAR, its entry removed. -/
theorem restartEstop_of_closed {s : State} (h : s.operator.loopLine = false) :
    restartEstop s =
      let u := removeFaults (·.is .estop .none)
        { s with operator := { s.operator with estop := .clear, loopOpen := false, release := none } }
      if s.operator.estop = .clear then u else u.noticeStop := by
  simp only [restartEstop, h, Bool.false_eq_true, if_false, Bool.or_false, decide_eq_true_eq, ne_eq]
  cases s.operator.estop <;> rfl

theorem restartEstop_steady (s : State) : Steady s (restartEstop s) := by
  have hmachine (e : EstopState) (v : Bool) :
      Steady s { s with operator := { s.operator with estop := e, loopOpen := v, release := none } } := .of_tables rfl
  have hnotice (u : State) : Steady u u.noticeStop := .of_tables rfl
  cases hline : s.operator.loopLine with
  | true =>
    rw [restartEstop_of_open hline]
    exact (hmachine ..).trans ((raise_keeps ..).steady.trans (hnotice _))
  | false =>
    rw [restartEstop_of_closed hline]
    have hentry := (hmachine .clear false).trans (removeFaults_keeps (G := True) (·.is .estop .none) _).steady
    dsimp only
    split
    · exact hentry
    · exact hentry.trans (hnotice _)

theorem restartTrackers_steady (s : State) : Steady s (restartTrackers s) := by
  refine .of_tables ?_
  have hrem (a : Axis) : ((restartTrackers s).tracker a).rem = (s.tracker a).rem := by
    rw [State.tracker, restartTrackers, mapTable_get]
    rfl
  simp [State.tables, hrem]

theorem warmTrackers_steady (c : ResetCause) (s : State) : Steady s (warmTrackers c s) := by
  unfold warmTrackers
  split
  · exact restartTrackers_steady s
  · exact (Keeps.trans (.ite (snapAll_keeps s) (.refl s)) (parkAll_keeps _)).steady

theorem warmReset_steady (c : ResetCause) (s : State) : Steady s (warmReset c s) := by
  have hlink (u : State) : Steady u
      (u.modLink fun l => { l with pendStop := false, pendFault := false, pendOrder := false }) := .of_tables rfl
  have hrun (u : State) : Steady u (startPlayers <| takeConditions <|
      u.modSupply fun x => { x with mode := .run, standby := .none, lastReset := c, awaitFirst := false }) :=
    .of_tables (by simp [State.tables, State.tracker])
  exact (hlink s).trans ((clearWork_steady _ _).trans ((restartEstop_steady _).trans ((warmTrackers_steady c _).trans (hrun _))))

theorem leaveStandby_steady (s : State) : Steady s (leaveStandby s) := by
  unfold leaveStandby
  dsimp only
  split
  · exact warmReset_steady ..
  · exact (warmReset_steady ..).trans (heldEntry_steady _)

theorem modSupply_steady (f : SupplyState → SupplyState) (s : State) : Steady s (s.modSupply f) := .of_tables rfl

theorem enableLow_steady (s : State) : Steady s (enableLow s) := by
  have hsupply := modSupply_steady (fun x => { x with enable := false, awaitFirst := false }) s
  unfold enableLow
  dsimp only
  split
  · exact hsupply.trans (heldEntry_steady _)
  · split
    · exact .of_tables rfl
    · exact hsupply
  · exact hsupply

theorem enableHigh_steady (s : State) : Steady s (enableHigh s) := by
  have hsupply := modSupply_steady (fun x => { x with enable := true, awaitFirst := false }) s
  unfold enableHigh
  dsimp only
  split
  · exact hsupply
  · split
    · exact hsupply.trans (.of_tables (by simp [State.tables, State.tracker, State.inMode]))
    · exact hsupply.trans (warmReset_steady ..)
  · exact hsupply.trans (leaveStandby_steady _)

theorem lineBreak_steady (s : State) : Steady s (lineBreak s) := by
  have hreported : Steady s (s.modLink fun l => { l with breakReported := true }) := .of_tables rfl
  unfold lineBreak
  dsimp only
  split
  · exact .refl s
  · split
    · exact hreported.trans (warmReset_steady ..)
    · exact hreported
    · exact hreported.trans (leaveStandby_steady _)

theorem standbyDue_steady (s : State) : Steady s (standbyDue s) := by
  unfold standbyDue
  split
  · refine (releaseAll_keeps allChannels s).steady.trans (.of_tables ?_)
    have hrem (v : Vector Tracker 5) (a : Axis) : ((mapTable Tracker.standBy v)[a.idx]).rem = (v[a.idx]).rem := by
      rw [mapTable_get]; rfl
    simp only [State.tables, State.tracker, enterStandby, hrem]
  · exact .refl s

/-! ### The link -/

theorem freePlace_length (ps : List Place) : (freePlace ps).length ≤ ps.length := by
  induction ps with
  | nil => exact le_refl _
  | cons p rest ih =>
    unfold freePlace
    split
    · simp
    · simpa using ih

/-- R184: fewer places, or as many. -/
theorem modLink_steady {f : Link → Link} {s : State} (h : s.link.places.length ≤ 2 → (f s.link).places.length ≤ 2) :
    Steady s (s.modLink f) where
  exclusive := id
  remainders := id
  bounded := fun ⟨hlength, hnodup, hrange, hlow, hhigh, hplaces⟩ => ⟨hlength, hnodup, hrange, hlow, hhigh, h hplaces⟩
  unique _ := id

theorem Steady.ite {P : Prop} [Decidable P] {s t u : State} (ht : Steady s t) (hu : Steady s u) :
    Steady s (if P then t else u) := by
  split
  · exact ht
  · exact hu

theorem frameGone_steady (s : State) : Steady s (frameGone s) := by
  unfold frameGone
  split
  · exact .refl s
  · exact modLink_steady id
  · rename_i r _
    have hgone : Steady s (s.modLink fun l =>
        { l with tx := none, places := if r.freesPlace then freePlace l.places else l.places }) := by
      refine modLink_steady fun hplaces => ?_
      dsimp only
      split
      · exact (freePlace_length _).trans hplaces
      · exact hplaces
    have hreplied (u : State) : Steady u { u with supply := { u.supply with standby := .replied } } := .of_tables rfl
    exact .ite (hgone.trans (hreplied _)) hgone

theorem queueReply_steady (p : Bool) (k tag : Byte) (r : Reply) (s : State) : Steady s (queueReply p k tag r s) :=
  modLink_steady id

theorem IsOwner.steady {f : State → State × Reply} (hf : IsOwner f) (s : State) : Steady s (f s).1 := by
  cases hf with
  | fitEquipment => exact lockedWrite_outcome (.refl s) fun _ => modFitment_steady rfl
  | fitAxis => exact fitAxisRequest_steady ..
  | fitChannel => exact lockedWrite_outcome (.refl s) fun _ => modFitment_steady rfl
  | fitFlow => exact lockedWrite_outcome (.refl s) fun _ => modFitment_steady rfl
  | fitProfile => exact lockedWrite_outcome (.refl s) fun _ => modFitment_steady rfl
  | fitTiming => exact lockedWrite_outcome (.refl s) fun _ => modFitment_steady rfl
  | fitPolicy => exact lockedWrite_outcome (.refl s) fun _ => (modFitment_steady rfl).trans (refreshStops_keeps _).steady
  | fitInterlock =>
    unfold fitInterlockRequest
    split
    · exact lockedWrite_outcome (.refl s) fun _ => modFitment_steady rfl
    · exact .refl s
  | fitLamps => exact lockedWrite_outcome (.refl s) fun _ => .of_tables (by simp [State.tables, State.tracker, LampPair.all, State.modFitment])
  | fitPattern =>
    unfold fitPatternRequest
    split
    · exact openWrite_outcome (.refl s) (.of_tables (by simp [State.tables, State.tracker, State.modFitment]))
    · exact .refl s
  | fitScene => exact openWrite_outcome (.refl s) (.of_tables (by simp [State.tables, State.tracker, State.modFitment]))
  | fitLock => exact fitLockRequest_steady s
  | submit => exact submitRequest_steady ..
  | cancel => exact (cancelRequest_keeps ..).steady
  | retire => exact retireRequest_steady ..
  | vehicle => exact (vehicleRequest_keeps ..).steady
  | clearFaults => exact (clearFaultsRequest_keeps s).steady
  | groupReset => exact (groupResetRequest_keeps ..).steady
  | stopReset => exact stopResetRequest_steady s
  | prove => exact proveRequest_steady s
  | fitRead | queryOrder | queryTable | queryAxes | queryStatus | queryFaults | queryProve | beaconOverride | setOutput
  | standby => exact .of_tables (by simp [State.tables, State.tracker])

theorem Happens.steady {s a : State} (h : Happens s a) : Steady s a := by
  cases h with
  | request hf => exact (hf.steady s).trans (queueReply_steady ..)
  | receiver hf => exact modLink_steady (hf _)
  | routine hf => exact (hf.keeps s).steady
  | enableTakenLow => exact enableLow_steady s
  | enableTakenHigh => exact enableHigh_steady s
  | lineBreak => exact lineBreak_steady s
  | standbyEntry => exact standbyDue_steady s
  | requestHandedOn =>
    exact handOn_outcome (P := Steady s) (.refl s) (fun ps _ hlength => modLink_steady (by simp [hlength]))
      (fun u f hf _ hu => hu.trans (hf.steady u)) (fun u kind tag r hu => hu.trans (queueReply_steady ..))
  | frameSent => exact frameGone_steady s
  | pulseCounted => exact (pulse_keeps ..).steady
  | homeSwitchDebounceExpiry => exact (homeExpiry_keeps ..).steady
  | loopOpening => exact loopOpens_steady s
  | loopClosing => exact .of_tables (by simp [State.tables, State.tracker])
  | releaseTimerExpiry => exact .of_tables (by simp [State.tables, State.tracker])
  | coilShortDetected => exact coilShort_steady ..
  | provingDriveStart => exact proveNext_steady s
  | provingDriveEnd => exact proveOver_steady ..

/-! ### The end of an event, time, and power-on -/

theorem finish_records (b a : State) : (finish b a).records = a.records := (State.quiet_seq (quiet_finish b a)).1

/-- The end of an event keeps the records but for their noticed fields. -/
theorem finish_steady (b a : State) : Steady a (finish b a) := by
  obtain ⟨hrecords, hnext, -⟩ := State.quiet_seq (quiet_finish b a)
  obtain ⟨-, -, -, -, -, -, hplaces, -⟩ := State.quiet_link (quiet_finish b a)
  have hview {α : Type} (f : Order → α) (hf : ∀ o, f o.unmarked = f o) :
      (finish b a).seq.orders.map f = a.seq.orders.map f := by
    have := congrArg (List.map f) hrecords
    simpa only [State.records, List.map_map, Function.comp_def, hf] using this
  have hnumbers : (finish b a).numbers = a.numbers := hview (·.number) fun _ => rfl
  refine ⟨?_, ?_, ?_, fun _ hunique x hx y hy => ?_⟩
  · simp [State.pairsExclusive, State.chan]
  · simp [State.remaindersSound, State.axisRec?, State.tracker]
  · rw [State.tablesBounded_iff, State.tablesBounded_iff, hnumbers, hnext, hplaces]
    exact id
  · have hsame (z : Order) (hz : z ∈ (finish b a).seq.orders) :
        ∃ w ∈ a.seq.orders, (w.number, w.group, w.state) = (z.number, z.group, z.state) :=
      List.mem_map.1 (hview (fun o => (o.number, o.group, o.state)) (fun _ => rfl) ▸ List.mem_map_of_mem hz)
    obtain ⟨x', hx', hxeq⟩ := hsame x hx
    obtain ⟨y', hy', hyeq⟩ := hsame y hy
    simp only [Prod.mk.injEq] at hxeq hyeq
    obtain ⟨hxn, hxg, hxs⟩ := hxeq
    obtain ⟨hyn, hyg, hys⟩ := hyeq
    rw [← hxn, ← hyn, ← hxg, ← hyg, ← hxs, ← hys]
    exact hunique x' hx' y' hy'

theorem tickOrder_same (s : State) (o : Order) :
    (s.tickOrder o).number = o.number ∧ (s.tickOrder o).group = o.group ∧ (s.tickOrder o).state = o.state := by
  unfold State.tickOrder
  split <;> exact ⟨rfl, rfl, rfl⟩

theorem tickAwake_steady (s : State) : Steady s (tickAwake s) := by
  refine .of_tables ?_
  have hrem : (fun a => ((tickAwake s).tracker a).rem) = fun a => (s.tracker a).rem := by
    funext a
    rw [tickAwake_tracker]
    rfl
  simp only [State.tables, hrem]
  rfl

theorem tickRun_chan (s : State) (c : Channel) : (tickRun s).chan c = (s.chan c).tick := mapTable_get _ _ _

theorem tickRun_steady (s : State) : Steady s (tickRun s) where
  exclusive h p := by
    rw [tickRun_chan, tickRun_chan]
    exact h p
  remainders := id
  bounded := by
    have hnumbers : (tickRun s).numbers = s.numbers := by
      simp only [State.numbers, tickRun, List.map_map]
      exact List.map_congr_left fun o _ => (tickOrder_same s o).1
    rw [State.tablesBounded_iff, State.tablesBounded_iff, hnumbers]
    exact id
  unique _ hunique x' hx' y' hy' := by
    obtain ⟨x, hx, rfl⟩ := List.mem_map.1 hx'
    obtain ⟨y, hy, rfl⟩ := List.mem_map.1 hy'
    obtain ⟨hxn, hxg, hxs⟩ := tickOrder_same s x
    obtain ⟨hyn, hyg, hys⟩ := tickOrder_same s y
    rw [hxn, hxg, hxs, hyn, hyg, hys]
    exact hunique x hx y hy

theorem tick_steady (s : State) : Steady s (tick s) := by
  unfold tick
  split
  · exact (tickAwake_steady s).trans (tickRun_steady _)
  · exact tickAwake_steady s
  · exact .refl s

/-- R179: what a power-on reset leaves of the blocks that Steady reads. -/
theorem powerOn_tables (s : State) :
    (powerOn s).fitment = Fitment.reset ∧ (powerOn s).drive = Drive.reset ∧ (powerOn s).link.places = [] ∧
      (powerOn s).seq = Sequencer.reset := by
  unfold powerOn
  dsimp only
  split
  · refine ⟨by simp [State.overLines, State.reset], by simp [State.overLines, State.reset], ?_, by simp [State.overLines, State.reset]⟩
    exact (raise_keeps (G := True) .estop .none _).places
  · exact ⟨rfl, rfl, rfl, rfl⟩

theorem powerOn_steady (s u : State) : Steady u (powerOn s) := by
  obtain ⟨hfitment, hdrive, hplaces, hseq⟩ := powerOn_tables s
  refine ⟨fun _ p => .inl ?_, fun _ a r hr => ?_, fun _ => ?_, fun _ _ => ?_⟩
  · simp [State.chan, hdrive, Drive.reset, Chan.reset]
  · simp [State.axisRec?, hfitment, Fitment.reset] at hr
  · simp [State.tablesBounded, hseq, hplaces, Sequencer.reset]
  · simp [State.uniqueActive, hseq, Sequencer.reset]

theorem step_steady {s t : State} (h : step s = .next t) : Steady s t :=
  step_keeps (P := Steady s) (fun _ _ hu => hu.trans (.of_tables rfl)) (fun u => powerOn_steady u s)
    (fun _ _ hhappens hu => hu.trans hhappens.steady) (fun b a ha => ha.trans (finish_steady b a))
    (fun u hu => hu.trans (tick_steady u)) (.refl s) h

/-- Settles O4: the outputs of IDLE channels are off but for a proving drive. -/
theorem pairMembersStayExclusive : Obligations.PairMembersStayExclusive := by
  intro s t h hstep
  have hexclusive := (step_steady hstep).exclusive h
  refine ⟨hexclusive, fun hnone p ⟨heven, hodd⟩ => ?_⟩
  have hoff {c : Channel} (hidle : (t.chan c).state = .idle) : t.outputOn c = false :=
    State.outputOn_of_idle t (by simp [hnone]) hidle
  rcases hexclusive p with hidle | hidle
  · rw [hoff hidle] at heven
    exact Bool.false_ne_true heven
  · rw [hoff hidle] at hodd
    exact Bool.false_ne_true hodd

/-- Settles O6. -/
theorem tablesStayBounded : Obligations.TablesStayBounded := fun _ _ h hstep => (step_steady hstep).bounded h

/-- Settles O7: with distinct numbers, one active order for each group is uniqueness of the active records. -/
theorem oneActiveOrderPerGroup : Obligations.OneActiveOrderPerGroup := by
  intro s t hbounded hone hstep
  have hsteady := step_steady hstep
  have hnumbers (u : State) (h : u.tablesBounded) : u.numbers.Nodup := h.2.1
  exact (State.oneActiveEach_iff (hnumbers t (hsteady.bounded hbounded))).2
    (hsteady.unique hbounded ((State.oneActiveEach_iff (hnumbers s hbounded)).1 hone))

/-- Settles O8. -/
theorem remaindersStayInRange : Obligations.RemaindersStayInRange := fun _ _ h hstep => (step_steady hstep).remainders h

end Sys2Proof.Machine
end

section
/-! O5: outside RUN and while stopped everything is off. Routine events keep it by Keeps; while the part is stopped no order is
active, and what an event does without one reaches no output. -/

namespace Sys2Proof.Machine

variable {G : Prop}

/-! ### The invariant -/

theorem State.allOff_iff (s : State) :
    s.allOff ↔ s.driveOff ∧ s.flowOff ∧ s.allEnded ∧ s.proving = false ∧ s.drive.prove.driving = none := by
  simp only [State.allOff, State.driveOff, State.flowOff, State.allEnded]
  tauto

theorem Keeps.proving {s t : State} (h : Keeps G s t) : t.proving = s.proving := by simp only [State.proving, h.prove]

/-- While the Drive Unit takes no commands, everything stays off. -/
theorem Keeps.allOff {s t : State} (h : Keeps True s t) (htakes : s.driveTakes = false) (hoff : s.allOff) : t.allOff := by
  rw [State.allOff_iff] at hoff ⊢
  obtain ⟨hdrive, hflow, hended, hproving, hdriving⟩ := hoff
  exact ⟨h.driveOff htakes hdrive, h.flowOff trivial hended hflow, h.ended trivial hended, h.proving.trans hproving,
    by rw [h.prove]; exact hdriving⟩

theorem driveTakes_eq_false {s : State} (h : s.supply.mode ≠ .run ∨ s.operator.estop ≠ .clear) : s.driveTakes = false := by
  rcases h with h | h <;> simp [State.driveTakes, h]

theorem Keeps.stopSound {s t : State} (h : Keeps True s t) (hs : s.stopSound) : t.stopSound := by
  obtain ⟨hoff, hstandby, hdriving⟩ := hs
  refine ⟨fun hout => ?_, fun hne => ?_, fun hne => ?_⟩
  · rw [h.supply, h.estop] at hout
    exact h.allOff (driveTakes_eq_false hout) (hoff hout)
  · rw [h.supply] at hne
    exact ⟨h.ended trivial (hstandby hne).1, h.proving.trans (hstandby hne).2⟩
  · rw [h.prove] at hne
    exact h.proving.trans (hdriving hne)

/-- What the invariant reads of a state. -/
def State.stopView (s : State) :=
  (s.supply.mode, s.supply.standby, s.operator.estop, s.drive, s.seq.orders, s.flow.pump, s.flow.waiting, s.flow.granted)

theorem stopSound_of_view {s t : State} (h : t.stopView = s.stopView) (hs : s.stopSound) : t.stopSound := by
  simp only [State.stopView, Prod.mk.injEq] at h
  obtain ⟨hmode, hstandby, hestop, hdrive, horders, hpump, hwaiting, hgranted⟩ := h
  simpa only [State.stopSound, State.allOff, State.chan, State.pair, State.proving, hmode, hstandby, hestop, hdrive, horders,
    hpump, hwaiting, hgranted] using hs

/-- R141, R180: in RUN with the stop machine CLEAR and no STANDBY accepted, the invariant speaks of a proving drive alone. -/
theorem stopSound_of_working {s : State} (hmode : s.supply.mode = .run) (hclear : s.operator.estop = .clear)
    (hstandby : s.supply.standby = .none) (hdriving : s.drive.prove.driving ≠ none → s.proving = true) : s.stopSound :=
  ⟨fun h => (h.elim (absurd hmode) (absurd hclear)), fun h => absurd hstandby h, hdriving⟩

theorem stopSound_of_allOff {s : State} (h : s.allOff) : s.stopSound := by
  obtain ⟨-, -, hended, hproving, hdriving⟩ := (State.allOff_iff s).1 h
  exact ⟨fun _ => h, fun _ => ⟨hended, hproving⟩, fun hne => absurd hdriving hne⟩

/-- R126: while a test runs the part is at work. -/
theorem State.stopSound.working {s : State} (h : s.stopSound) (hproving : s.proving = true) :
    s.supply.mode = .run ∧ s.operator.estop = .clear ∧ s.supply.standby = .none := by
  obtain ⟨hoff, hstandby, -⟩ := h
  have hout (hout : s.supply.mode ≠ .run ∨ s.operator.estop ≠ .clear) : False := by
    have := (hoff hout).2.2.2.2.2.2.1
    rw [hproving] at this
    exact Bool.noConfusion this
  refine ⟨?_, ?_, ?_⟩
  · by_contra hne; exact hout (.inl hne)
  · by_contra hne; exact hout (.inr hne)
  · by_contra hne
    have := (hstandby hne).2
    rw [hproving] at this
    exact Bool.noConfusion this

/-! ### Requests -/

theorem State.samePlant.stopSound {s t : State} (h : s.samePlant t) (hsupply : t.supply = s.supply) (hs : s.stopSound) :
    t.stopSound := by
  obtain ⟨-, hseq, hflow, -, -, hdrive, hoperator, -⟩ := h
  exact stopSound_of_view (by simp only [State.stopView, hsupply, hseq, hflow, hdrive, hoperator]) hs

theorem fitAxisRequest_stopSound (r : AxisReq) {s : State} (hs : s.stopSound) : (fitAxisRequest r s).1.stopSound := by
  unfold fitAxisRequest
  split
  · exact lockedWrite_outcome hs fun _ => stopSound_of_view rfl hs
  · exact lockedWrite_outcome hs fun _ => hs

theorem fitPolicyRequest_stopSound (r : PolicyReq) {s : State} (hs : s.stopSound) : (fitPolicyRequest r s).1.stopSound :=
  lockedWrite_outcome hs fun _ => (refreshStops_keeps _).stopSound (stopSound_of_view (s := s) rfl hs)

theorem fitLockRequest_stopSound {s : State} (hs : s.stopSound) : (fitLockRequest s).1.stopSound := by
  unfold fitLockRequest
  split
  · exact hs
  · split
    · exact hs
    · exact (snapAll_keeps _).stopSound (stopSound_of_view (s := s) rfl hs)

theorem takeOrder_prove (r : SubmitReq) (k : OrderKind) (b : Binding) (s : State) :
    (takeOrder r k b s).1.drive.prove = s.drive.prove := by
  have hadvanced (c : Prop) [Decidable c] (u : State) :
      Keeps True u (advanceGroup r.group (if c then ceaseIdle r.group u else u)) :=
    (Keeps.ite (ceaseIdle_keeps r.group u) (.refl u)).trans (advanceGroup_keeps r.group _)
  unfold takeOrder
  dsimp only
  split
  · rw [(hadvanced _ _).prove]; simp
  · rw [(hadvanced _ _).prove]; simp

/-- R11: SUBMIT takes an order while the stop machine is CLEAR alone. -/
theorem State.clear_of_submitRefusal_none {s : State} {g : Group} {k : OrderKind} {b : Binding}
    (h : s.submitRefusal? g k b = none) : s.operator.estop = .clear := by
  by_contra hstop
  unfold State.submitRefusal? at h
  simp only [if_pos hstop] at h
  (repeat' split at h) <;> simp at h

theorem submitRequest_stopSound (r : SubmitReq) {s : State} (h : s.answers) (hs : s.stopSound) :
    (submitRequest r s).1.stopSound := by
  unfold submitRequest
  split
  · exact hs
  · rename_i k b _ _ _
    split
    · exact hs
    · rename_i hnone
      obtain ⟨-, -, hdriving⟩ := hs
      refine stopSound_of_working (by simpa using h.1) (by simpa using State.clear_of_submitRefusal_none hnone)
        (by simpa using h.2) ?_
      simpa only [State.proving, takeOrder_prove] using hdriving
  · exact hs

theorem removeOrder_stopSound (n : Nat) {s : State} (hs : s.stopSound) : (removeOrder n s).stopSound := by
  obtain ⟨hoff, hstandby, hdriving⟩ := hs
  have hended (h : s.allEnded) : (removeOrder n s).allEnded := fun o ho => h o (List.mem_of_mem_filter ho)
  refine ⟨fun hout => ?_, fun hne => ⟨hended (hstandby hne).1, (hstandby hne).2⟩, hdriving⟩
  have := (State.allOff_iff s).1 (hoff hout)
  exact (State.allOff_iff _).2 ⟨this.1, this.2.1, hended this.2.2.1, this.2.2.2⟩

theorem retireRequest_stopSound (n : Nat) {s : State} (hs : s.stopSound) : (retireRequest n s).1.stopSound := by
  unfold retireRequest
  split
  · exact hs
  · split
    · exact removeOrder_stopSound n hs
    · exact hs

theorem clearStop_keeps (s : State) : Keeps True (setEstop .clear none s) (clearStop s) :=
  (removeFaults_keeps ..).trans ((reportFlags_keeps ..).trans (reportStopScene_keeps _))

theorem stopResetRequest_stopSound {s : State} (h : s.answers) (hs : s.stopSound) : (stopResetRequest s).1.stopSound := by
  unfold stopResetRequest
  split
  · exact hs
  · exact hs
  · exact hs
  · exact (clearStop_keeps s).stopSound (stopSound_of_working h.1 rfl h.2 hs.2.2)

/-- R128: the end of a test leaves no proving drive. -/
theorem endProve_stopSound {s : State} (hmode : s.supply.mode = .run) (hclear : s.operator.estop = .clear)
    (hstandby : s.supply.standby = .none) : (endProve s).stopSound := by
  obtain ⟨u, hu, hend⟩ := endProve_keeps (G := True) s
  refine hend.stopSound ?_
  rw [hu]
  exact stopSound_of_working hmode hclear hstandby fun h => absurd rfl h

theorem startProve_stopSound {s : State} (hmode : s.supply.mode = .run) (hclear : s.operator.estop = .clear)
    (hstandby : s.supply.standby = .none) : (startProve s).stopSound := by
  unfold startProve
  dsimp only
  split
  · exact endProve_stopSound hmode hclear hstandby
  · exact stopSound_of_working hmode hclear hstandby fun h => absurd rfl h

theorem proveRequest_stopSound {s : State} (h : s.answers) (hs : s.stopSound) : (proveRequest s).1.stopSound := by
  unfold proveRequest
  split
  · exact hs
  · split
    · exact hs
    · rename_i hready
      simp only [Bool.or_eq_true, decide_eq_true_eq, not_or, not_not] at hready
      obtain ⟨⟨⟨-, hclear⟩, -⟩, -⟩ := hready
      exact startProve_stopSound h.1 hclear h.2

theorem standbyRequest_stopSound {s : State} (hs : s.stopSound) : (standbyRequest s).1.stopSound := by
  unfold standbyRequest
  split
  · rename_i hmay
    simp only [State.mayStandBy, Bool.and_eq_true, List.all_eq_true, decide_eq_true_eq, Bool.not_eq_true'] at hmay
    obtain ⟨⟨hended, hproving⟩, -⟩ := hmay
    exact ⟨hs.1, fun _ => ⟨hended, hproving⟩, hs.2.2⟩
  · exact hs

theorem IsOwner.stopSound {f : State → State × Reply} (hf : IsOwner f) {s : State} (h : s.answers) (hs : s.stopSound) :
    (f s).1.stopSound := by
  cases hf with
  | fitEquipment => exact (fitEquipmentRequest_samePlant _ s).stopSound (by simp) hs
  | fitAxis => exact fitAxisRequest_stopSound _ hs
  | fitChannel => exact (fitChannelRequest_samePlant _ s).stopSound (by simp) hs
  | fitFlow => exact (fitFlowRequest_samePlant _ s).stopSound (by simp) hs
  | fitProfile => exact (fitProfileRequest_samePlant _ s).stopSound (by simp) hs
  | fitTiming => exact (fitTimingRequest_samePlant _ s).stopSound (by simp) hs
  | fitPolicy => exact fitPolicyRequest_stopSound _ hs
  | fitInterlock => exact (fitInterlockRequest_samePlant _ s).stopSound (by simp) hs
  | fitLamps => exact (fitLampsRequest_samePlant _ s).stopSound (by simp) hs
  | fitPattern => exact (fitPatternRequest_samePlant _ s).stopSound (by simp) hs
  | fitScene => exact (fitSceneRequest_samePlant _ s).stopSound (by simp) hs
  | fitLock => exact fitLockRequest_stopSound hs
  | submit => exact submitRequest_stopSound _ h hs
  | cancel => exact (cancelRequest_keeps ..).stopSound hs
  | retire => exact retireRequest_stopSound _ hs
  | vehicle => exact (vehicleRequest_keeps ..).stopSound hs
  | clearFaults => exact (clearFaultsRequest_keeps s).stopSound hs
  | groupReset => exact (groupResetRequest_keeps ..).stopSound hs
  | stopReset => exact stopResetRequest_stopSound h hs
  | prove => exact proveRequest_stopSound h hs
  | standby => exact standbyRequest_stopSound hs
  | fitRead | queryOrder | queryTable | queryAxes | queryStatus | queryFaults | queryProve | beaconOverride | setOutput =>
    exact stopSound_of_view (by simp [State.stopView]) hs

/-! ### The proving test -/

theorem driveOver_prove (c : Channel) (res : ChanResult) (s : State) :
    (driveOver c res s).drive.prove.driving = none ∧ (driveOver c res s).supply = s.supply ∧
      (driveOver c res s).operator.estop = s.operator.estop := by
  unfold driveOver
  dsimp only
  split
  · have h := startDead_keeps (G := True) ‹_› none (s.modProve fun x =>
      { x with results := x.results.set c res, driving := none, drive := none, next := c.val + 1,
               gap := some Config.provingGap })
    exact ⟨by rw [h.prove]; rfl, h.supply, h.estop⟩
  · exact ⟨rfl, rfl, rfl⟩

theorem finishDrive_stopSound (c : Channel) (res : ChanResult) {s : State} (hs : s.stopSound) (hproving : s.proving = true) :
    (finishDrive c res s).stopSound := by
  obtain ⟨hmode, hclear, hstandby⟩ := hs.working hproving
  obtain ⟨hdriving, hsupply, hestop⟩ := driveOver_prove c res s
  rw [← hsupply] at hmode hstandby
  rw [← hestop] at hclear
  rw [finishDrive_eq]
  split
  · exact endProve_stopSound hmode hclear hstandby
  · exact stopSound_of_working hmode hclear hstandby fun h => absurd hdriving h

theorem coilShort_stopSound (c : Channel) {s : State} (hs : s.stopSound) : (coilShort c s).stopSound := by
  unfold coilShort
  split
  · rename_i hdriving
    exact finishDrive_stopSound _ _ hs (hs.2.2 (by simp [hdriving]))
  · split
    · exact ((release_keeps ..).trans ((raiseOnce_keeps ..).trans (coilReport_keeps ..))).stopSound hs
    · exact hs

theorem proveOver_stopSound (i : Nat) {s : State} (hs : s.stopSound) : (proveOver i s).stopSound := by
  unfold proveOver
  split
  · exact hs
  · rename_i hdriving
    exact finishDrive_stopSound _ _ hs (hs.2.2 (by simp [hdriving]))

theorem proveNext_stopSound {s : State} (hs : s.stopSound) : (proveNext s).stopSound := by
  unfold proveNext
  split
  · rename_i hmay
    have hproving : s.proving = true := by
      unfold State.mayDrive? at hmay
      split at hmay
      · rename_i h
        simp only [Bool.and_eq_true] at h
        exact h.1.1
      · simp at hmay
    obtain ⟨hmode, hclear, hstandby⟩ := hs.working hproving
    exact stopSound_of_working hmode hclear hstandby fun _ => hproving
  · exact hs

end Sys2Proof.Machine
end
section
/-! O5, settled: releases, aborted orders and the resets turn everything off. -/

namespace Sys2Proof.Machine

/-! ### Releases -/

@[simp] theorem startDead_chan (p : PairNo) (m : Option Member) (s : State) (c : Channel) :
    (startDead p m s).chan c = s.chan c := by
  unfold startDead
  split <;> rfl

@[simp] theorem startDead_waiting (p : PairNo) (m : Option Member) (s : State) (q : PairNo) :
    ((startDead p m s).pair q).waiting = (s.pair q).waiting := by
  have hmod (f : Pair → Pair) (hf : ∀ x, (f x).waiting = x.waiting) : ((s.modPair p f).pair q).waiting = (s.pair q).waiting := by
    rw [modPair_waiting]
    split
    · rename_i h; subst h; exact hf _
    · rfl
  unfold startDead
  split
  · exact hmod _ fun _ => rfl
  · exact hmod (fun x => { x with dead := some (Config.absentDeadTime s.free).val, resumable := m }) fun _ => rfl

@[simp] theorem clearWaiting_chan (p : PairNo) (m : Member) (s : State) (c : Channel) :
    (clearWaiting p m s).chan c = s.chan c := rfl

theorem clearWaiting_waiting (p q : PairNo) (m : Member) (s : State) :
    ((clearWaiting p m s).pair q).waiting =
      if p = q ∧ (s.pair q).waiting.map (·.1) = some m then none else (s.pair q).waiting := by
  rw [clearWaiting, modPair_waiting]
  by_cases hpq : p = q
  · subst hpq
    simp only [if_true, true_and]
    split <;> rfl
  · simp [hpq]

/-- R117: a release resets its channel and no other. -/
theorem release_chan (c d : Channel) (s : State) : (release c s).chan d = if c = d then Chan.reset else s.chan d := by
  have hreset : (s.modChan c fun _ => Chan.reset).chan d = if c = d then Chan.reset else s.chan d := by
    split
    · rename_i h; subst h; exact State.modChan_chan_self ..
    · rename_i h; exact State.modChan_chan_ne s h _
  unfold release
  dsimp only
  split
  · rw [startDead_chan, clearWaiting_chan]; exact hreset
  · exact hreset

/-- R117: a release clears the waiting command of its channel and no other. -/
theorem release_waiting (c : Channel) (q : PairNo) (s : State) :
    ((release c s).pair q).waiting =
      if channelPair c = some q ∧ (s.pair q).waiting.map (·.1) = some (channelMember c) then none else (s.pair q).waiting := by
  unfold release
  dsimp only
  split
  · rename_i p hp
    rw [startDead_waiting, clearWaiting_waiting]
    simp only [hp, Option.some.injEq]
    rfl
  · rename_i hp
    simp only [hp, reduceCtorEq, false_and, if_false]
    rfl

/-- The channel is IDLE and its pair holds no command for it. -/
def State.released (s : State) (c : Channel) : Prop :=
  (s.chan c).state = .idle ∧ ∀ p, channelPair c = some p → (s.pair p).waiting.map (·.1) ≠ some (channelMember c)

theorem release_released (c : Channel) (s : State) : (release c s).released c := by
  refine ⟨by rw [release_chan, if_pos rfl]; rfl, fun p hp => ?_⟩
  rw [release_waiting]
  split
  · simp
  · rename_i h
    exact fun heq => h ⟨hp, heq⟩

theorem State.released.release {s : State} {d : Channel} (h : s.released d) (c : Channel) : (release c s).released d := by
  refine ⟨?_, fun p hp => ?_⟩
  · rw [release_chan]
    split
    · rfl
    · exact h.1
  · rw [release_waiting]
    split
    · simp
    · exact h.2 p hp

theorem State.released.releaseAll {s : State} {d : Channel} (h : s.released d) (cs : List Channel) :
    (releaseAll cs s).released d := by
  induction cs generalizing s with
  | nil => exact h
  | cons c rest ih => exact ih (h.release c)

theorem releaseAll_released {cs : List Channel} {d : Channel} (h : d ∈ cs) (s : State) : (releaseAll cs s).released d := by
  induction cs generalizing s with
  | nil => simp at h
  | cons c rest ih =>
    rcases List.mem_cons.1 h with rfl | hmem
    · exact (release_released d s).releaseAll rest
    · exact ih hmem (release c s)

theorem channelPair_memberChannel (p : PairNo) (m : Member) :
    channelPair (memberChannel p m) = some p ∧ channelMember (memberChannel p m) = m := by
  cases m <;> revert p <;> decide

theorem mem_allChannels (c : Channel) : c ∈ allChannels := by
  revert c; decide

/-- R119: a release of every channel turns the Drive Unit off. -/
theorem releaseAll_driveOff (s : State) : (releaseAll allChannels s).driveOff := by
  have hall (c : Channel) := releaseAll_released (mem_allChannels c) s
  refine ⟨fun c => (hall c).1, fun p => ?_⟩
  cases hwaiting : ((releaseAll allChannels s).pair p).waiting with
  | none => rfl
  | some x =>
    obtain ⟨hpair, hmember⟩ := channelPair_memberChannel p x.1
    exact absurd (by rw [hwaiting, hmember]; rfl) ((hall (memberChannel p x.1)).2 p hpair)

/-! ### Without an active order -/

/-- What the invariant reads of a state besides the supply and the stop machine. -/
def State.offView (s : State) := (s.drive, s.seq.orders, s.flow.pump, s.flow.waiting, s.flow.granted)

theorem allOff_of_view {s t : State} (h : t.offView = s.offView) (hs : s.allOff) : t.allOff := by
  simp only [State.offView, Prod.mk.injEq] at h
  obtain ⟨hdrive, horders, hpump, hwaiting, hgranted⟩ := h
  simpa only [State.allOff, State.chan, State.pair, State.proving, hdrive, horders, hpump, hwaiting, hgranted] using hs

theorem State.allOff.ended {s : State} (h : s.allOff) : s.allEnded := ((State.allOff_iff s).1 h).2.2.1

theorem State.allOff.waiting {s : State} (h : s.allOff) : s.flow.waiting = [] := ((State.allOff_iff s).1 h).2.1.2.1

theorem immediateEnd_of_active_none {g : Group} {s : State} (h : s.active? g = none) (why : Reason) :
    immediateEnd g why s = s := by
  unfold immediateEnd
  rw [h]

theorem meetInhibit_of_active_none {g : Group} {s : State} (h : s.active? g = none) (old : Inhibits) :
    meetInhibit old g s = s := by
  unfold meetInhibit
  rw [h]

/-- R139: without an active order, a change of a stop state reaches the Operator Input Unit alone. -/
theorem refreshStop_of_active_none {g : Group} {s : State} (h : s.active? g = none) :
    refreshStop g s =
      { s with operator := { s.operator with obstructed := s.operator.obstructed.set g.idx (s.stopStateNow g) } } := by
  unfold refreshStop
  dsimp only
  split
  · exact immediateEnd_of_active_none (by exact h) _
  · rfl

theorem refreshStops_allOff {s : State} (h : s.allOff) : (refreshStops s).allOff := by
  have hone (g : Group) {u : State} (hu : u.allOff) : (refreshStop g u).allOff := by
    rw [refreshStop_of_active_none (State.active_none_of_allEnded hu.ended g)]
    exact hu
  exact hone .road (hone .kerb (hone .lift h))

/-- R165: changed flags reach no order while none is active, and grant nothing while no claim waits. -/
theorem reportFlags_allOff (old : Inhibits) {s : State} (h : s.allOff) : (reportFlags old s).allOff := by
  have hmeet : Group.all.foldl (fun s g => meetInhibit old g s) s = s := by
    simp only [Group.all, List.foldl_cons, List.foldl_nil,
      meetInhibit_of_active_none (State.active_none_of_allEnded h.ended _)]
  unfold reportFlags
  split
  · exact h
  · rw [hmeet]
    unfold reportCleared
    dsimp only
    rw [grantNow_of_waiting_nil h.waiting, ite_self]
    exact allOff_of_view (by simp [State.offView]) h

theorem raiseFaultOnce_allOff (code : FaultCode) (x : Subject) {s : State} (h : s.allOff) : (raiseFaultOnce code x s).allOff :=
  reportFlags_allOff _ (allOff_of_view (by simp [State.offView]) h)

theorem snapAll_allOff {s : State} (h : s.allOff) : (snapAll s).allOff := by
  have hsnap (a : Axis) {u : State} (hu : u.allOff) : (snapIfActive a u).allOff := by
    unfold snapIfActive snap
    split
    · split
      · exact hu
      · dsimp only
        refine allOff_of_view (s := if _ then _ else _) rfl ?_
        split
        · exact raiseFaultOnce_allOff _ _ hu
        · exact hu
    · exact hu
  exact hsnap .sr (hsnap .sk (hsnap .tl (hsnap .lr (hsnap .lk h))))

/-! ### Resets -/

theorem abandonProve_prove {s : State} (hdriving : s.drive.prove.driving ≠ none → s.proving = true) :
    (abandonProve s).proving = false ∧ (abandonProve s).drive.prove.driving = none := by
  unfold abandonProve
  split
  · exact ⟨rfl, rfl⟩
  · rename_i h
    have hproving : s.proving = false := by simpa [State.proving] using h
    refine ⟨hproving, ?_⟩
    by_contra hne
    rw [hdriving hne] at hproving
    exact Bool.noConfusion hproving

theorem abandonProve_driveOff {s : State} (h : s.driveOff) : (abandonProve s).driveOff := by
  unfold abandonProve
  split
  · exact h
  · exact h

theorem clearWork_allOff (t : Timer) {s : State} (hdriving : s.drive.prove.driving ≠ none → s.proving = true) :
    (clearWork t s).allOff := by
  obtain ⟨hproving, hnone⟩ := abandonProve_prove (s := emptyOrders (s.modLink Link.emptied))
    (by simpa [emptyOrders, Group.all, State.proving] using hdriving)
  have hprove := (releaseAll_keeps (G := True) allChannels (abandonProve (emptyOrders (s.modLink Link.emptied)))).prove
  have hreleased : (releaseDrive (emptyOrders (s.modLink Link.emptied))).seq.orders = [] := by
    simp [releaseDrive, emptyOrders, Sequencer.reset]
  have hflow (u : State) (hoff : u.driveOff) (hall : u.seq.orders = []) (hp : u.proving = false)
      (hd : u.drive.prove.driving = none) : (resetFlow u).allOff := by
    rw [State.allOff_iff]
    unfold resetFlow
    dsimp only
    split
    · exact ⟨hoff, ⟨rfl, rfl, rfl⟩, by simp [State.allEnded, coldCapacity, State.modFlow, hall], hp, hd⟩
    · exact ⟨hoff, ⟨rfl, rfl, rfl⟩, by simp [State.allEnded, hall], hp, hd⟩
  have hempty := hflow _ (releaseAll_driveOff _) hreleased (by simpa only [releaseDrive, State.proving, hprove] using hproving)
    (by simpa only [releaseDrive, hprove] using hnone)
  have hinputs (u : State) (hu : u.allOff) : (resetInputs t u).allOff := refreshStops_allOff (allOff_of_view rfl hu)
  have hvehicle (u : State) (hu : u.allOff) : State.allOff { u with vehicle := Vehicle.reset } := allOff_of_view rfl hu
  have hdark (u : State) (hu : u.allOff) : (darken (resetFaults u)).allOff := allOff_of_view rfl hu
  exact hdark _ (hinputs _ (hvehicle _ hempty))

theorem parkAll_offView (s : State) : (parkAll s).offView = s.offView := rfl

theorem heldEntry_allOff {s : State} (hdriving : s.drive.prove.driving ≠ none → s.proving = true) : (heldEntry s).allOff := by
  have hheld (u : State) (hu : u.allOff) : (takeConditions
      (State.modSupply { u with operator := { u.operator with release := none } } fun x =>
        { x with mode := .held, standby := .none })).allOff := allOff_of_view rfl hu
  exact hheld _ (allOff_of_view (parkAll_offView _) (clearWork_allOff none hdriving))

theorem restartEstop_allOff {s : State} (h : s.allOff) : (restartEstop s).allOff := by
  refine allOff_of_view ?_ h
  unfold restartEstop
  dsimp only
  (repeat' split) <;> simp [State.offView]

theorem warmReset_allOff (c : ResetCause) {s : State} (hdriving : s.drive.prove.driving ≠ none → s.proving = true) :
    (warmReset c s).allOff := by
  have hcleared := restartEstop_allOff (clearWork_allOff (some s.debounceTime)
    (s := s.modLink fun l => { l with pendStop := false, pendFault := false, pendOrder := false }) hdriving)
  have htrackers {u : State} (hu : u.allOff) : (warmTrackers c u).allOff := by
    unfold warmTrackers
    split
    · exact allOff_of_view rfl hu
    · refine allOff_of_view (parkAll_offView _) ?_
      split
      · exact snapAll_allOff hu
      · exact hu
  have hrun (u : State) (hu : u.allOff) : (startPlayers <| takeConditions <|
      u.modSupply fun x => { x with mode := .run, standby := .none, lastReset := c, awaitFirst := false }).allOff :=
    allOff_of_view (by simp [State.offView]) hu
  exact hrun _ (htrackers hcleared)

/-! ### Supply states -/

theorem leaveStandby_stopSound {s : State} (hdriving : s.drive.prove.driving ≠ none → s.proving = true) :
    (leaveStandby s).stopSound := by
  have hwarm := warmReset_allOff .standbyExit hdriving
  unfold leaveStandby
  dsimp only
  split
  · exact stopSound_of_allOff hwarm
  · exact stopSound_of_allOff (heldEntry_allOff (stopSound_of_allOff hwarm).2.2)

theorem enableLow_stopSound {s : State} (hs : s.stopSound) : (enableLow s).stopSound := by
  unfold enableLow
  dsimp only
  split
  · exact stopSound_of_allOff (heldEntry_allOff hs.2.2)
  · split
    · exact stopSound_of_view rfl hs
    · exact stopSound_of_view rfl hs
  · exact stopSound_of_view rfl hs

theorem enableHigh_stopSound {s : State} (hs : s.stopSound) : (enableHigh s).stopSound := by
  unfold enableHigh
  dsimp only
  split
  · exact stopSound_of_view rfl hs
  · rename_i hheld
    split
    · exact stopSound_of_allOff (allOff_of_view (by simp [State.offView, State.inMode]) (hs.1 (.inl (by simp [hheld]))))
    · exact stopSound_of_allOff (warmReset_allOff _ hs.2.2)
  · exact leaveStandby_stopSound hs.2.2

theorem lineBreak_stopSound {s : State} (hs : s.stopSound) : (lineBreak s).stopSound := by
  unfold lineBreak
  dsimp only
  split
  · exact hs
  · split
    · exact stopSound_of_allOff (warmReset_allOff _ hs.2.2)
    · exact stopSound_of_view rfl hs
    · exact leaveStandby_stopSound hs.2.2

theorem standbyDue_stopSound {s : State} (hs : s.stopSound) : (standbyDue s).stopSound := by
  unfold standbyDue
  split
  · rename_i hreplied
    obtain ⟨-, hstandby, hdriving⟩ := hs
    obtain ⟨hended, hproving⟩ := hstandby (by simp [hreplied])
    have hkeeps := releaseAll_keeps (G := True) allChannels s
    have hnone : s.drive.prove.driving = none := by
      by_contra hne
      rw [hdriving hne] at hproving
      exact Bool.noConfusion hproving
    have hdrive : (enterStandby s).drive = (releaseAll allChannels s).drive := rfl
    refine stopSound_of_allOff ((State.allOff_iff _).2 ⟨?_, ⟨rfl, rfl, rfl⟩, ?_, ?_, ?_⟩)
    · simpa only [State.driveOff, State.chan, State.pair, hdrive] using releaseAll_driveOff s
    · simpa [State.allEnded] using hended
    · simpa only [State.proving, hdrive, hkeeps.prove] using hproving
    · rw [hdrive, hkeeps.prove]; exact hnone
  · exact hs

/-! ### The emergency stop -/

theorem withdraw_of_flowOff {s : State} (h : s.flowOff) (n : Nat) : withdraw n s = s := by
  have hnone : withdrawClaim n s = (s, []) := by simp [withdrawClaim, claimed, h.2.1, h.2.2]
  rw [withdraw, hnone]
  rfl

/-- R32: an end other than a completion changes the records of its number alone, and no claim. -/
theorem markEnded_aborted {n : Nat} {res : OrderResult} (hres : res ≠ .completed) (why : Option Reason) (s : State) :
    (markEnded n res why s).flow = s.flow ∧
      (markEnded n res why s).seq.orders =
        s.seq.orders.map fun o => if o.number = n then o.atEnd res why s.supply.time s.skew s.seq.endRank else o := by
  unfold markEnded
  split
  · rename_i hnone
    refine ⟨rfl, ?_⟩
    have hkeep : s.seq.orders.map (fun o => if o.number = n then o.atEnd res why s.supply.time s.skew s.seq.endRank else o) =
        s.seq.orders.map id := by
      refine List.map_congr_left fun o ho => if_neg fun hn => ?_
      exact List.find?_eq_none.1 hnone o ho (by simp [hn])
    rw [hkeep, List.map_id]
  · rename_i o _
    dsimp only
    rw [if_neg hres]
    split
    · exact ⟨by simp, by simp [setOrder_orders, State.skew, State.tracker, stopTimers]⟩
    · exact ⟨by simp, by simp [setOrder_orders]⟩

/-- R34: when every order that is not ENDED is aborted, each is ENDED and no claim is lodged. -/
theorem abortFold_ended (why : Reason) (xs : List Order) {s : State} (hflow : s.flowOff)
    (h : ∀ o ∈ s.seq.orders, o.state ≠ .ended → o.number ∈ xs.map (·.number)) :
    let t := xs.foldl (fun s o => markEnded o.number .aborted (some why) (withdraw o.number s)) s
    t.allEnded ∧ t.flowOff := by
  induction xs generalizing s with
  | nil => exact ⟨fun o ho => by_contra fun hne => by simpa using h o ho hne, hflow⟩
  | cons x rest ih =>
    rw [List.foldl_cons, withdraw_of_flowOff hflow]
    obtain ⟨hsame, horders⟩ := markEnded_aborted (n := x.number) (res := .aborted) (by decide) (some why) s
    refine ih (by simpa only [State.flowOff, hsame] using hflow) fun o' ho' hne => ?_
    rw [horders] at ho'
    obtain ⟨o, ho, rfl⟩ := List.mem_map.1 ho'
    split at hne
    · exact absurd rfl hne
    · rename_i hx
      rw [if_neg hx]
      simpa [hx] using h o ho hne

theorem abortOrders_ended (why : Reason) {s : State} (hflow : s.flowOff) :
    (abortOrders (fun _ => true) why s).allEnded ∧ (abortOrders (fun _ => true) why s).flowOff :=
  abortFold_ended why _ hflow fun o ho hne => List.mem_map.2 ⟨o, List.mem_filter.2 ⟨ho, by simp [hne]⟩, rfl⟩

theorem emptyFlow_flowOff (s : State) : (emptyFlow s).flowOff := by
  unfold emptyFlow pumpOff
  split
  · rename_i h
    exact ⟨h, rfl, rfl⟩
  · exact ⟨rfl, rfl, rfl⟩

theorem estopFromClear_eq (s : State) :
    estopFromClear s =
      reportStopScene (raiseFault .estop .none (idleAfter s (abortOrders (fun _ => true) .estop
        (emptyFlow (abandonProve (releaseAll allChannels (setEstop .active none s))))))) := rfl

/-- R141: the machine's entry to ACTIVE from CLEAR turns everything off. -/
theorem estopFromClear_allOff {s : State} (hdriving : s.drive.prove.driving ≠ none → s.proving = true) :
    (estopFromClear s).allOff := by
  have hreleased := releaseAll_keeps (G := True) allChannels (setEstop .active none s)
  obtain ⟨hproving, hnone⟩ := abandonProve_prove (s := releaseAll allChannels (setEstop .active none s))
    (by rw [hreleased.proving, hreleased.prove]; exact hdriving)
  have hdrive := abandonProve_driveOff (releaseAll_driveOff (setEstop .active none s))
  have htakes : (abandonProve (releaseAll allChannels (setEstop .active none s))).driveTakes = false :=
    driveTakes_eq_false (.inr (by simp [setEstop]))
  rw [estopFromClear_eq]
  generalize abandonProve (releaseAll allChannels (setEstop .active none s)) = u at *
  have hempty := (emptyFlow_keeps u).trans (G := True) (abortOrders_keeps (fun _ => true) .estop _)
  obtain ⟨hended, hflow⟩ := abortOrders_ended .estop (emptyFlow_flowOff u)
  have haborted : (abortOrders (fun _ => true) .estop (emptyFlow u)).allOff :=
    (State.allOff_iff _).2 ⟨hempty.driveOff htakes hdrive, hflow, hended, hempty.proving.trans hproving,
      by rw [hempty.prove]; exact hnone⟩
  exact ((idleAfter_keeps ..).trans ((raiseFault_keeps ..).trans (reportStopScene_keeps _))).allOff
    (hempty.driveTakes.trans htakes) haborted

theorem loopOpens_stopSound {s : State} (hs : s.stopSound) : (loopOpens s).stopSound := by
  unfold loopOpens estopOpening
  dsimp only
  split
  · split
    · exact stopSound_of_allOff (estopFromClear_allOff hs.2.2)
    · exact stopSound_of_view rfl hs
    · rename_i hestop
      exact stopSound_of_allOff (allOff_of_view rfl (hs.1 (.inr fun h => by simp [takeLoop, setLoopLine, h] at hestop)))
    · rename_i hestop
      exact stopSound_of_allOff (allOff_of_view rfl (hs.1 (.inr fun h => by simp [takeLoop, setLoopLine, h] at hestop)))
  · exact stopSound_of_view rfl hs

theorem loopCloses_stopSound {s : State} (hs : s.stopSound) : (loopCloses s).stopSound := by
  unfold loopCloses estopClosing
  dsimp only
  split
  · split
    · rename_i hestop
      exact stopSound_of_allOff (allOff_of_view rfl (hs.1 (.inr fun h => by simp [takeLoop, setLoopLine, h] at hestop)))
    · exact stopSound_of_view rfl hs
  · exact stopSound_of_view rfl hs

theorem releaseExpiry_stopSound {s : State} (hs : s.stopSound) : (releaseExpiry s).stopSound := by
  unfold releaseExpiry
  split
  · rename_i h
    exact stopSound_of_allOff (allOff_of_view rfl (hs.1 (.inr (by simp [h.1]))))
  · exact hs

/-! ### Every step -/

theorem queueReply_stopSound (p : Bool) (k tag : Byte) (r : Reply) {s : State} (hs : s.stopSound) :
    (queueReply p k tag r s).stopSound := stopSound_of_view rfl hs

/-- R184: what the sending of a reply leaves of the link. -/
def Link.afterReply (r : OutReply) (l : Link) : Link :=
  { l with tx := none, places := if r.freesPlace then freePlace l.places else l.places }

/-- R184, R180: what a reply wholly sent does. -/
theorem frameGone_of_reply {s : State} {r : OutReply} (h : s.link.tx = some (.reply r)) :
    frameGone s =
      if r.entersStandby ∧ s.supply.standby = .accepted then
        { s.modLink (Link.afterReply r) with supply := { s.supply with standby := .replied } }
      else s.modLink (Link.afterReply r) := by
  unfold frameGone
  rw [h]
  rfl

theorem frameGone_stopSound {s : State} (hs : s.stopSound) : (frameGone s).stopSound := by
  cases htx : s.link.tx with
  | none => rw [frameGone, htx]; exact hs
  | some x =>
    cases x with
    | notice => rw [frameGone, htx]; exact stopSound_of_view rfl hs
    | reply r =>
      rw [frameGone_of_reply htx]
      split
      · rename_i h
        obtain ⟨hoff, hstandby, hdriving⟩ := hs
        exact ⟨hoff, fun _ => hstandby (by rw [h.2]; decide), hdriving⟩
      · exact stopSound_of_view rfl hs

theorem handOn_stopSound {s : State} (hmode : s.supply.mode = .run) (hs : s.stopSound) : (handOn s).stopSound := by
  by_cases hstandby : s.supply.standby = .none
  · exact handOn_outcome (P := State.stopSound) hs (fun _ _ _ => stopSound_of_view (s := s) rfl hs)
      (fun u f hf hsupply hu => hf.stopSound (by rw [State.answers, hsupply]; exact ⟨hmode, hstandby⟩) hu)
      (fun u kind tag r hu => queueReply_stopSound true kind tag r hu)
  · have hsame : handOn s = s := by
      unfold handOn
      split
      · rename_i hnone
        exact absurd hnone hstandby
      · rfl
    rw [hsame]
    exact hs

theorem Happens.stopSound {s a : State} (h : Happens s a) (hs : s.stopSound) : a.stopSound := by
  cases h with
  | request hf kind tag h => exact queueReply_stopSound _ _ _ _ (hf.stopSound h hs)
  | receiver => exact stopSound_of_view rfl hs
  | routine hf => exact (hf.keeps s).stopSound hs
  | enableTakenLow => exact enableLow_stopSound hs
  | enableTakenHigh => exact enableHigh_stopSound hs
  | lineBreak => exact lineBreak_stopSound hs
  | standbyEntry => exact standbyDue_stopSound hs
  | requestHandedOn h => exact handOn_stopSound h hs
  | frameSent => exact frameGone_stopSound hs
  | pulseCounted => exact (pulse_keeps ..).stopSound hs
  | homeSwitchDebounceExpiry => exact (homeExpiry_keeps ..).stopSound hs
  | loopOpening => exact loopOpens_stopSound hs
  | loopClosing => exact loopCloses_stopSound hs
  | releaseTimerExpiry => exact releaseExpiry_stopSound hs
  | coilShortDetected => exact coilShort_stopSound _ hs
  | provingDriveStart => exact proveNext_stopSound hs
  | provingDriveEnd => exact proveOver_stopSound _ hs

/-- R32: the end of an event ends no record and brings none back. -/
theorem finish_stopSound (b : State) {a : State} (hs : a.stopSound) : (finish b a).stopSound := by
  have hended (h : a.allEnded) : (finish b a).allEnded := by
    intro o ho
    have hmem : o.unmarked ∈ a.records := finish_records b a ▸ List.mem_map_of_mem ho
    obtain ⟨x, hx, heq⟩ := List.mem_map.1 hmem
    have hstate : x.unmarked.state = o.unmarked.state := congrArg Order.state heq
    exact hstate.symm.trans (h x hx)
  obtain ⟨hoff, hstandby, hdriving⟩ := hs
  refine ⟨fun hout => ?_, fun hne => ?_, ?_⟩
  · obtain ⟨hdrive, hflow, hall, hproving⟩ := (State.allOff_iff a).1 (hoff (by simpa using hout))
    rw [State.allOff_iff]
    simp only [State.driveOff, State.flowOff, State.proving, State.chan, State.pair, finish_frame] at hdrive hflow hproving ⊢
    exact ⟨hdrive, hflow, hended hall, hproving⟩
  · obtain ⟨hall, hproving⟩ := hstandby (by simpa using hne)
    exact ⟨hended hall, by simpa [State.proving] using hproving⟩
  · simpa [State.proving] using hdriving

theorem tickAwake_stopSound {s : State} (hs : s.stopSound) : (tickAwake s).stopSound := by
  have hwaiting (h : s.driveOff) : (tickAwake s).driveOff := ⟨h.1, fun p => by rw [tickAwake_pair]; exact h.2 p⟩
  obtain ⟨hoff, hstandby, hdriving⟩ := hs
  refine ⟨fun hout => ?_, hstandby, hdriving⟩
  obtain ⟨hdrive, hrest⟩ := (State.allOff_iff s).1 (hoff hout)
  exact (State.allOff_iff _).2 ⟨hwaiting hdrive, hrest⟩

theorem tickRun_stopSound {s : State} (hs : s.stopSound) : (tickRun s).stopSound := by
  have hended (h : s.allEnded) : (tickRun s).allEnded := by
    intro o' ho'
    obtain ⟨o, ho, rfl⟩ := List.mem_map.1 ho'
    exact (tickOrder_same s o).2.2.trans (h o ho)
  have hchans (h : s.driveOff) : (tickRun s).driveOff := ⟨fun c => by rw [tickRun_chan]; exact h.1 c, h.2⟩
  obtain ⟨hoff, hstandby, hdriving⟩ := hs
  refine ⟨fun hout => ?_, fun hne => ⟨hended (hstandby hne).1, (hstandby hne).2⟩, hdriving⟩
  obtain ⟨hdrive, hflow, hall, hproving⟩ := (State.allOff_iff s).1 (hoff hout)
  exact (State.allOff_iff _).2 ⟨hchans hdrive, hflow, hended hall, hproving⟩

theorem tick_stopSound {s : State} (hs : s.stopSound) : (tick s).stopSound := by
  unfold tick
  split
  · exact tickRun_stopSound (tickAwake_stopSound hs)
  · exact tickAwake_stopSound hs
  · exact hs

theorem powerOn_stopSound (s : State) : (powerOn s).stopSound := by
  have hreset : (s.overLines State.reset).allOff := allOff_of_view (s := State.reset) rfl (resetMeetsInvariants.2.2.1.1 (.inl (by decide)))
  unfold powerOn
  dsimp only
  split
  · exact stopSound_of_allOff (allOff_of_view (by simp [State.offView]) hreset)
  · exact stopSound_of_allOff hreset

/-- Settles O5. -/
theorem outputsStayOffOutsideWork : Obligations.OutputsStayOffOutsideWork := fun _ _ h hstep =>
  step_keeps (P := State.stopSound) (fun _ _ hu => stopSound_of_view rfl hu) powerOn_stopSound
    (fun _ _ hhappens hu => hhappens.stopSound hu) (fun b _ ha => finish_stopSound b ha) (fun _ hu => tick_stopSound hu) h hstep

end Sys2Proof.Machine
end

section
/-! Writes of the open and of the locked sections of the fitment (Chapter 10), and RETIRE. -/

namespace Sys2Proof.Machine

/-! ### Writes -/

/-- R173: a write whose fields are in range replaces its place in an OPEN fitment. -/
theorem lockedWrite_done {checks : List Bool} {write : State → State} {s : State} (hopen : s.fitment.locked = false)
    (hchecks : firstBad checks = none) : lockedWrite checks write s = (write s, .ok) := by
  simp [lockedWrite, openWrite, hopen, hchecks]

/-- R173: the first field out of range refuses a write. -/
theorem lockedWrite_badField {checks : List Bool} {write : State → State} {s : State} {n : Nat}
    (hopen : s.fitment.locked = false) (hchecks : firstBad checks = some n) :
    lockedWrite checks write s = (s, .badField n) := by
  simp [lockedWrite, openWrite, hopen, hchecks]

theorem openWrite_done {checks : List Bool} {write : State → State} {s : State} (hchecks : firstBad checks = none) :
    openWrite checks write s = (write s, .ok) := by
  simp [openWrite, hchecks]

/-- A request that its owner answers DONE with an empty payload. -/
theorem request_ok (k : ReqKind) (tag : Byte) (f : State → State × Reply) {s s' : State} (h : s.answers)
    (hf : f s = (s', .ok)) : ∃ t, request k tag f s = .next t ∧ t.quiet = (s'.doneReply k.code tag []).quiet :=
  request_done k tag f h hf

/-- A request that its owner refuses for a field. -/
theorem request_badField (k : ReqKind) (tag : Byte) (f : State → State × Reply) {s : State} {n : Nat} (h : s.answers)
    (hf : f s = (s, .badField n)) :
    ∃ t, request k tag f s = .next t ∧ t.quiet = (s.refusedReply k.code tag 3 (BitVec.ofNat 8 n) 0 0).quiet :=
  request_refused k tag f h hf

/-- R173: a request whose owner's answer is a write of a locked section, while the fitment is LOCKED. -/
theorem request_lockedWrite (k : ReqKind) (tag : Byte) (f : State → State × Reply) {s : State} {checks : List Bool}
    {write : State → State} (h : s.answers) (hlocked : s.fitment.locked = true) (hf : f s = lockedWrite checks write s) :
    ∃ t, request k tag f s = .next t ∧ t.quiet = (s.refusedReply k.code tag 4 0 0 0).quiet :=
  request_refused k tag f h (hf.trans (lockedWrite_of_locked hlocked checks write))

theorem coded_axis {b : Byte} {a : Axis} (h : b.toNat = a.idx.val) : coded Axis.all b = some a := by
  unfold coded; rw [h]; cases a <;> rfl

theorem coded_profile {b : Byte} {p : Profile} (h : b.toNat = p.idx.val) : coded Profile.all b = some p := by
  unfold coded; rw [h]; cases p <;> rfl

/-- FIT_AXIS of an axis that exists. -/
theorem fitAxisRequest_eq {r : AxisReq} {a : Axis} (h : r.axis.toNat = a.idx.val) (s : State) :
    fitAxisRequest r s = lockedWrite r.checks (writeAxis a r.record) s := by
  unfold fitAxisRequest; rw [coded_axis h]

/-- R185: a FIT_INTERLOCK whose terms agree with its count. -/
theorem fitInterlockRequest_eq {r : InterlockReq} (h : r.terms.length = r.count.toNat) (s : State) :
    fitInterlockRequest r s =
      lockedWrite r.checks
        (fun s => s.modFitment fun f =>
          { f with interlocks := f.interlocks.setIfInBounds (r.entry.toNat - 1) (some r.record) }) s :=
  if_pos (by simpa [InterlockReq.lengthOk] using h)

/-- Settles O20: each of the nine requests answers with a write of a locked section. -/
theorem lockedSectionsRefuseWrites : Obligations.LockedSectionsRefuseWrites := by
  intro tag s ha hlocked
  refine ⟨fun r => ?_, fun r => ?_, fun r => ?_, fun r => ?_, fun r => ?_, fun r => ?_, fun r => ?_, fun r hr => ?_,
    fun r => ?_⟩
  · exact request_lockedWrite .fitEquipment tag _ ha hlocked rfl
  · refine request_refused .fitAxis tag (fitAxisRequest r) (s' := s) (w := .locked) ha ?_
    unfold fitAxisRequest
    split <;> exact lockedWrite_of_locked hlocked _ _
  · exact request_lockedWrite .fitChannel tag _ ha hlocked rfl
  · exact request_lockedWrite .fitFlow tag _ ha hlocked rfl
  · exact request_lockedWrite .fitProfile tag _ ha hlocked rfl
  · exact request_lockedWrite .fitTiming tag _ ha hlocked rfl
  · exact request_lockedWrite .fitPolicy tag _ ha hlocked rfl
  · exact request_lockedWrite .fitInterlock tag _ ha hlocked (fitInterlockRequest_eq hr s)
  · exact request_lockedWrite .fitLamps tag _ ha hlocked rfl

/-- R173: a write in range of a request whose owner's answer is a write of a locked section. -/
theorem request_stored (k : ReqKind) (tag : Byte) (f : State → State × Reply) {s s' : State} {checks : List Bool}
    {write : State → State} (h : s.answers) (hopen : s.fitment.locked = false) (hf : f s = lockedWrite checks write s)
    (hchecks : firstBad checks = none) (hs' : write s = s') :
    ∃ t, request k tag f s = .next t ∧ t.quiet = (s'.doneReply k.code tag []).quiet :=
  request_ok k tag f h (hs' ▸ hf.trans (lockedWrite_done hopen hchecks))

/-- R173: the first field out of range of such a request. -/
theorem request_notStored (k : ReqKind) (tag : Byte) (f : State → State × Reply) {s : State} {checks : List Bool}
    {write : State → State} {n : Nat} (h : s.answers) (hopen : s.fitment.locked = false)
    (hf : f s = lockedWrite checks write s) (hchecks : firstBad checks = some n) :
    ∃ t, request k tag f s = .next t ∧ t.quiet = (s.refusedReply k.code tag 3 (BitVec.ofNat 8 n) 0 0).quiet :=
  request_badField k tag f h (hf.trans (lockedWrite_badField hopen hchecks))

theorem setIfInBounds_eq_set {α : Type} {n i : Nat} (v : Vector α n) (x : α) (h : i < n) :
    v.setIfInBounds i x = v.set i x := by
  apply Vector.ext
  intro j hj
  simp [Vector.getElem_setIfInBounds, Vector.getElem_set]

/-- Settles O21: each request answers with a write of a locked section, and the fields' ranges decide which way it goes. -/
theorem openSectionsAreWrittenWhole : Obligations.OpenSectionsAreWrittenWhole := by
  intro tag s ha hopen
  refine ⟨fun r hl hk hr => ?_, fun r hl hk => ?_, fun r n hn => ?_, fun r n hn => ?_, fun r n hn => ?_, fun r n hn => ?_,
    fun r n hn => ?_, fun r n hlen hn => ?_, fun r hc hn => ?_, fun r hn => ?_, fun r hp hn => ?_, fun r hn => ?_,
    fun r h1 h2 h3 => ?_, fun r he hlen hn => ?_⟩
  · exact request_stored .fitEquipment tag _ ha hopen rfl (by simp [firstBad_eq_none, EquipmentReq.checks, isFlag, hl, hk, hr]) rfl
  · refine request_notStored .fitEquipment tag _ (n := 2) ha hopen rfl ?_
    simp [firstBad, EquipmentReq.checks, isFlag, hl, List.findIdx?_cons]
    omega
  · exact request_notStored .fitEquipment tag _ ha hopen rfl hn
  · exact request_notStored .fitChannel tag _ ha hopen rfl hn
  · exact request_notStored .fitFlow tag _ ha hopen rfl hn
  · exact request_notStored .fitProfile tag _ ha hopen rfl hn
  · exact request_notStored .fitTiming tag _ ha hopen rfl hn
  · exact request_notStored .fitInterlock tag _ ha hopen (fitInterlockRequest_eq hlen s) hn
  · refine request_stored .fitChannel tag _ ha hopen rfl hn ?_
    simp only [State.modFitment, setIfInBounds_eq_set _ _ hc]; rfl
  · exact request_stored .fitFlow tag _ ha hopen rfl hn rfl
  · refine request_stored .fitProfile tag _ ha hopen rfl hn ?_
    simp only [State.modFitment, setIfInBounds_eq_set _ _ hp]
  · exact request_stored .fitTiming tag _ ha hopen rfl hn rfl
  · refine request_notStored .fitTiming tag _ (n := 2) ha hopen rfl ?_
    have hbad : ¬ r.block.toNat ≤ 60000 := by omega
    simp [firstBad, TimingReq.checks, inRange, h1, h2, hbad, List.findIdx?_cons]
  · refine request_stored .fitInterlock tag _ ha hopen (fitInterlockRequest_eq hlen s) hn ?_
    simp only [State.modFitment, setIfInBounds_eq_set _ _ he, InterlockReq.record, beq_iff_eq]; rfl

/-- Settles O22. -/
theorem axisWriteRebasesTheTracker : Obligations.AxisWriteRebasesTheTracker := by
  intro a tag r s ha hopen hr
  refine ⟨fun hn => ?_, fun h1 h2 h3 => ?_⟩
  · exact request_stored .fitAxis tag _ ha hopen (fitAxisRequest_eq hr s) hn rfl
  · refine request_notStored .fitAxis tag _ (n := 3) ha hopen (fitAxisRequest_eq hr s) ?_
    have hbad : ¬ r.num.toNat < r.den.toNat := by omega
    simp [firstBad, AxisReq.checks, coded_axis hr, inRange, h1, h2, hbad, List.findIdx?_cons]

/-- Settles O29. -/
theorem retireRemovesAnEndedRecord : Obligations.RetireRemovesAnEndedRecord := by
  intro tag n s ha
  refine ⟨fun o ho he => ?_, fun o ho he => ?_, fun ho => ?_⟩
  · refine request_ok .retire tag (retireRequest n.toNat) ha ?_
    simp only [retireRequest, ho, if_pos he]; rfl
  · refine request_refused .retire tag (retireRequest n.toNat) (s' := s) (w := .notEnded) ha ?_
    simp only [retireRequest, ho, if_neg he]; rfl
  · refine request_refused .retire tag (retireRequest n.toNat) (s' := s) (w := .noSuchOrder) ha ?_
    simp only [retireRequest, ho]; rfl

end Sys2Proof.Machine
end
section
/-! The queries and FIT_READ: each is answered with its report and changes nothing. -/

namespace Sys2Proof.Machine

variable {α : Type}

/-- R174: the present flag and the fields of a place. -/
def placeFields (width : Nat) (f : α → List Byte) : Option α → List Byte
  | some r => 1 :: f r
  | none => 0 :: List.replicate width 0

/-- R174: a place that exists is reported with its present flag and its fields, an absent one with fields 0. -/
theorem placeReport_eq {places : List (Option α)} {i : Nat} {x : Option α} (h : places[i]? = some x) (width : Nat)
    (f : α → List Byte) :
    placeReport places i width f = some (placeFields width f x) := by
  unfold placeReport
  rw [h]
  cases x <;> rfl

theorem placeReport_eq_none {places : List (Option α)} {i : Nat} (h : places.length ≤ i) (width : Nat)
    (f : α → List Byte) : placeReport places i width f = none := by
  simp [placeReport, h]

/-- The same of a place numbered from 1. -/
theorem numberedReport_eq {places : List (Option α)} {i : Nat} {x : Option α} (h : places[i]? = some x) (width : Nat)
    (f : α → List Byte) :
    numberedReport places (i + 1) width f =
      some (placeFields width f x) :=
  placeReport_eq h width f

theorem numberedReport_eq_none {places : List (Option α)} {i : Nat} (h : i = 0 ∨ places.length < i) (width : Nat)
    (f : α → List Byte) : numberedReport places i width f = none := by
  unfold numberedReport
  split
  · rfl
  · exact placeReport_eq_none (by omega) width f

theorem toList_get {n i : Nat} (v : Vector α n) (h : i < n) : v.toList[i]? = some v[i] := by
  simp [h]

/-- R174: FIT_READ of a place that its kind has. -/
theorem fitRead_done {s : State} {kind index : Byte} {p q : List Byte} (hk : inRange 1 11 kind.toNat = true)
    (h : recordReport s.fitment kind.toNat index.toNat = some p) (hq : kind :: index :: p = q) :
    fitReadRequest kind index s = (s, .done q) := by
  subst hq
  simp only [fitReadRequest, hk, if_true, h]

/-- R174: FIT_READ of an index that its kind does not have. -/
theorem fitRead_badIndex {s : State} {kind index : Byte} (hk : inRange 1 11 kind.toNat = true)
    (h : recordReport s.fitment kind.toNat index.toNat = none) : fitReadRequest kind index s = (s, .badField 2) := by
  simp only [fitReadRequest, hk, if_true, h]

/-- R174: FIT_READ of no record kind. -/
theorem fitRead_badKind {s : State} {kind : Byte} (index : Byte) (hk : inRange 1 11 kind.toNat = false) :
    fitReadRequest kind index s = (s, .badField 1) := by
  simp [fitReadRequest, hk]

/-- R174: a record kind with one place has no index but 0. -/
theorem recordReport_single (f : Fitment) {kind index : Byte} (hk : kind ∈ [(1 : Byte), 4, 6, 7, 9]) (hi : index ≠ 0) :
    recordReport f kind.toNat index.toNat = none := by
  have hpos : 1 ≤ index.toNat := by bv_omega
  simp only [List.mem_cons, List.not_mem_nil, or_false] at hk
  obtain rfl | rfl | rfl | rfl | rfl := hk <;> exact placeReport_eq_none (by simpa using hpos) _ _

theorem inRange_single {kind : Byte} (hk : kind ∈ [(1 : Byte), 4, 6, 7, 9]) : inRange 1 11 kind.toNat = true := by
  simp only [List.mem_cons, List.not_mem_nil, or_false] at hk
  obtain rfl | rfl | rfl | rfl | rfl := hk <;> rfl

/-- R191: QUERY_STATUS of a section from 0 to 6. -/
theorem queryStatus_done {s : State} {sec : Byte} {p : List Byte} (h : statusSection s sec.toNat = some p) :
    queryStatusRequest sec s = (s, .done (supplySection s ++ sec :: p)) := by
  simp only [queryStatusRequest, h]

theorem queryStatus_badField {s : State} {sec : Byte} (h : 6 < sec.toNat) :
    queryStatusRequest sec s = (s, .badField 1) := by
  have : statusSection s sec.toNat = none := by simp [statusSection]; omega
  simp only [queryStatusRequest, this]

/-- R174: FIT_READ of a place that its kind has. -/
theorem fitRead_reports (tag : Byte) {s : State} (ha : s.answers) {kind index : Byte} {p q : List Byte}
    (hk : inRange 1 11 kind.toNat = true) (h : recordReport s.fitment kind.toNat index.toNat = some p) (hq : p = q) :
    ∃ t, exec (.fitRead tag kind index) s = .next t ∧ t.quiet = (s.doneReply 0x0C tag ([kind, index] ++ q)).quiet :=
  request_done .fitRead tag _ ha (fitRead_done hk h (congrArg (kind :: index :: ·) hq))

/-- Settles O30. -/
theorem queriesChangeNothing : Obligations.QueriesChangeNothing := by
  intro tag s ha
  have badIndex {kind index : Byte} (hk : inRange 1 11 kind.toNat = true)
      (h : recordReport s.fitment kind.toNat index.toNat = none) :
      ∃ t, exec (.fitRead tag kind index) s = .next t ∧ t.quiet = (s.refusedReply 0x0C tag 3 2 0 0).quiet :=
    request_badField .fitRead tag _ ha (fitRead_badIndex hk h)
  refine ⟨fun n o ho => ?_, fun n ho => ?_, ?_, ?_, ?_, ?_, ?_, ?_, ?_, ?_, ?_, fun sec h => ?_, ?_, ?_, fun r hr => ?_,
    fun h => ?_, fun kind index h => ?_, fun index h => ?_, fun kind index hk h => ?_, fun index h => ?_,
    fun index h => ?_, fun index h => ?_, fun kind index hk h => ?_, fun index a h => ?_, fun index c h => ?_, ?_,
    fun index p h => ?_, ?_, ?_, fun index i h => ?_, ?_, fun index i h => ⟨?_, ?_⟩⟩
  · exact request_done .queryOrder tag _ ha (by simp only [queryOrderRequest, ho])
  · refine request_refused .queryOrder tag (queryOrderRequest n.toNat) (w := .noSuchOrder) ha ?_
    simp only [queryOrderRequest, ho]; rfl
  · exact request_done .queryTable tag _ ha rfl
  · refine request_done .queryAxes tag _ ha ?_
    simp [queryAxesRequest, axesReport, Axis.all]
  · exact request_done .queryStatus tag _ ha (queryStatus_done rfl)
  · exact request_done .queryStatus tag _ ha (queryStatus_done rfl)
  · exact request_done .queryStatus tag _ ha (queryStatus_done rfl)
  · exact request_done .queryStatus tag _ ha (queryStatus_done rfl)
  · exact request_done .queryStatus tag _ ha (queryStatus_done rfl)
  · exact request_done .queryStatus tag _ ha (queryStatus_done rfl)
  · exact request_done .queryStatus tag _ ha (queryStatus_done rfl)
  · exact request_badField .queryStatus tag _ ha (queryStatus_badField h)
  · exact request_done .queryFaults tag _ ha rfl
  · exact request_done .queryProve tag _ ha rfl
  · refine request_done .fitRead tag _ ha (fitRead_done rfl (p := 1 :: bEquipment r) ?_ (by simp [bEquipment]))
    exact placeReport_eq (x := some r) (by simp [hr]) _ _
  · refine request_done .fitRead tag _ ha (fitRead_done rfl (p := [0, 0, 0, 0]) ?_ rfl)
    exact placeReport_eq (x := none) (by simp [h]) _ _
  · refine request_badField .fitRead tag _ ha (fitRead_badKind index ?_)
    obtain rfl | h := h
    · rfl
    · simp [inRange]; omega
  · exact badIndex rfl (placeReport_eq_none (by simpa using h) _ _)
  · exact badIndex (inRange_single hk) (recordReport_single s.fitment hk h)
  · exact badIndex rfl (placeReport_eq_none (by simpa using h) _ _)
  · exact badIndex rfl (placeReport_eq_none (by simpa using h) _ _)
  · exact badIndex rfl (numberedReport_eq_none (by simpa using h.imp_left (congrArg BitVec.toNat)) _ _)
  · have h' : index.toNat = 0 ∨ 8 < index.toNat := h.imp_left (congrArg BitVec.toNat)
    simp only [List.mem_cons, List.not_mem_nil, or_false] at hk
    obtain rfl | rfl := hk
    · exact badIndex rfl (numberedReport_eq_none (by simpa using h') _ _)
    · exact badIndex rfl (numberedReport_eq_none (by simpa using h') _ _)
  · refine fitRead_reports tag ha rfl (p := placeFields 43 (bAxis a.idx.val) (s.axisRec? a)) ?_
      (by cases s.axisRec? a <;> rfl)
    simp only [h]
    exact placeReport_eq (toList_get s.fitment.axes a.idx.isLt) _ _
  · refine fitRead_reports tag ha rfl (p := placeFields 15 (bChannel c.val) (s.chanRec? c)) ?_
      (by cases s.chanRec? c <;> rfl)
    simp only [h]
    exact placeReport_eq (toList_get s.fitment.channels c.isLt) _ _
  · exact fitRead_reports tag ha rfl (placeReport_eq (x := s.fitment.flow) rfl _ _) (by cases s.fitment.flow <;> rfl)
  · refine fitRead_reports tag ha rfl (p := placeFields 53 (bProfile p.idx.val) (s.profile? p)) ?_
      (by cases s.profile? p <;> rfl)
    simp only [h]
    exact placeReport_eq (toList_get s.fitment.profiles p.idx.isLt) _ _
  · exact fitRead_reports tag ha rfl (placeReport_eq (x := s.fitment.timing) rfl _ _) (by cases s.fitment.timing <;> rfl)
  · exact fitRead_reports tag ha rfl (placeReport_eq (x := s.fitment.policy) rfl _ _) (by cases s.fitment.policy <;> rfl)
  · refine fitRead_reports tag ha rfl (p := placeFields 4 (bInterlock (i.val + 1)) s.fitment.interlocks[i]) ?_
      (by cases s.fitment.interlocks[i] <;> rfl)
    simp only [h]
    exact numberedReport_eq (toList_get s.fitment.interlocks i.isLt) _ _
  · exact fitRead_reports tag ha rfl (placeReport_eq (x := s.fitment.lamps) rfl _ _) (by cases s.fitment.lamps <;> rfl)
  · refine fitRead_reports tag ha rfl (p := placeFields 3 (bPattern (i.val + 1)) s.fitment.patterns[i]) ?_
      (by cases s.fitment.patterns[i] <;> rfl)
    simp only [h]
    exact numberedReport_eq (toList_get s.fitment.patterns i.isLt) _ _
  · refine fitRead_reports tag ha rfl (p := placeFields 11 (bScene (i.val + 1)) s.fitment.scenes[i]) ?_
      (by cases s.fitment.scenes[i] <;> rfl)
    simp only [h]
    exact numberedReport_eq (toList_get s.fitment.scenes i.isLt) _ _

end Sys2Proof.Machine
end

section
/-! What an event leaves, block by block; and what a raise makes of the entries and the flags of a table with room. -/

namespace Sys2Proof.Machine

/-! ### A state met at the end of an event -/

/-- t has the blocks of u, less what the end of an event may change and the link. -/
structure State.Matches (t u : State) : Prop where
  pending : t.pending = u.pending
  supply : t.supply = u.supply
  fitment : t.fitment = u.fitment
  vehicle : t.vehicle = u.vehicle
  flow : t.flow = u.flow
  trackers : t.trackers = u.trackers
  runs : t.runs = u.runs
  drive : t.drive = u.drive
  operator : t.operator = u.operator
  beacon : t.beacon = u.beacon
  faults : t.faults = u.faults
  free : t.free = u.free
  records : t.records = u.records
  nextNumber : t.seq.nextNumber = u.seq.nextNumber
  ctlTable : t.seq.ctl = u.seq.ctl

theorem State.matches_of_quiet {t u : State} (h : t.quiet = u.quiet) : t.Matches u := by
  obtain ⟨h1, h2, h3, h4, h5, h6, h7, h8, h9, h10, h11, h12⟩ := State.quiet_blocks h
  obtain ⟨h13, h14, h15⟩ := State.quiet_seq h
  exact ⟨h1, h2, h3, h4, h5, h6, h7, h8, h9, h10, h11, h12, h13, h14, h15⟩

namespace State.Matches

variable {t u : State}

theorem player (h : t.Matches u) (p : LampPair) : t.player p = u.player p := by simp only [State.player, h.beacon]
theorem override (h : t.Matches u) (p : LampPair) : t.override? p = u.override? p := by simp only [State.override?, h.beacon]
theorem lamp (h : t.Matches u) (l : Lamp) : t.lamp l = u.lamp l := by simp only [State.lamp, h.beacon]
theorem latch (h : t.Matches u) (p : LampPair) : t.latch p = u.latch p := by simp only [State.latch, h.beacon]
theorem tracker (h : t.Matches u) (a : Axis) : t.tracker a = u.tracker a := by simp only [State.tracker, h.trackers]
theorem run (h : t.Matches u) (g : Group) : t.run? g = u.run? g := by simp only [State.run?, h.runs]
theorem ctl (h : t.Matches u) (g : Group) : t.ctl g = u.ctl g := by simp only [State.ctl, h.ctlTable]
theorem chan (h : t.Matches u) (c : Channel) : t.chan c = u.chan c := by simp only [State.chan, h.drive]
theorem pair (h : t.Matches u) (p : PairNo) : t.pair p = u.pair p := by simp only [State.pair, h.drive]
theorem line (h : t.Matches u) (l : Line) : t.line l = u.line l := by simp only [State.line, h.operator]
theorem level (h : t.Matches u) (l : Line) : t.level l = u.level l := by simp only [State.level, h.line]
theorem hand (h : t.Matches u) (i : Fin 2) : t.hand i = u.hand i := by simp only [State.hand, h.operator]
theorem isObstructed (h : t.Matches u) (g : Group) : t.isObstructed g = u.isObstructed g := by
  simp only [State.isObstructed, h.operator]

end State.Matches

/-- An event of RUN leaves its effect. -/
theorem runEvent_effect (f : State → State) {s : State} (h : s.supply.mode = .run) :
    ∃ t, runEvent f s = .next t ∧ t.Matches (f s) := by
  obtain ⟨t, he, hq⟩ := runEvent_next f h
  exact ⟨t, he, State.matches_of_quiet hq⟩

/-- An event of RUN and HELD leaves its effect. -/
theorem awakeEvent_effect (f : State → State) {s : State} (h : s.supply.mode ≠ .standby) :
    ∃ t, awakeEvent f s = .next t ∧ t.Matches (f s) := by
  obtain ⟨t, he, hq⟩ := awakeEvent_next f h
  exact ⟨t, he, State.matches_of_quiet hq⟩

/-- R185: which replies are outgoing after a DONE depends on those outgoing before it. -/
theorem State.doneReply_outgoing_of_outgoing {s t : State} (h : t.link.outgoing = s.link.outgoing) (kind tag : Byte)
    (payload : List Byte) : (t.doneReply kind tag payload).link.outgoing = (s.doneReply kind tag payload).link.outgoing := by
  have append (u : State) (f : Frame) (e : Bool) : (u.withReply f e).link.outgoing =
      u.link.outgoing ++ [{ frame := f, freesPlace := false, entersStandby := e }] := by
    unfold Link.outgoing State.withReply
    dsimp only
    split <;> simp_all
  simp only [State.doneReply, append, h]

/-- A request that its owner answers DONE leaves its effect, and one more reply. -/
theorem request_effect (k : ReqKind) (tag : Byte) (f : State → State × Reply) {s s' : State} {p : List Byte} (h : s.answers)
    (hf : f s = (s', .done p)) (hout : s'.link.outgoing = s.link.outgoing) :
    ∃ t, request k tag f s = .next t ∧ t.Matches s' ∧ t.link.outgoing = (s.doneReply k.code tag p).link.outgoing := by
  obtain ⟨t, he, hq⟩ := request_done k tag f h hf
  obtain ⟨-, -, -, -, -, -, -, ho⟩ := State.quiet_link hq
  refine ⟨t, he, ?_, ho.trans (State.doneReply_outgoing_of_outgoing hout _ _ _)⟩
  obtain ⟨h1, h2, h3, h4, h5, h6, h7, h8, h9, h10, h11, h12, h13, h14, h15⟩ := State.matches_of_quiet hq
  exact ⟨h1, h2, h3, h4, h5, h6, h7, h8, h9, h10, h11, h12, h13, h14, h15⟩

/-! ### Raises -/

@[simp] theorem raise_faults (code : FaultCode) (x : Subject) (s : State) :
    (raise code x s).faults = s.faults.raise code x s.supply.time := by
  unfold raise
  dsimp only
  split <;> rfl

@[simp] theorem latch_faults (code : FaultCode) (x : Subject) (s : State) :
    (latch code x s).faults = s.faults.latch code x := rfl

@[simp] theorem raiseOnce_faults (code : FaultCode) (x : Subject) (s : State) :
    (raiseOnce code x s).faults = (s.faults.raise code x s.supply.time).latch code x := by
  simp [raiseOnce]

@[simp] theorem noticeFault_outgoing (s : State) : s.noticeFault.link.outgoing = s.link.outgoing := rfl

/-- A notice that becomes pending is no reply. -/
@[simp] theorem raise_outgoing (code : FaultCode) (x : Subject) (s : State) :
    (raise code x s).link.outgoing = s.link.outgoing := by
  unfold raise
  dsimp only
  split <;> rfl

section Table

variable {t : FaultTable} {code : FaultCode} {x : Subject} (now : U32)

/-- R162: a raise in a table with room. -/
theorem FaultTable.raise_of_room (hroom : t.entries.length < 16) :
    t.raise code x now =
      if t.entries.any (·.is code x) then
        { t with entries := t.entries.map fun e => if e.is code x then e.recur now else e }
      else FaultTable.recompute { t with entries := t.entries ++ [Entry.fresh code x now] } := by
  unfold FaultTable.raise
  simp only [show t.entries.length < Config.maxFaults from hroom, if_true]

/-- R162: a raise in a table with room leaves the entry ACTIVE. -/
theorem FaultTable.raise_active (code : FaultCode) (x : Subject) (hroom : t.entries.length < 16) :
    ∃ e ∈ (t.raise code x now).entries, e.code = code ∧ e.subject = x ∧ e.active = true := by
  rw [FaultTable.raise_of_room now hroom]
  split
  · rename_i hany
    obtain ⟨e, hmem, his⟩ := List.any_eq_true.1 hany
    obtain ⟨hcode, hsubject⟩ := (e.is_iff code x).1 his
    exact ⟨e.recur now, List.mem_map.2 ⟨e, hmem, by simp [his]⟩, (e.recur_code now).trans hcode,
      (e.recur_subject now).trans hsubject, e.recur_active now⟩
  · exact ⟨Entry.fresh code x now, by simp [FaultTable.recompute], rfl, rfl, rfl⟩

/-- R162: a raise in a table with room leaves every other entry as it is. -/
theorem FaultTable.raise_others (hroom : t.entries.length < 16) {e : Entry} (hmem : e ∈ t.entries)
    (hother : e.is code x = false) : e ∈ (t.raise code x now).entries := by
  rw [FaultTable.raise_of_room now hroom]
  split
  · exact List.mem_map.2 ⟨e, hmem, by simp [hother]⟩
  · exact List.mem_append_left _ hmem

/-- R165: the flags after a raise in a table with room. -/
theorem FaultTable.raise_flags (hsound : t.sound) (hroom : t.entries.length < 16) :
    (t.raise code x now).flags =
      if t.entries.any (·.is code x) then t.flags else t.flags.union (Entry.fresh code x now).inhibit := by
  obtain ⟨-, -, hflags⟩ := hsound
  rw [FaultTable.raise_of_room now hroom]
  split
  · rfl
  · rw [hflags]
    exact flagsOf_append t.entries [Entry.fresh code x now] t.overflowInhibits

/-- R165: a WARN entry sets no flag. -/
theorem FaultTable.raise_flags_of_warn (hsound : t.sound) (hroom : t.entries.length < 16) (hwarn : code.isStop = false) :
    (t.raise code x now).flags = t.flags := by
  rw [FaultTable.raise_flags now hsound hroom]
  split
  · rfl
  · simp [Entry.inhibit, Entry.fresh, hwarn, Inhibits.union, Inhibits.none]

/-- R165: a STOP entry sets its inhibit. -/
theorem FaultTable.raise_sets (hsound : t.sound) (hroom : t.entries.length < 16) {g : Group} (hstop : code.isStop = true)
    (hinhibit : (inhibitOf code x).group g = true) : (t.raise code x now).flags.group g = true := by
  have hfresh : (Entry.fresh code x now).inhibit.group g = true := by
    simpa [Entry.inhibit, Entry.fresh, hstop] using hinhibit
  obtain ⟨-, -, hflags⟩ := FaultTable.raise_sound t code x now hsound
  rw [hflags, flagsOf_group]
  obtain ⟨e, hmem, hcode, hsubject, -⟩ := FaultTable.raise_active now code x hroom
  have : e.inhibit.group g = true := by
    rwa [Entry.inhibit_congr (f := Entry.fresh code x now) hcode hsubject]
  simp only [Bool.or_eq_true, List.any_eq_true]
  exact .inr ⟨e, hmem, this⟩

/-- R163: no entry is ACTIVE after its condition has ended. -/
theorem FaultTable.latch_active {e : Entry} (hmem : e ∈ (t.latch code x).entries) (hcode : e.code = code)
    (hsubject : e.subject = x) : e.active = false := by
  obtain ⟨d, -, rfl⟩ := List.mem_map.1 hmem
  split
  · rfl
  · rename_i hno
    rw [if_neg hno] at hcode hsubject
    exact absurd ((d.is_iff code x).2 ⟨hcode, hsubject⟩) hno

/-- R163: the end of a condition leaves every other entry as it is. -/
theorem FaultTable.latch_others {e : Entry} (hmem : e ∈ t.entries) (hother : e.is code x = false) :
    e ∈ (t.latch code x).entries :=
  List.mem_map.2 ⟨e, hmem, by simp [hother]⟩

/-- R162, R163: in a table with room a raise, and the end of a condition, change no other entry. -/
theorem FaultTable.raise_of_others (hroom : t.entries.length < 16) {e : Entry}
    (hmem : e ∈ (t.raise code x now).entries) (hother : e.is code x = false) : e ∈ t.entries := by
  rw [FaultTable.raise_of_room now hroom] at hmem
  split at hmem
  · obtain ⟨d, hd, rfl⟩ := List.mem_map.1 hmem
    split
    · rename_i his
      rw [if_pos his] at hother
      simp_all [Entry.is, Entry.recur_code, Entry.recur_subject]
    · exact hd
  · obtain hmem | hnew := List.mem_append.1 hmem
    · exact hmem
    · rw [List.mem_singleton] at hnew
      simp [hnew, Entry.is, Entry.fresh] at hother

theorem FaultTable.latch_of_others {e : Entry} (hmem : e ∈ (t.latch code x).entries) (hother : e.is code x = false) :
    e ∈ t.entries := by
  obtain ⟨d, hd, rfl⟩ := List.mem_map.1 hmem
  split
  · rename_i his
    rw [if_pos his] at hother
    simp_all [Entry.is]
  · exact hd

@[simp] theorem FaultTable.latch_length (t : FaultTable) (code : FaultCode) (x : Subject) :
    (t.latch code x).entries.length = t.entries.length := by
  simp [FaultTable.latch]

@[simp] theorem FaultTable.latch_flags (t : FaultTable) (code : FaultCode) (x : Subject) :
    (t.latch code x).flags = t.flags := rfl

/-- R163: an entry whose condition has ended stands in the table, LATCHED. -/
theorem FaultTable.latch_of_mem {e : Entry} (hmem : e ∈ t.entries) (hcode : e.code = code) (hsubject : e.subject = x) :
    ∃ e ∈ (t.latch code x).entries, e.code = code ∧ e.subject = x ∧ e.active = false :=
  ⟨{ e with active := false }, List.mem_map.2 ⟨e, hmem, by simp [(e.is_iff code x).2 ⟨hcode, hsubject⟩]⟩, hcode, hsubject, rfl⟩

/-- R163: a condition that lasts no longer than the event that finds it is left LATCHED. -/
theorem FaultTable.raiseOnce_latched (code : FaultCode) (x : Subject) (hroom : t.entries.length < 16) :
    ∃ e ∈ ((t.raise code x now).latch code x).entries, e.code = code ∧ e.subject = x ∧ e.active = false := by
  obtain ⟨e, hmem, hcode, hsubject, -⟩ := FaultTable.raise_active now code x hroom
  exact FaultTable.latch_of_mem hmem hcode hsubject

end Table

/-! ### Reports of flags that have not changed -/

theorem reportFlags_of_eq {old : Inhibits} {s : State} (h : s.faults.flags = old) : reportFlags old s = s := if_pos h

/-- R165: the raise of a WARN entry reports nothing. -/
theorem raiseFault_of_warn {code : FaultCode} {x : Subject} {s : State} (hsound : s.faults.sound)
    (hroom : s.faults.entries.length < 16) (hwarn : code.isStop = false) : raiseFault code x s = raise code x s :=
  reportFlags_of_eq (by rw [raise_faults, FaultTable.raise_flags_of_warn _ hsound hroom hwarn])

/-- The same of one that goes LATCHED in the same event. -/
theorem raiseFaultOnce_of_warn {code : FaultCode} {x : Subject} {s : State} (hsound : s.faults.sound)
    (hroom : s.faults.entries.length < 16) (hwarn : code.isStop = false) :
    raiseFaultOnce code x s = raiseOnce code x s :=
  reportFlags_of_eq
    (by rw [raiseOnce_faults, FaultTable.latch_flags, FaultTable.raise_flags_of_warn _ hsound hroom hwarn])

end Sys2Proof.Machine
end
section
/-! The beacons (Chapter 8): overrides, discrete lines, patterns, scenes, the step timer and the lamp currents. -/

namespace Sys2Proof.Machine

/-! ### A re-derivation -/

/-- R152: what a selection is derived from. -/
theorem State.derived_congr {s t : State} (hf : t.fitment.scenes = s.fitment.scenes) (ha : t.beacon.active = s.beacon.active)
    (ho : t.beacon.overrides = s.beacon.overrides) (p : LampPair) : t.derived p = s.derived p := by
  have hactive (n : Nat) : t.sceneActive n = s.sceneActive n := by simp only [State.sceneActive, ha]
  have hclaim (n : Nat) : t.sceneClaim? n p = s.sceneClaim? n p := by
    unfold State.sceneClaim?
    rw [show t.sceneEntry n = s.sceneEntry n by unfold State.sceneEntry; rw [hf]]
  have hclaimants : t.claimants p = s.claimants p := by simp only [State.claimants, hactive, hclaim]
  have hoverride : t.override? p = s.override? p := by simp only [State.override?, ho]
  unfold State.derived
  rw [hactive, hclaim, hclaimants, hoverride]

/-- R145: a started player goes by its selection and the pattern library. -/
theorem State.startedPlayer_congr {s t : State} (hf : t.fitment.patterns = s.fitment.patterns) (sel : Selection) :
    t.startedPlayer sel = s.startedPlayer sel := by
  simp only [State.startedPlayer, State.pattern?, hf]

@[simp] theorem liftCut_beacon (l : Lamp) (s : State) :
    (liftCut l s).beacon.active = s.beacon.active ∧ (liftCut l s).beacon.overrides = s.beacon.overrides ∧
      (liftCut l s).beacon.latches = s.beacon.latches ∧ (liftCut l s).beacon.players = s.beacon.players := by
  unfold liftCut; split <;> simp

/-- R157: a lifted cut. -/
theorem liftCut_lamp (l m : Lamp) (s : State) :
    (liftCut l s).lamp m = if m = l ∧ (s.lamp l).cut = true then ⟨.untested, false⟩ else s.lamp m := by
  unfold liftCut
  by_cases hcut : (s.lamp l).cut = true
  · by_cases hm : m = l
    · subst hm; simp [hcut]
    · simp [hcut, hm, State.setLamp_lamp_ne s (Ne.symm hm)]
  · simp [hcut]

@[simp] theorem startChanged_beacon (p : LampPair) (sel : Selection) (s : State) :
    (startChanged p sel s).beacon.active = s.beacon.active ∧
      (startChanged p sel s).beacon.overrides = s.beacon.overrides ∧
      (startChanged p sel s).beacon.latches = s.beacon.latches ∧
      (startChanged p sel s).beacon.players = (s.setPlayer p (s.startedPlayer sel)).beacon.players := by
  unfold startChanged; dsimp only; split <;> simp

@[simp] theorem rederive_beacon (b : Bool) (p : LampPair) (s : State) :
    (rederive b p s).beacon.active = s.beacon.active ∧ (rederive b p s).beacon.overrides = s.beacon.overrides ∧
      (rederive b p s).beacon.latches = s.beacon.latches := by
  unfold rederive; dsimp only; (repeat' split) <;> simp

theorem startChanged_player_self (p : LampPair) (sel : Selection) (s : State) :
    (startChanged p sel s).player p = s.startedPlayer sel := by
  have h : (startChanged p sel s).player p = (s.setPlayer p (s.startedPlayer sel)).player p := by
    simp only [State.player, startChanged_beacon]
  rw [h, State.setPlayer_player_self]

theorem startChanged_player_ne {p q : LampPair} (h : q ≠ p) (sel : Selection) (s : State) :
    (startChanged p sel s).player q = s.player q := by
  have h' : (startChanged p sel s).player q = (s.setPlayer p (s.startedPlayer sel)).player q := by
    simp only [State.player, startChanged_beacon]
  rw [h', State.setPlayer_player_ne _ (Ne.symm h)]

/-- R152, R153: the player of the pair after a re-derivation that does not come from STOP becoming active. -/
theorem rederive_player_self (p : LampPair) (s : State) :
    (rederive false p s).player p =
      if (s.derived p).pattern = (s.player p).sel.pattern ∧ (s.derived p).invert = (s.player p).sel.invert then
        { s.player p with sel := s.derived p, pending := none }
      else if (s.player p).cond = .playing then { s.player p with pending := some (s.derived p) }
      else s.startedPlayer (s.derived p) := by
  unfold rederive
  dsimp only
  by_cases hsame : (s.derived p).pattern = (s.player p).sel.pattern ∧ (s.derived p).invert = (s.player p).sel.invert
  · simp [hsame]
  · by_cases hplaying : (s.player p).cond = .playing
    · simp [hsame, hplaying]
    · simp [hsame, hplaying, startChanged_player_self]

/-- R152: a re-derivation leaves the other pairs' players as they are. -/
theorem rederive_player_ne (b : Bool) {p q : LampPair} (h : q ≠ p) (s : State) :
    (rederive b p s).player q = s.player q := by
  unfold rederive
  dsimp only
  split
  · exact State.setPlayer_player_ne _ (Ne.symm h) _
  · split
    · exact startChanged_player_ne h _ _
    · exact State.setPlayer_player_ne _ (Ne.symm h) _

theorem rederive_derived (b : Bool) (p q : LampPair) (s : State) : (rederive b p s).derived q = s.derived q :=
  State.derived_congr (by simp) (by simp) (by simp) q

/-- R152, R153: how a player meets a re-derivation, in the words of the statements. -/
theorem meetsSelection_rederive {s u : State} (p : LampPair) (hplayer : u.player p = s.player p) :
    s.meetsSelection (rederive false p u) p := by
  unfold State.meetsSelection
  rw [rederive_player_self, rederive_derived, hplayer,
    State.startedPlayer_congr (s := u) (t := rederive false p u) (by simp)]

theorem meetsSelection_of_matches {s t u : State} {p : LampPair} (h : t.Matches u) (hu : s.meetsSelection u p) :
    s.meetsSelection t p := by
  unfold State.meetsSelection at hu ⊢
  rw [h.player, State.derived_congr (s := u) (by rw [h.fitment]) (by rw [h.beacon]) (by rw [h.beacon]),
    State.startedPlayer_congr (s := u) (by rw [h.fitment])]
  exact hu

/-! ### The step timer -/

/-- Settles O59, by the branches of a step timer's expiry. -/
theorem stepTimerPlaysThePattern : Obligations.StepTimerPlaysThePattern := by
  intro p s hrun hplaying htimer
  have hexpiry : (s.player p).cond = .playing ∧ (s.player p).timer.isSome :=
    ⟨hplaying, Option.isSome_iff_ne_none.2 htimer⟩
  refine ⟨fun sel hsel => ?_, fun hnone hstep => ?_, fun r hnone hstep hcycle hr => ?_, fun hnone hstep h0 hcycle => ?_⟩
  · obtain ⟨t, he, ht⟩ := runEvent_effect (stepExpiry p) hrun
    have heffect : stepExpiry p s = startChanged p sel s := by simp [stepExpiry, hexpiry, hsel]
    rw [heffect] at ht
    exact ⟨t, he, by rw [ht.player, startChanged_player_self],
      fun q hq => by rw [ht.player, startChanged_player_ne hq],
      by rw [ht.records]; simp [State.records], by rw [ht.faults]; simp⟩
  · obtain ⟨t, he, ht⟩ := runEvent_next (stepExpiry p) hrun
    exact ⟨t, he, ht.trans (by simp [stepExpiry, hexpiry, hnone, hstep])⟩
  · obtain ⟨t, he, ht⟩ := runEvent_next (stepExpiry p) hrun
    exact ⟨t, he, ht.trans (by simp [stepExpiry, hexpiry, hnone, Nat.not_lt.2 hstep, hcycle, hr])⟩
  · obtain ⟨t, he, ht⟩ := runEvent_next (stepExpiry p) hrun
    exact ⟨t, he, ht.trans (by simp [stepExpiry, hexpiry, hnone, Nat.not_lt.2 hstep, h0, Nat.not_lt.2 hcycle])⟩

/-! ### Overrides -/

theorem coded_lampPair {b : Byte} {p : LampPair} (h : b.toNat = p.idx.val) : coded LampPair.all b = some p := by
  unfold coded; rw [h]; cases p <;> rfl

/-- R152: the re-derivation that follows a change of a pair's override. -/
theorem overrideChange_effect (p : LampPair) (v : Option Override) (s : State) {t : State}
    (ht : t.Matches (rederive false p (s.setOverride p v))) :
    t.override? p = v ∧ s.meetsSelection t p ∧
      (∀ q, q ≠ p → t.player q = s.player q ∧ t.override? q = s.override? q) ∧ t.records = s.records ∧
      t.faults = s.faults ∧ t.fitment = s.fitment := by
  have hover (q : LampPair) : t.override? q = (s.setOverride p v).override? q := by
    rw [ht.override]; simp [State.override?]
  refine ⟨by rw [hover, State.setOverride_override_self], ?_, fun q hq => ⟨?_, ?_⟩, ?_, by simp [ht.faults],
    by simp [ht.fitment]⟩
  · exact meetsSelection_of_matches ht (meetsSelection_rederive p rfl)
  · rw [ht.player, rederive_player_ne false hq]; rfl
  · rw [hover, State.setOverride_override_ne _ (Ne.symm hq)]
  · rw [ht.records]; simp [State.records]

theorem rederive_outgoing (b : Bool) (p : LampPair) (s : State) (v : Option Override) :
    (rederive b p (s.setOverride p v)).link.outgoing = s.link.outgoing := by simp

theorem rederive_override (b : Bool) (p q : LampPair) (s : State) : (rederive b p s).override? q = s.override? q := by
  simp [State.override?]

/-- Settles O35. -/
theorem overrideIsSetAndRemoved : Obligations.OverrideIsSetAndRemoved := by
  refine ⟨fun tag p r s ha hp hset hpat hinv hdur => ?_, fun tag p r s ha hp hrel hnone => ?_,
    fun tag p r v s ha hp hrel hsome => ?_, fun p v s hrun hsome htimer => ?_⟩
  · have hchecks : firstBad r.checks = none := by
      simp [firstBad_eq_none, OverrideReq.checks, coded_lampPair hp, hset, isFlag, inRange, hpat, hdur]
      omega
    obtain ⟨t, he, ht, ho⟩ := request_effect .beaconOverride tag (beaconOverrideRequest r) (s' := setOverrideTo p r s)
      (p := overrideReply ((setOverrideTo p r s).override? p)) ha
      (by simp [beaconOverrideRequest, hchecks, coded_lampPair hp, hset]) (rederive_outgoing false p s _)
    obtain ⟨h1, h2, h3, h4, h5, h6⟩ := overrideChange_effect p _ s ht
    refine ⟨t, he, h1, h2, h3, ?_, h4, h5, h6⟩
    have hreply : overrideReply ((setOverrideTo p r s).override? p) =
        1 :: (b8 r.pattern.toNat ++ bFlag (r.invert == 1) ++ b16 (if r.duration = 0 then 0xFFFF else r.duration.toNat)) := by
      rw [setOverrideTo, rederive_override, State.setOverride_override_self]
      unfold overrideReply overrideLeft
      have hleft (n : Nat) : secondsLeft (1000 * n) = n := by unfold secondsLeft; omega
      by_cases h0 : r.duration = 0
      · simp [h0, flagOf]
      · rw [if_neg h0, if_neg h0]
        simp [flagOf, hleft]
    rw [← hreply]
    exact ho
  · have hchecks : firstBad r.checks = none := by
      simp [firstBad_eq_none, OverrideReq.checks, coded_lampPair hp, hrel, isFlag]
    refine request_done .beaconOverride tag (beaconOverrideRequest r) ha ?_
    simp [beaconOverrideRequest, hchecks, coded_lampPair hp, hrel, dropOverride, hnone, overrideReply]
  · have hchecks : firstBad r.checks = none := by
      simp [firstBad_eq_none, OverrideReq.checks, coded_lampPair hp, hrel, isFlag]
    obtain ⟨t, he, ht, ho⟩ := request_effect .beaconOverride tag (beaconOverrideRequest r)
      (s' := rederive false p (s.setOverride p none)) (p := [0, 0, 0, 0, 0]) ha
      (by simp [beaconOverrideRequest, hchecks, coded_lampPair hp, hrel, dropOverride, hsome, rederive_override,
            overrideReply])
      (rederive_outgoing false p s _)
    obtain ⟨h1, h2, h3, h4, h5, h6⟩ := overrideChange_effect p _ s ht
    exact ⟨t, he, h1, h2, h3, ho, h4, h5, h6⟩
  · obtain ⟨t, he, ht⟩ := runEvent_effect (overrideExpiry p) hrun
    have heffect : overrideExpiry p s = rederive false p (s.setOverride p none) := by
      simp [overrideExpiry, dropOverride, hsome, Option.isSome_iff_ne_none.2 htimer]
    rw [heffect] at ht
    exact ⟨t, he, overrideChange_effect p _ s ht⟩

/-! ### Discrete lines -/

theorem coded_lamp {b : Byte} {l : Lamp} (h : b.toNat = l.idx.val) : coded Lamp.all b = some l := by
  unfold coded; rw [h]; rcases l with (_ | _ | _) | (_ | _ | _) <;> rfl

theorem coded_lamp_isSome {b : Byte} (h : b.toNat < 6) : ∃ l, coded Lamp.all b = some l :=
  ⟨_, List.getElem?_eq_getElem (l := Lamp.all) h⟩

/-- Settles O36. -/
theorem setOutputDrivesDiscreteLines : Obligations.SetOutputDrivesDiscreteLines := by
  intro tag line value s ha
  refine ⟨fun p hline hvalue hdis => ?_, fun l hline hvalue hdis => ?_, fun hline => ?_, fun hline hvalue => ?_⟩
  · have hflag : isFlag value = true := by simp [isFlag]; omega
    obtain ⟨t, he, ht, ho⟩ := request_effect .setOutput tag (setOutputRequest line value) (s' := setOutputTo p (flagOf value) s)
      (p := [1]) ha (by simp [setOutputRequest, coded_lamp hline, hflag, State.lampIsDiscrete, hdis, Lamp.pair])
      (by unfold setOutputTo; split <;> simp)
    have hbeacon : (setOutputTo p (flagOf value) s).beacon.latches = (s.setLatch p (flagOf value)).beacon.latches ∧
        (setOutputTo p (flagOf value) s).beacon.players = s.beacon.players := by
      unfold setOutputTo
      split <;> simp
    obtain ⟨hlatches, hplayers⟩ := hbeacon
    have hlatch (q : LampPair) : t.latch q = (s.setLatch p (flagOf value)).latch q := by
      rw [ht.latch]; simp only [State.latch, hlatches]
    refine ⟨t, he, by rw [hlatch, State.setLatch_latch_self]; rfl,
      fun q hq => by rw [hlatch, State.setLatch_latch_ne _ (Ne.symm hq)], fun l => ?_, by rw [ht.beacon, hplayers], ho, ?_, ?_, ?_⟩
    · rw [ht.lamp]
      unfold setOutputTo
      by_cases hv : value = 1
      · simp only [hv, flagOf, beq_self_eq_true, if_true, liftCut_lamp, true_and]
        by_cases hl : l = .b p
        · subst hl; rfl
        · simp only [hl, false_and, if_false]; rfl
      · simp only [flagOf, beq_iff_eq, hv, if_false, false_and, and_false]; rfl
    · rw [ht.records]; unfold setOutputTo; split <;> simp [State.records]
    · rw [ht.faults]; unfold setOutputTo; split <;> simp
    · rw [ht.fitment]; unfold setOutputTo; split <;> simp
  · have hflag : isFlag value = true := by simp [isFlag]; omega
    exact request_done .setOutput tag _ ha (by simp [setOutputRequest, coded_lamp hline, hflag, hdis])
  · have hno : coded Lamp.all line = none := by simpa [coded, Lamp.all] using hline
    exact request_badField .setOutput tag _ (n := 1) ha (by simp [setOutputRequest, hno])
  · obtain ⟨l, hl⟩ := coded_lamp_isSome hline
    have hflag : isFlag value = false := by simp [isFlag]; omega
    exact request_badField .setOutput tag _ (n := 2) ha (by simp [setOutputRequest, hl, hflag])

/-! ### Lamp currents -/

@[simp] theorem setHealth_frame (l : Lamp) (h : Health) (s : State) :
    (setHealth l h s).faults = s.faults ∧ (setHealth l h s).seq = s.seq ∧ (setHealth l h s).supply = s.supply ∧
      (setHealth l h s).beacon.players = s.beacon.players := by
  simp [setHealth]

theorem setHealth_lamp_self (l : Lamp) (h : Health) (s : State) :
    (setHealth l h s).lamp l = { s.lamp l with health := h } := State.setLamp_lamp_self ..

theorem setHealth_lamp_ne {l m : Lamp} (hm : m ≠ l) (h : Health) (s : State) :
    (setHealth l h s).lamp m = s.lamp m := State.setLamp_lamp_ne _ (Ne.symm hm) _

/-- R149: a cut line is not driven. -/
theorem lampDriven_of_cut {s : State} {l : Lamp} (h : (s.lamp l).cut = true) : s.lampDriven l = false := by
  simp [State.lampDriven, h]

/-- R157 to R159: the state in which LAMP_SHORT is raised: the line is cut, a discrete latch is off and LAMP_OPEN has
ended. -/
def State.lampShorted (l : Lamp) (s : State) : State :=
  Machine.latch .lampOpen (.lamp l) (shortLatch l (s.setLamp l ⟨.shorted, true⟩))

@[simp] theorem State.lampShorted_frame (l : Lamp) (s : State) :
    (s.lampShorted l).faults = s.faults.latch .lampOpen (.lamp l) ∧ (s.lampShorted l).seq = s.seq ∧
      (s.lampShorted l).beacon.players = s.beacon.players ∧
      (s.lampShorted l).beacon.lamps = (s.setLamp l ⟨.shorted, true⟩).beacon.lamps := by
  unfold State.lampShorted shortLatch
  split <;> simp

theorem State.lampShorted_lamp (l m : Lamp) (s : State) :
    (s.lampShorted l).lamp m = (s.setLamp l ⟨.shorted, true⟩).lamp m := by
  simp only [State.lamp, State.lampShorted_frame]

theorem State.lampShorted_latch (l : Lamp) (s : State) :
    (s.lampShorted l).latch l.pair = (s.latch l.pair && !s.lampIsDiscrete l) := by
  have hfit : (s.setLamp l ⟨.shorted, true⟩).lampIsDiscrete l = s.lampIsDiscrete l := by cases l <;> rfl
  have hlatch (u : State) : (Machine.latch .lampOpen (.lamp l) u).latch l.pair = u.latch l.pair := rfl
  unfold State.lampShorted shortLatch
  rw [hlatch, hfit]
  split
  · rename_i hdiscrete
    simp [hdiscrete]
  · rename_i hdiscrete
    simp [Bool.eq_false_iff.2 hdiscrete]
    rfl

/-- R157: what a short leaves. -/
theorem shortLamp_eq {l : Lamp} {s : State} (hdriven : s.lampDriven l = true) (hsound : s.faults.sound)
    (hroom : s.faults.entries.length < 16) : shortLamp l s = raiseOnce .lampShort (.lamp l) (s.lampShorted l) := by
  unfold shortLamp
  rw [if_pos hdriven]
  exact raiseFaultOnce_of_warn (s := s.lampShorted l) (by simpa using FaultTable.latch_sound _ _ _ hsound) (by simpa using hroom) rfl

/-- Settles O60. -/
theorem lampCurrentsAreJudged : Obligations.LampCurrentsAreJudged := by
  intro l s hrun hdriven
  refine ⟨fun current hdis hcur => ?_, fun current hdis hcur hsound hroom => ?_, fun hsound hroom => ?_⟩
  · obtain ⟨t, he, ht⟩ := runEvent_next (measureLamp l current) hrun
    refine ⟨t, he, ht.trans ?_⟩
    simp only [measureLamp, hdriven, hdis, Config.lampOpen, Nat.not_lt.2 hcur]
    rfl
  · obtain ⟨t, he, ht⟩ := runEvent_effect (measureLamp l current) hrun
    have heffect : measureLamp l current s = raise .lampOpen (.lamp l) (setHealth l .open_ s) := by
      simp only [measureLamp, hdriven, hdis, Config.lampOpen, hcur, Bool.not_false, Bool.and_self, if_true]
      exact raiseFault_of_warn (by simpa using hsound) (by simpa using hroom) rfl
    rw [heffect] at ht
    have hlamp (m : Lamp) : t.lamp m = (setHealth l .open_ s).lamp m := by
      rw [ht.lamp]; simp only [State.lamp, raise_frame]
    have hfaults : t.faults = s.faults.raise .lampOpen (.lamp l) s.supply.time := by simp [ht.faults]
    refine ⟨t, he, by rw [hlamp, setHealth_lamp_self], fun m hm => by rw [hlamp, setHealth_lamp_ne hm], ?_, ?_,
      by rw [ht.records]; simp [State.records], by rw [ht.beacon]; simp⟩
    · rw [hfaults]; exact FaultTable.raise_active _ _ _ hroom
    · rw [hfaults]; exact FaultTable.raise_flags_of_warn _ hsound hroom rfl
  · obtain ⟨t, he, ht⟩ := runEvent_effect (shortLamp l) hrun
    rw [shortLamp_eq hdriven hsound hroom] at ht
    have hlamp (m : Lamp) : t.lamp m = (s.setLamp l ⟨.shorted, true⟩).lamp m := by
      rw [ht.lamp, ← State.lampShorted_lamp]; simp only [State.lamp, raiseOnce_frame]
    have hself : t.lamp l = ⟨.shorted, true⟩ := by rw [hlamp, State.setLamp_lamp_self]
    have hfaults := ht.faults
    rw [raiseOnce_faults] at hfaults
    have hroom' : (s.lampShorted l).faults.entries.length < 16 := by simpa using hroom
    have hsound' : (s.lampShorted l).faults.sound := by simpa using FaultTable.latch_sound _ _ _ hsound
    refine ⟨t, he, hself, lampDriven_of_cut (by rw [hself]), fun m hm => ?_, ?_, fun e hmem hcode hsubject => ?_, ?_, ?_,
      by rw [ht.beacon]; simp, by rw [ht.records]; simp [State.records]⟩
    · rw [hlamp, State.setLamp_lamp_ne _ (Ne.symm hm)]
    · rw [hfaults]; exact FaultTable.raiseOnce_latched _ _ _ hroom'
    · rw [hfaults] at hmem
      have hother : e.is .lampShort (.lamp l) = false := by simp [Entry.is, hcode]
      have hold := FaultTable.raise_of_others _ hroom' (FaultTable.latch_of_others hmem hother) hother
      exact FaultTable.latch_active (by simpa using hold) hcode hsubject
    · rw [ht.latch, ← State.lampShorted_latch]; simp only [State.latch, raiseOnce_frame]
    · rw [hfaults, FaultTable.latch_flags, FaultTable.raise_flags_of_warn _ hsound' hroom' rfl]; simp

end Sys2Proof.Machine
end
section
/-! The writes of POLICY, LAMPS, PATTERN and SCENE, which take effect at once (O23, O24). -/

namespace Sys2Proof.Machine

/-! ### POLICY -/

/-- R139: the stop states of all groups, worked out afresh. -/
def State.stopsTaken (s : State) : Vector Bool 3 :=
  ((s.operator.obstructed.set Group.lift.idx (s.stopStateNow .lift)).set Group.kerb.idx (s.stopStateNow .kerb)).set
    Group.road.idx (s.stopStateNow .road)

theorem State.stopsTaken_get (s : State) (g : Group) : s.stopsTaken[g.idx] = s.stopStateNow g := by
  cases g <;> simp [State.stopsTaken, Group.idx]

/-- R139: the state with them. -/
def State.withStops (s : State) : State := { s with operator := { s.operator with obstructed := s.stopsTaken } }

/-- R139: with no active order, new stop states reach the Operator Input Unit alone. -/
theorem refreshStops_of_noActive {s : State} (h : s.noActive) :
    refreshStops s = s.withStops := by
  have hlift := refreshStop_of_active_none (h .lift)
  have hkerb : ∀ u : State, u.seq = s.seq → refreshStop .kerb u =
      { u with operator := { u.operator with obstructed := u.operator.obstructed.set Group.kerb.idx (u.stopStateNow .kerb) } } :=
    fun u hu => refreshStop_of_active_none (by simpa [State.active?, hu] using h .kerb)
  have hroad : ∀ u : State, u.seq = s.seq → refreshStop .road u =
      { u with operator := { u.operator with obstructed := u.operator.obstructed.set Group.road.idx (u.stopStateNow .road) } } :=
    fun u hu => refreshStop_of_active_none (by simpa [State.active?, hu] using h .road)
  unfold refreshStops
  simp only [Group.all, List.foldl_cons, List.foldl_nil]
  rw [hlift, hkerb _ (by rfl), hroad _ (by rfl)]
  rfl

/-- R138, R139: the stop state of a group by its two slots. -/
theorem stopStateNow_eq {s : State} {r : PolicyRec} (hr : s.fitment.policy = some r) {g : Group} {x y : StopSlot}
    (hx : r.slots[2 * g.idx.val]? = some x) (hy : r.slots[2 * g.idx.val + 1]? = some y) :
    s.stopStateNow g = (s.slotActive x || s.slotActive y) := by
  unfold State.stopStateNow
  rw [hr]
  cases g <;> simp_all [Group.idx]

theorem slotActive_eq (s : State) (x : StopSlot) : s.slotActive x = x.input.any fun i => s.level (.g i) == x.stopsOn := by
  unfold State.slotActive
  split <;> simp_all

/-! ### LAMPS -/

/-- R148: the latches after one pair's discrete line has been judged. -/
theorem dropLatch_latch (p q : LampPair) (s : State) :
    (dropLatch p s).latch q = if q = p then s.latch p && s.isDiscrete p else s.latch q := by
  unfold dropLatch
  by_cases hq : q = p
  · subst hq
    split
    · rename_i hdiscrete
      simp [hdiscrete]
    · rename_i hdiscrete
      simp [Bool.eq_false_iff.2 hdiscrete]
  · rw [if_neg hq]
    split
    · rfl
    · exact State.setLatch_latch_ne _ (Ne.symm hq) _

theorem dropLatch_isDiscrete (p q : LampPair) (s : State) : (dropLatch p s).isDiscrete q = s.isDiscrete q := by
  unfold dropLatch
  split <;> rfl

@[simp] theorem dropLatch_rest (p : LampPair) (s : State) :
    (dropLatch p s).fitment = s.fitment ∧ (dropLatch p s).seq = s.seq ∧ (dropLatch p s).faults = s.faults ∧
      (dropLatch p s).link = s.link ∧ (dropLatch p s).beacon.players = s.beacon.players ∧
      (dropLatch p s).beacon.lamps = s.beacon.lamps ∧ (dropLatch p s).beacon.overrides = s.beacon.overrides := by
  unfold dropLatch
  split <;> simp

/-- R148: the latches of all pairs. -/
def dropLatches (s : State) : State := LampPair.all.foldl (fun s p => dropLatch p s) s

theorem dropLatches_latch (p : LampPair) (s : State) : (dropLatches s).latch p = (s.latch p && s.isDiscrete p) := by
  simp only [dropLatches, LampPair.all, List.foldl_cons, List.foldl_nil, dropLatch_latch, dropLatch_isDiscrete]
  cases p <;> simp

@[simp] theorem dropLatches_rest (s : State) :
    (dropLatches s).fitment = s.fitment ∧ (dropLatches s).seq = s.seq ∧ (dropLatches s).faults = s.faults ∧
      (dropLatches s).link = s.link ∧ (dropLatches s).beacon.players = s.beacon.players ∧
      (dropLatches s).beacon.lamps = s.beacon.lamps ∧ (dropLatches s).beacon.overrides = s.beacon.overrides := by
  simp [dropLatches, LampPair.all]

/-- Settles O23: a POLICY write recomputes the stop states, a LAMPS write drops latches pair by pair. -/
theorem policyAndLampsTakeEffectAtTheWrite : Obligations.PolicyAndLampsTakeEffectAtTheWrite := by
  intro tag s ha hopen
  refine ⟨fun r hn hidle => ?_, fun r hn => ?_⟩
  · have hwrite := refreshStops_of_noActive (s := s.modFitment fun f => { f with policy := some r.record }) hidle
    have hdone : fitPolicyRequest r s =
        ((s.modFitment fun f => { f with policy := some r.record }).withStops, .done []) := by
      rw [← hwrite]
      exact lockedWrite_done hopen hn
    obtain ⟨t, he, ht, ho⟩ := request_effect .fitPolicy tag (fitPolicyRequest r) (p := []) ha hdone rfl
    refine ⟨t, he, ht.fitment, fun g x y hx hy => ?_, ho, ht.records, ht.faults, ht.flow, ht.drive, ht.trackers,
      ht.beacon⟩
    rw [ht.isObstructed, ← slotActive_eq, ← slotActive_eq]
    exact (State.stopsTaken_get _ g).trans (stopStateNow_eq (r := r.record) rfl hx hy)
  · obtain ⟨t, he, ht, ho⟩ := request_effect .fitLamps tag (fitLampsRequest r) (p := []) ha
      (s' := dropLatches (s.modFitment fun f => { f with lamps := some r.record })) (lockedWrite_done hopen hn) (by simp)
    refine ⟨t, he, by rw [ht.fitment]; simp [State.modFitment], fun p => ?_, by rw [ht.beacon]; simp, by rw [ht.beacon]; simp,
      by rw [ht.beacon]; simp, ho, by rw [ht.records]; simp [State.records], by rw [ht.faults]; simp⟩
    rw [ht.latch, dropLatches_latch]
    rfl

/-! ### PATTERN -/

/-- R146: a FIT_PATTERN of pattern n restarts the pair's player when it is DARK and has selected it. -/
def adoptOne (n : Nat) (p : LampPair) (s : State) : State :=
  if (s.player p).cond = .dark ∧ (s.player p).sel.pattern = n ∧ n ≠ 0 then
    s.setPlayer p (s.startedPlayer (s.player p).sel)
  else s

theorem adoptPattern_eq (n : Nat) (s : State) :
    adoptPattern n s = adoptOne n .flag (adoptOne n .side (adoptOne n .rear s)) := rfl

@[simp] theorem adoptOne_rest (n : Nat) (p : LampPair) (s : State) :
    (adoptOne n p s).fitment = s.fitment ∧ (adoptOne n p s).seq = s.seq ∧ (adoptOne n p s).faults = s.faults ∧
      (adoptOne n p s).link = s.link ∧ (adoptOne n p s).beacon.lamps = s.beacon.lamps := by
  unfold adoptOne
  split <;> simp

theorem adoptOne_player_ne (n : Nat) {p q : LampPair} (h : q ≠ p) (s : State) :
    (adoptOne n p s).player q = s.player q := by
  unfold adoptOne
  split
  · exact State.setPlayer_player_ne _ (Ne.symm h) _
  · rfl

theorem adoptOne_player_self (n : Nat) (p : LampPair) (s : State) :
    (adoptOne n p s).player p =
      if (s.player p).cond = .dark ∧ (s.player p).sel.pattern = n ∧ n ≠ 0 then s.startedPlayer (s.player p).sel
      else s.player p := by
  unfold adoptOne
  split
  · exact State.setPlayer_player_self ..
  · rfl

theorem adoptOne_startedPlayer (n : Nat) (p : LampPair) (s : State) (sel : Selection) :
    (adoptOne n p s).startedPlayer sel = s.startedPlayer sel := State.startedPlayer_congr (by simp) sel

/-- R146: what FIT_PATTERN does to each player. -/
theorem adoptPattern_player (n : Nat) (p : LampPair) (s : State) :
    (adoptPattern n s).player p =
      if (s.player p).cond = .dark ∧ (s.player p).sel.pattern = n ∧ n ≠ 0 then s.startedPlayer (s.player p).sel
      else s.player p := by
  rw [adoptPattern_eq]
  cases p with
  | rear =>
    rw [adoptOne_player_ne _ (by decide), adoptOne_player_ne _ (by decide), adoptOne_player_self]
  | side =>
    rw [adoptOne_player_ne _ (by decide), adoptOne_player_self, adoptOne_player_ne _ (by decide), adoptOne_startedPlayer]
  | flag =>
    rw [adoptOne_player_self, adoptOne_player_ne _ (by decide), adoptOne_player_ne _ (by decide), adoptOne_startedPlayer,
      adoptOne_startedPlayer]

/-- R145: a player that starts a pattern of the library. -/
theorem startedPlayer_of_pattern {s : State} {sel : Selection} {r : PatternRec} (h : s.pattern? sel.pattern = some r) :
    s.startedPlayer sel =
      { sel := sel, steps := r.steps, repeats := r.repeats, cond := .playing, step := 0, cycle := 1,
        timer := some (stepTime r.steps 0), pending := none } := by
  unfold State.startedPlayer
  rw [h]

/-! ### SCENE -/

/-- R152: a re-derivation of another pair leaves how a player has met its own. -/
theorem meetsSelection_rederive_ne {s u : State} (b : Bool) {p q : LampPair} (hq : q ≠ p) (h : s.meetsSelection u q) :
    s.meetsSelection (rederive b p u) q := by
  unfold State.meetsSelection at h ⊢
  rw [rederive_player_ne b hq, rederive_derived, State.startedPlayer_congr (s := u) (t := rederive b p u) (by simp)]
  exact h

/-- R152: after a re-derivation of every pair, each player has met its own. -/
theorem meetsSelection_rederiveAll {s u : State} (hrun : u.supply.mode = .run) (hplayers : ∀ p, u.player p = s.player p)
    (p : LampPair) : s.meetsSelection (rederiveAll false u) p := by
  have hall : rederiveAll false u = rederive false .flag (rederive false .side (rederive false .rear u)) := if_pos hrun
  rw [hall]
  cases p with
  | rear =>
    exact meetsSelection_rederive_ne _ (by decide) (meetsSelection_rederive_ne _ (by decide)
      (meetsSelection_rederive _ (hplayers _)))
  | side =>
    refine meetsSelection_rederive_ne _ (by decide) (meetsSelection_rederive _ ?_)
    rw [rederive_player_ne _ (by decide), hplayers]
  | flag =>
    refine meetsSelection_rederive _ ?_
    rw [rederive_player_ne _ (by decide), rederive_player_ne _ (by decide), hplayers]

/-- Settles O24. -/
theorem patternsAndScenesReachThePlayers : Obligations.PatternsAndScenesReachThePlayers := by
  intro tag s ha
  refine ⟨fun r h hlen hn => ?_, fun r h hn => ?_⟩
  · have hpos : r.pattern.toNat ≠ 0 := by
      have := firstBad_eq_none.1 hn (inRange 1 8 r.pattern.toNat) (by simp [PatternReq.checks])
      simp [inRange] at this
      omega
    have hwrite : fitPatternRequest r s =
        (adoptPattern r.pattern.toNat (s.modFitment fun f =>
          { f with patterns := f.patterns.set (r.pattern.toNat - 1) (some r.record) }), .done []) := by
      unfold fitPatternRequest
      rw [if_pos (by simpa [PatternReq.lengthOk] using hlen), openWrite_done hn]
      simp only [State.modFitment, setIfInBounds_eq_set _ _ h]
      rfl
    obtain ⟨t, he, ht, ho⟩ := request_effect .fitPattern tag (fitPatternRequest r) ha hwrite (by simp [adoptPattern_eq])
    refine ⟨t, he, by rw [ht.fitment]; simp [adoptPattern_eq, State.modFitment], fun p => ?_, ho,
      by rw [ht.beacon]; simp [adoptPattern_eq], by rw [ht.records]; simp [State.records, adoptPattern_eq],
      by rw [ht.faults]; simp [adoptPattern_eq]⟩
    rw [ht.player, adoptPattern_player]
    by_cases hdark : (s.player p).cond = .dark ∧ (s.player p).sel.pattern = r.pattern.toNat
    · rw [if_pos hdark]
      refine (if_pos ⟨hdark.1, hdark.2, hpos⟩).trans
        (startedPlayer_of_pattern (r := r.record) ((congrArg _ hdark.2).trans ?_))
      simp [State.pattern?, State.modFitment, hpos]
    · rw [if_neg hdark]
      exact if_neg fun h => hdark ⟨h.1, h.2.1⟩
  · have hwrite : fitSceneRequest r s =
        (rederiveAll false (s.modFitment fun f =>
          { f with scenes := f.scenes.set (r.scene.toNat - 1) (some r.record) }), .done []) := by
      unfold fitSceneRequest
      rw [openWrite_done hn]
      simp only [State.modFitment, setIfInBounds_eq_set _ _ h]
      rfl
    obtain ⟨t, he, ht, ho⟩ := request_effect .fitScene tag (fitSceneRequest r) ha hwrite (by simp)
    obtain ⟨hrun, -⟩ := ha
    exact ⟨t, he, by rw [ht.fitment]; simp [State.modFitment],
      fun p => meetsSelection_of_matches ht (meetsSelection_rederiveAll (by simpa using hrun) (fun _ => rfl) p), ho,
      by rw [ht.records]; simp [State.records], by rw [ht.faults]; simp⟩

end Sys2Proof.Machine
end

section
/-! What the shared operations of the Motion Sequencer leave: changes of one record, withdrawals with nothing waiting, releases of a
group, the end of a run, and the immediate end of a phase (R28). -/

namespace Sys2Proof.Machine

/-! ### One record -/

@[simp] theorem setOrder_seq (n : Nat) (f : Order → Order) (s : State) : (setOrder n f s).seq = (s.modOrder n f).seq := by
  simp [setOrder]

theorem setOrder_records (n : Nat) (f : Order → Order) (s : State) :
    (setOrder n f s).records = (s.seq.orders.map fun x => if x.number = n then f x else x).map Order.unmarked := by
  simp only [State.records, setOrder_seq]
  rfl

/-- Records that agree when their noticed fields are left out. -/
theorem records_congr {s t : State} (h : t.seq.orders = s.seq.orders) : t.records = s.records := by
  simp only [State.records, h]

theorem State.active_congr {s t : State} (h : t.seq.orders = s.seq.orders) (g : Group) : t.active? g = s.active? g := by
  simp only [State.active?, h]

theorem State.order_congr {s t : State} (h : t.seq.orders = s.seq.orders) (n : Nat) : t.order? n = s.order? n := by
  simp only [State.order?, h]

/-! ### Claims with nothing waiting -/

theorem tryGrant_eq_of_waiting_nil {s : State} (h : s.flow.waiting = []) : tryGrant s = (s, []) := by
  have hready : (tryGrant s).2 = [] := by
    unfold tryGrant
    split
    · rfl
    · simp [h, grantFrom]
  exact Prod.ext (tryGrant_of_waiting_nil h) hready

/-- R59: the claim of an order goes. -/
def State.unclaimed (s : State) (n : Nat) : State :=
  s.modFlow fun fl => { fl with waiting := fl.waiting.filter (·.order != n), granted := fl.granted.filter (·.order != n) }

theorem State.unclaimed_waiting {s : State} (h : s.flow.waiting = []) (n : Nat) : (s.unclaimed n).flow.waiting = [] := by
  simp [State.unclaimed, State.modFlow, h]

theorem withdrawClaim_eq (n : Nat) (s : State) :
    withdrawClaim n s =
      if claimed n s.flow.waiting || claimed n s.flow.granted then
        if claimed n s.flow.granted && (tryGrant (s.unclaimed n)).1.flow.granted.isEmpty &&
            decide ((tryGrant (s.unclaimed n)).1.flow.pump = .running) then
          (enterRunOn (tryGrant (s.unclaimed n)).1, (tryGrant (s.unclaimed n)).2)
        else tryGrant (s.unclaimed n)
      else (s, []) := rfl

theorem claimed_filter (n : Nat) (cs : List Claim) : claimed n (cs.filter (·.order != n)) = false := by
  simp [claimed]

theorem filter_of_not_claimed {n : Nat} {cs : List Claim} (h : claimed n cs = false) : cs.filter (·.order != n) = cs := by
  rw [List.filter_eq_self]
  simpa [claimed] using h

@[simp] theorem pumpOff_claims (s : State) :
    (pumpOff s).flow.waiting = s.flow.waiting ∧ (pumpOff s).flow.granted = s.flow.granted ∧
      (pumpOff s).flow.capacity = s.flow.capacity ∧ (pumpOff s).flow.cold = s.flow.cold := by
  unfold pumpOff; split <;> simp [State.modFlow]

@[simp] theorem enterRunOn_claims (s : State) :
    (enterRunOn s).flow.waiting = s.flow.waiting ∧ (enterRunOn s).flow.granted = s.flow.granted ∧
      (enterRunOn s).flow.capacity = s.flow.capacity ∧ (enterRunOn s).flow.cold = s.flow.cold := by
  unfold enterRunOn; dsimp only; split <;> simp [State.modFlow]

/-- R59: a withdrawal with nothing waiting makes no claim ready. -/
theorem withdrawClaim_of_waiting_nil {s : State} (h : s.flow.waiting = []) (n : Nat) :
    (withdrawClaim n s).2 = [] ∧ (withdrawClaim n s).1.flow.waiting = [] ∧
      (withdrawClaim n s).1.flow.granted = s.flow.granted.filter (·.order != n) := by
  have hgrant : tryGrant (s.unclaimed n) = (s.unclaimed n, []) := tryGrant_eq_of_waiting_nil (State.unclaimed_waiting h n)
  have hflow : (s.unclaimed n).flow.granted = s.flow.granted.filter (·.order != n) := rfl
  rw [withdrawClaim_eq, hgrant]
  split
  · dsimp only
    split <;> simp [State.unclaimed_waiting h n, hflow]
  · rename_i hno
    have hnot : claimed n s.flow.granted = false := by simp at hno; exact hno.2
    exact ⟨rfl, h, (filter_of_not_claimed hnot).symm⟩

/-- R59: so it reaches the flow alone. -/
theorem withdraw_of_waiting_nil {s : State} (h : s.flow.waiting = []) (n : Nat) : withdraw n s = (withdrawClaim n s).1 := by
  unfold withdraw reportReady
  rw [(withdrawClaim_of_waiting_nil h n).1]
  rfl

theorem withdraw_flow {s : State} (h : s.flow.waiting = []) (n : Nat) :
    (withdraw n s).flow.waiting = [] ∧ (withdraw n s).flow.granted = s.flow.granted.filter (·.order != n) := by
  rw [withdraw_of_waiting_nil h]
  exact (withdrawClaim_of_waiting_nil h n).2

/-- R59: a withdrawal with nothing waiting leaves everything but the flow as it is. -/
theorem withdraw_rest {s : State} (h : s.flow.waiting = []) (n : Nat) :
    (withdraw n s).seq = s.seq ∧ (withdraw n s).runs = s.runs ∧ (withdraw n s).beacon = s.beacon := by
  rw [withdraw_of_waiting_nil h]
  simp

/-! ### Releases -/

theorem releaseAll_chan (cs : List Channel) (d : Channel) (s : State) :
    (releaseAll cs s).chan d = if d ∈ cs then Chan.reset else s.chan d := by
  induction cs generalizing s with
  | nil => rfl
  | cons c cs ih =>
    have hcons : releaseAll (c :: cs) s = releaseAll cs (release c s) := rfl
    rw [hcons, ih, release_chan]
    by_cases hc : c = d
    · simp [hc]
    · simp [hc, Ne.symm hc]

/-- Table 0-1: the channels of a group. -/
theorem Group.mem_channels (g : Group) (c : Channel) : c ∈ g.channels ↔ channelGroup c = g := by
  fin_cases c <;> cases g <;> decide

theorem release_prove (c : Channel) (s : State) : (release c s).drive.prove = s.drive.prove := by
  unfold release startDead clearWaiting
  dsimp only
  (repeat' split) <;> simp

theorem releaseAll_prove (cs : List Channel) (s : State) : (releaseAll cs s).drive.prove = s.drive.prove := by
  induction cs generalizing s with
  | nil => rfl
  | cons c cs ih => exact (ih (release c s)).trans (release_prove c s)

/-- R117: the faults after a release. -/
theorem release_faults (c : Channel) (s : State) : (release c s).faults = s.faults.latch .coilOpen (.channel c) := by
  unfold release
  dsimp only
  split <;> simp

/-! ### Runs -/

theorem endRun_run_self (g : Group) (s : State) : (endRun g s).run? g = none := by
  unfold endRun
  split
  · assumption
  · dsimp only
    exact State.setRun_run_self ..

theorem endRun_run_ne {g h : Group} (hne : h ≠ g) (s : State) : (endRun g s).run? h = s.run? h := by
  unfold endRun
  split
  · rfl
  · dsimp only
    rw [State.setRun_run_ne _ (Ne.symm hne)]
    split <;> rfl

theorem endRun_of_none {g : Group} {s : State} (h : s.run? g = none) : endRun g s = s := by
  unfold endRun
  rw [h]

/-! ### Immediate ends (R28) -/

/-- R28: what an immediate end makes of the record. -/
def Order.settleFailed (why : Reason) (o : Order) : Order :=
  { o with outcome := some .finish, pendResult := some .failed, pendReason := some why }

section

variable {g : Group} {o : Order} {s : State} (hactive : s.active? g = some o)
  (hstate : o.state = .moving ∨ o.state = .stopping) (why : Reason)

include hactive hstate

/-- R28: the immediate end of the phase of an order in MOVING or STOPPING. -/
theorem immediateEnd_eq :
    immediateEnd g why s =
      enterSettling o (Order.settleFailed why) (endRun g (withdraw o.number (releaseAll g.channels s))) := by
  unfold immediateEnd
  rw [hactive]
  dsimp only
  rw [if_pos hstate]
  rfl

/-- R28: its channels are released. -/
theorem immediateEnd_chan (c : Channel) :
    (immediateEnd g why s).chan c = if channelGroup c = g then Chan.reset else s.chan c := by
  have hchan : (immediateEnd g why s).chan c = (releaseAll g.channels s).chan c := by
    rw [immediateEnd_eq hactive hstate]
    simp only [State.chan, enterSettling_frame, endRun_frame, withdraw_frame]
  rw [hchan, releaseAll_chan]
  simp only [Group.mem_channels]

theorem immediateEnd_prove : (immediateEnd g why s).drive.prove = s.drive.prove := by
  rw [immediateEnd_eq hactive hstate]
  simp [releaseAll_prove]

/-- R28, R91: no run is left. -/
theorem immediateEnd_run : (immediateEnd g why s).run? g = none := by
  have hrun : (immediateEnd g why s).run? g = (endRun g (withdraw o.number (releaseAll g.channels s))).run? g := by
    rw [immediateEnd_eq hactive hstate]
    simp only [State.run?, enterSettling_frame]
  rw [hrun, endRun_run_self]

variable (hwait : s.flow.waiting = [])

include hwait

/-- R28: the order settles pending FAILED. -/
theorem immediateEnd_records : s.settlesFailed (immediateEnd g why s) o why := by
  have horders : (endRun g (withdraw o.number (releaseAll g.channels s))).seq.orders = s.seq.orders := by
    have hrest := (withdraw_rest (s := releaseAll g.channels s) (by simpa using hwait) o.number).1
    simp [hrest]
  unfold State.settlesFailed
  rw [immediateEnd_eq hactive hstate]
  unfold enterSettling
  rw [setOrder_records, State.modCtl_seq_orders, horders]
  rfl

/-- R28: the order's claim is withdrawn. -/
theorem immediateEnd_flow :
    (immediateEnd g why s).flow.waiting = [] ∧
      (immediateEnd g why s).flow.granted = s.flow.granted.filter (·.order != o.number) := by
  have hflow : (immediateEnd g why s).flow = (withdraw o.number (releaseAll g.channels s)).flow := by
    rw [immediateEnd_eq hactive hstate]
    simp
  obtain ⟨hnone, hgranted⟩ := withdraw_flow (s := releaseAll g.channels s) (by simpa using hwait) o.number
  rw [hflow]
  exact ⟨hnone, by rw [hgranted]; simp⟩

end

/-! ### Reports of flags -/

/-- R165: with no active order, changed flags reach the Flow Arbiter and the Beacon Engine alone. -/
theorem reportFlags_of_noActive {s : State} (h : s.noActive) (old : Inhibits) :
    reportFlags old s = if s.faults.flags = old then s else reportCleared old s := by
  simp only [reportFlags, Group.all, List.foldl_cons, List.foldl_nil, meetInhibit_of_active_none (h _)]

/-- R165: so they leave the table and the plant as they are. -/
theorem reportFlags_plant_of_noActive {s : State} (h : s.noActive) (old : Inhibits) :
    (reportFlags old s).faults = s.faults ∧ (reportFlags old s).link = s.link ∧
      (reportFlags old s).trackers = s.trackers ∧ (reportFlags old s).drive = s.drive := by
  rw [reportFlags_of_noActive h]
  split <;> simp

/-- R165: a WARN entry sets no flag, though it may find a full table and clear some. -/
theorem FaultTable.raise_within_of_warn {t : FaultTable} {code : FaultCode} (x : Subject) (now : U32) (hsound : t.sound)
    (hwarn : code.isStop = false) : (t.raise code x now).flags.within t.flags := by
  have hnew : (Entry.fresh code x now).inhibit = Inhibits.none := by simp [Entry.inhibit, Entry.fresh, hwarn]
  have happend (l : List Entry) (p : Inhibits) : flagsOf (l ++ [Entry.fresh code x now]) p = flagsOf l p := by
    rw [flagsOf_append]
    simp [flagsOf, hnew, Inhibits.union, Inhibits.none]
  obtain ⟨-, -, hflags⟩ := hsound
  unfold FaultTable.raise
  split
  · exact Inhibits.within_refl _
  · split
    · rw [hflags]
      unfold FaultTable.recompute
      dsimp only
      rw [happend]
      exact Inhibits.within_refl _
    · split
      · rw [hflags]
        unfold FaultTable.recompute
        dsimp only
        rw [happend]
        exact flagsOf_within (List.eraseIdx_subset) (Inhibits.within_refl _)
      · have hnone : inhibitOf code x = Inhibits.none := by
          cases code <;> simp_all [FaultCode.isStop, inhibitOf]
        rw [hflags]
        unfold FaultTable.recompute
        dsimp only
        rw [hnone]
        refine flagsOf_within (List.Subset.refl _) ?_
        simp [Inhibits.within, Inhibits.union, Inhibits.none]

end Sys2Proof.Machine
end
section
/-! The Axis Trackers (Chapter 4): O46 to O49. -/

namespace Sys2Proof.Machine

/-! ### Counting -/

/-- R72: a pulse moves the scaled position by N × DEN + NUM. -/
theorem pulseStep_scaled {r : AxisRec} {rem : Nat} (hnum : r.num < r.den) (forward : Bool) (pos : Int) :
    (pulseStep r forward pos rem).1 * r.den + (pulseStep r forward pos rem).2 =
      pos * r.den + rem + (if forward then 1 else -1) * (r.n * r.den + r.num) := by
  unfold pulseStep
  cases forward
  · by_cases h : rem < r.num
    · simp only [h, Bool.false_eq_true, if_false, if_true]
      have : ((rem + r.den - r.num : Nat) : Int) = rem + r.den - r.num := by omega
      rw [this]; ring
    · simp only [h, Bool.false_eq_true, if_false]
      have : ((rem - r.num : Nat) : Int) = rem - r.num := by omega
      rw [this]; ring
  · by_cases h : r.den ≤ rem + r.num
    · simp only [h, if_true]
      have : ((rem + r.num - r.den : Nat) : Int) = rem + r.num - r.den := by omega
      rw [this]; ring
    · simp only [h, if_false, if_true]
      push_cast; ring

/-- R72: so the position is the scaled one over DEN, rounded down. -/
theorem pulseStep_pos {r : AxisRec} {rem : Nat} (hnum : r.num < r.den) (hrem : rem < r.den) (forward : Bool) (pos : Int) :
    (pulseStep r forward pos rem).1 =
      (pos * r.den + rem + (if forward then 1 else -1) * (r.n * r.den + r.num)) / r.den := by
  have hlt := pulseStep_rem_lt hnum hrem forward pos
  rw [← pulseStep_scaled hnum]
  symm
  rw [Int.add_comm, Int.add_mul_ediv_right _ _ (by omega), Int.ediv_eq_zero_of_lt (by omega) (by omega)]
  omega

theorem representable_iff (x : Int) : representable x = true ↔ -2147483648 ≤ x ∧ x ≤ 2147483647 := by
  simp [representable]

/-- R79: a limit pass leaves the trackers as they are. -/
theorem limited_trackers (r : AxisRec) (a : Axis) (forward : Bool) (x : Tracker) (s : State) :
    (if outwardPass r x forward then limitPass a s else s).trackers = s.trackers := by
  split <;> simp

/-- R163: the report of a WARN entry that goes LATCHED in the same event leaves the plant as it is. -/
theorem raiseFaultOnce_plant_of_warn {code : FaultCode} (x : Subject) {s : State} (hsound : s.faults.sound)
    (hwarn : code.isStop = false) :
    (raiseFaultOnce code x s).trackers = s.trackers ∧ (raiseFaultOnce code x s).drive = s.drive := by
  have hwithin : (raiseOnce code x s).faults.flags.within s.faults.flags := by
    rw [raiseOnce_faults, FaultTable.latch_flags]
    exact FaultTable.raise_within_of_warn x _ hsound hwarn
  obtain ⟨-, -, htrackers, hdrive⟩ := reportFlags_plant_of_within hwithin
  exact ⟨by rw [raiseFaultOnce, htrackers]; simp, by rw [raiseFaultOnce, hdrive]; simp⟩

/-- R81: an examination of drift moves at most the parked position. -/
theorem judgeDrift_tracker (r : AxisRec) (a b : Axis) {s : State} (hsound : s.faults.sound) :
    ∃ p, (judgeDrift r a s).tracker b = if b = a then { s.tracker a with parked := p } else s.tracker b := by
  unfold judgeDrift
  dsimp only
  split
  · refine ⟨(s.tracker a).parked, ?_⟩
    split
    · rename_i hb; rw [hb]
    · rfl
  · split
    · refine ⟨some (s.tracker a).pos, ?_⟩
      have htrackers (u : State) (hu : u.faults = s.faults) :
          (raiseFaultOnce .drift (.axis a) u).tracker b = u.tracker b := by
        simp only [State.tracker, (raiseFaultOnce_plant_of_warn (code := .drift) (.axis a) (hu ▸ hsound) rfl).1]
      refine (htrackers (s.modTracker a fun t => { t with parked := some t.pos }) rfl).trans ?_
      by_cases hb : b = a
      · rw [hb, if_pos rfl, State.modTracker_tracker_self]
      · rw [if_neg hb, State.modTracker_tracker_ne _ (Ne.symm hb)]
    · refine ⟨(s.tracker a).parked, ?_⟩
      split
      · rename_i hb; rw [hb]
      · rfl

theorem limited_sound (r : AxisRec) (a : Axis) (forward : Bool) (x : Tracker) {s : State} (h : s.faults.sound) :
    (if outwardPass r x forward then limitPass a s else s).faults.sound := by
  split
  · exact limitPass_sound a h
  · exact h

/-- R72: the state in which a pulse has been counted. -/
def State.pulsed (s : State) (a : Axis) (r : AxisRec) (forward : Bool) : State :=
  s.modTracker a fun _ => (s.tracker a).counted r forward

theorem countPulse_pulsed (r : AxisRec) (a : Axis) (forward : Bool) (s : State) :
    countPulse r a forward s =
      if representable ((s.tracker a).counted r forward).pos then
        judgeDrift r a
          (if outwardPass r ((s.tracker a).counted r forward) forward then limitPass a (s.pulsed a r forward)
          else s.pulsed a r forward)
      else unreference a s := rfl

/-- R72, R79, R81: the trackers after a pulse that is counted. -/
theorem countPulse_tracker {r : AxisRec} {a : Axis} {forward : Bool} {s : State} (hsound : s.faults.sound)
    (hrange : representable ((s.tracker a).counted r forward).pos = true) (b : Axis) :
    ∃ p, (countPulse r a forward s).tracker b =
      if b = a then { (s.tracker a).counted r forward with parked := p } else s.tracker b := by
  rw [countPulse_pulsed, if_pos hrange]
  have hlimited (c : Axis) :
      (if outwardPass r ((s.tracker a).counted r forward) forward then
limitPass a (s.pulsed a r forward)
        else s.pulsed a r forward).tracker c = (s.pulsed a r forward).tracker c :=
    congrArg (fun v : Vector Tracker 5 => v[c.idx]) (limited_trackers r a forward ((s.tracker a).counted r forward) _)
  obtain ⟨p, hp⟩ := judgeDrift_tracker r a b
    (limited_sound r a forward ((s.tracker a).counted r forward)
      (s := s.pulsed a r forward) (by simpa [State.pulsed] using hsound))
  rw [hlimited a, hlimited b, State.pulsed, State.modTracker_tracker_self] at hp
  refine ⟨p, hp.trans ?_⟩
  by_cases hb : b = a
  · rw [if_pos hb, if_pos hb]
  · rw [if_neg hb, if_neg hb, State.modTracker_tracker_ne _ (Ne.symm hb)]

theorem pulse_eq {a : Axis} {r : AxisRec} {s : State} (hr : s.axisRec? a = some r) (forward : Bool) :
    pulse a forward s = countPulse r a forward s := by
  unfold pulse
  rw [hr]

/-- Settles O46. -/
theorem pulsesCountExactly : Obligations.PulsesCountExactly := by
  intro a forward r s hmode hr hnum hrem hsound d scaled pos'
  have hpos : ((s.tracker a).counted r forward).pos = pos' := pulseStep_pos hnum hrem forward _
  by_cases hrange : representable pos' = true
  · obtain ⟨t, he, ht⟩ := awakeEvent_effect (pulse a forward) hmode
    rw [pulse_eq hr] at ht
    have htracker := countPulse_tracker (forward := forward) hsound (hpos ▸ hrange)
    obtain ⟨hlo, hhi⟩ := (representable_iff _).1 hrange
    refine ⟨t, he, fun b hb => ?_, by rw [ht.fitment]; simp, fun _ _ => ?_, fun hout => by omega⟩
    · obtain ⟨p, hp⟩ := htracker b
      rw [ht.tracker, hp, if_neg hb]
    · obtain ⟨p, hp⟩ := htracker a
      rw [if_pos rfl, ← ht.tracker] at hp
      rw [hp]
      exact ⟨hpos, pulseStep_rem_lt hnum hrem _ _, pulseStep_scaled hnum _ _, rfl, rfl, rfl, rfl⟩
  · obtain ⟨t, he, hq⟩ := awakeEvent_next (pulse a forward) hmode
    have hout : pulse a forward s = unreference a s := by
      rw [pulse_eq hr, countPulse_pulsed, hpos, if_neg hrange]
    rw [hout] at hq
    have hfit := (State.matches_of_quiet hq).fitment
    refine ⟨t, he, fun b hb => ?_, by rw [hfit]; simp, fun hlo hhi => absurd ((representable_iff _).2 ⟨hlo, hhi⟩) hrange,
      fun _ => hq⟩
    rw [(State.matches_of_quiet hq).tracker]
    exact State.modTracker_tracker_ne _ (Ne.symm hb) _

/-! ### Soft limits and drift -/

/-- R72: a pulse moves the position by N or N + 1. -/
theorem pulseStep_bounds (r : AxisRec) (pos : Int) (rem : Nat) :
    (pos + r.n ≤ (pulseStep r true pos rem).1 ∧ (pulseStep r true pos rem).1 ≤ pos + r.n + 1) ∧
      (pos - r.n - 1 ≤ (pulseStep r false pos rem).1 ∧ (pulseStep r false pos rem).1 ≤ pos - r.n) := by
  unfold pulseStep
  simp only [if_true, Bool.false_eq_true, if_false]
  constructor
  · split <;> dsimp only <;> omega
  · split <;> dsimp only <;> omega

/-- R81: an axis that is not parked is not examined for drift. -/
theorem judgeDrift_of_not_parked {a : Axis} {s : State} (h : (s.tracker a).parked = none) (r : AxisRec) :
    judgeDrift r a s = s := by
  unfold judgeDrift
  dsimp only
  rw [h]

section Limit

variable {a : Axis} {r : AxisRec} {o : Order} {s : State} {forward : Bool}

/-- R79: a limit pass ends the movement phase at once. -/
theorem limitPass_eq (hactive : s.active? a.group = some o) (hmovement : o.inMovement = true) :
    limitPass a s = immediateEnd a.group .limit s := by
  unfold limitPass
  rw [hactive]
  exact if_pos hmovement

/-- R79: an outward pulse of an axis that is not parked. -/
theorem countPulse_outward (hparked : (s.tracker a).parked = none)
    (hrange : representable ((s.tracker a).counted r forward).pos = true)
    (hout : outwardPass r ((s.tracker a).counted r forward) forward = true) :
    countPulse r a forward s = limitPass a (s.pulsed a r forward) := by
  rw [countPulse_pulsed, if_pos hrange, if_pos hout]
  refine judgeDrift_of_not_parked ?_ r
  have htrackers : (limitPass a (s.pulsed a r forward)).tracker a =
      (s.pulsed a r forward).tracker a := by
    simp only [State.tracker, limitPass_frame]
  rw [htrackers, State.pulsed, State.modTracker_tracker_self]
  exact hparked

/-- R79: what an outward pulse leaves. -/
theorem exec_outward_pulse (hrun : s.supply.mode = .run) (hr : s.axisRec? a = some r)
    (hparked : (s.tracker a).parked = none) (hactive : s.active? a.group = some o)
    (hstate : o.state = .moving ∨ o.state = .stopping) (hmovement : o.inMovement = true) (hwait : s.flow.waiting = [])
    (hrange : representable ((s.tracker a).counted r forward).pos = true)
    (hout : outwardPass r ((s.tracker a).counted r forward) forward = true) :
    ∃ t, exec (.pulseCounted a forward) s = .next t ∧ s.settlesFailed t o .limit ∧
      (∀ c, channelGroup c = a.group → t.chan c = Chan.reset) ∧ (∀ c, channelGroup c ≠ a.group → t.chan c = s.chan c) ∧
      t.run? a.group = none ∧ claimed o.number t.flow.granted = false := by
  obtain ⟨t, he, ht⟩ := awakeEvent_effect (pulse a forward) (s := s) (by simp [hrun])
  rw [pulse_eq hr, countPulse_outward hparked hrange hout, limitPass_eq (s := s.pulsed a r forward) hactive hmovement] at ht
  have hact : (s.pulsed a r forward).active? a.group = some o := hactive
  refine ⟨t, he, ?_, fun c hc => ?_, fun c hc => ?_, ?_, ?_⟩
  · exact ht.records.trans (immediateEnd_records (s := s.pulsed a r forward) hact hstate .limit hwait)
  · rw [ht.chan, immediateEnd_chan hact hstate, if_pos hc]
  · rw [ht.chan, immediateEnd_chan hact hstate, if_neg hc]; rfl
  · rw [ht.run, immediateEnd_run hact hstate]
  · rw [ht.flow, (immediateEnd_flow hact hstate .limit hwait).2, claimed_filter]

end Limit

/-- Settles O47. -/
theorem outwardPulsesAndDriftAreFound : Obligations.OutwardPulsesAndDriftAreFound := by
  refine ⟨fun a r o s hrun hr hnum hrem href hparked hactive hstate hmovement hwait => ⟨fun hup hlo hhi => ?_,
    fun hdown hlo hhi => ⟨fun hhome => ?_, fun hhome => ?_⟩⟩, fun a forward r p s hmode hr hnum hrem hparked hidle hsound hroom => ?_⟩
  · obtain ⟨⟨hge, hle⟩, -⟩ := pulseStep_bounds r (s.tracker a).pos (s.tracker a).rem
    refine exec_outward_pulse hrun hr hparked hactive hstate hmovement hwait ?_ ?_
    · rw [representable_iff]; simp only [Tracker.counted]; omega
    · simp only [outwardPass, Tracker.counted, href, if_true, Bool.true_and, decide_eq_true_eq]; omega
  · obtain ⟨-, hge, hle⟩ := pulseStep_bounds r (s.tracker a).pos (s.tracker a).rem
    refine exec_outward_pulse hrun hr hparked hactive hstate hmovement hwait ?_ ?_
    · rw [representable_iff]; simp only [Tracker.counted]; omega
    · simp [outwardPass, Tracker.counted, href, hhome]; omega
  · obtain ⟨-, hge, hle⟩ := pulseStep_bounds r (s.tracker a).pos (s.tracker a).rem
    obtain ⟨t, he, ht⟩ := awakeEvent_effect (pulse a false) (s := s) (by simp [hrun])
    have hcount : countPulse r a false s = s.pulsed a r false := by
      rw [countPulse_pulsed, if_pos (by rw [representable_iff]; simp only [Tracker.counted]; omega),
        if_neg (by simp [outwardPass, Tracker.counted, hhome])]
      exact judgeDrift_of_not_parked (by rw [State.pulsed, State.modTracker_tracker_self]; exact hparked) r
    rw [pulse_eq hr, hcount] at ht
    refine ⟨t, he, ?_, ht.records, ht.runs, ht.drive, ht.flow, ht.faults⟩
    rw [ht.tracker, State.pulsed, State.modTracker_tracker_self]
    simp only [Tracker.counted]
    omega
  · intro pos' hhi hlo hdrift
    obtain ⟨t, he, ht⟩ := awakeEvent_effect (pulse a forward) hmode
    have hcount : countPulse r a forward s =
        raiseOnce .drift (.axis a) ((s.pulsed a r forward).modTracker a
          fun x => { x with parked := some x.pos }) := by
      have hpass : limitPass a (s.pulsed a r forward) = s.pulsed a r forward := by
        unfold limitPass
        rw [show (s.pulsed a r forward).active? a.group = none from hidle _]
      rw [countPulse_pulsed, if_pos (by rw [representable_iff]; exact ⟨hlo, hhi⟩), hpass, ite_self]
      unfold judgeDrift
      dsimp only
      have hparked' : ((s.tracker a).counted r forward).parked = some p := hparked
      rw [State.pulsed, State.modTracker_tracker_self, hparked']
      dsimp only
      refine (if_pos hdrift).trans ?_
      exact raiseFaultOnce_of_warn (by simpa using hsound) (by simpa using hroom) rfl
    rw [pulse_eq hr, hcount] at ht
    have htracker : t.tracker a = { (s.tracker a).counted r forward with parked := some pos' } := by
      rw [ht.tracker]
      simp only [State.tracker, raiseOnce_frame]
      exact (State.modTracker_tracker_self ..).trans (by rw [State.pulsed, State.modTracker_tracker_self]; rfl)
    have hfaults : t.faults = (s.faults.raise .drift (.axis a) s.supply.time).latch .drift (.axis a) := by
      rw [ht.faults]; simp [State.pulsed]
    refine ⟨t, he, by rw [htracker]; rfl, by rw [htracker], ?_, ?_, by rw [ht.records]; simp [State.records, State.pulsed],
      by rw [ht.drive]; simp [State.pulsed]⟩
    · rw [hfaults]; exact FaultTable.raiseOnce_latched _ _ _ hroom
    · rw [hfaults, FaultTable.latch_flags, FaultTable.raise_flags_of_warn _ hsound hroom rfl]

/-! ### Windows -/

/-- R151: a report of a scene condition. -/
theorem reportScene_active (i : Fin 8) (v : Bool) (s : State) :
    (reportScene i v s).beacon.active = s.beacon.active.set i v := by
  unfold reportScene
  split
  · rename_i hsame
    apply Vector.ext
    intro j hj
    rw [Vector.getElem_set]
    split
    · rename_i hij; subst hij; exact hsame
    · rfl
  · unfold rederiveAll
    split <;> simp [LampPair.all]

/-- Settles O48. -/
theorem windowEndPresentsTheAxis : Obligations.WindowEndPresentsTheAxis := by
  intro a r s hmode hr n inside
  obtain ⟨t, he, ht⟩ := awakeEvent_effect (windowOver a) hmode
  have heffect : windowOver a s = windowEnd r a s := by unfold windowOver; rw [hr]
  rw [heffect] at ht
  have hinside : insideWindow r a (s.tracker a) = inside := by cases a <;> rfl
  have hspeed : windowSpeed r n = Int.tdiv (n * (r.n * r.den + r.num) * 20) r.den := by
    simp only [windowSpeed]; push_cast; rfl
  have htrackers : t.trackers = s.trackers.set a.idx
      { s.tracker a with
        speed := Int.tdiv (n * (r.n * r.den + r.num) * 20) r.den
        sense := if n < 0 then .towardHome else if n = 0 then .stationary else .away
        inside := inside, net := 0, windowLeft := 50 } := by
    rw [ht.trackers, ← hinside, ← hspeed]
    simp [windowEnd, State.modTracker, senseOf, n, Config.trackerWindow]
  refine ⟨t, he, htrackers, ?_, by rw [ht.records]; simp [windowEnd, State.records], by rw [ht.faults]; simp [windowEnd],
    by rw [ht.drive]; simp [windowEnd], by rw [ht.flow]; simp [windowEnd], by rw [ht.operator]; simp [windowEnd]⟩
  have htracker (b : Axis) (u : State) (hu : u.trackers = (windowEnd r a s).trackers) : u.tracker b = t.tracker b := by
    simp only [State.tracker, hu, ht.trackers]
  rw [ht.beacon]
  simp only [windowEnd, reportWindows, reportScene_active, State.modTracker_beacon]
  rw [htracker .tl _ (by simp [windowEnd]), htracker .sk _ (by simp [windowEnd]), htracker .sr _ (by simp [windowEnd])]
  rfl

/-! ### The home switch -/

theorem homeExpiry_eq {a : Axis} {s : State} (h : (s.tracker a).homeTimer ≠ none) : homeExpiry a s = takeHome a s := by
  unfold homeExpiry
  exact if_pos (Option.isSome_iff_ne_none.2 h)

/-- R75: the state in which an activation of the home switch has been taken. -/
def State.homeTaken (s : State) (a : Axis) : State :=
  s.modTracker a fun t => { t with homeTimer := none, home := t.rawHome }

/-- R76: an activation that is not AWAY snaps the axis. -/
theorem takeHome_snap {a : Axis} {s : State} (hraw : (s.tracker a).rawHome = true) (hhome : (s.tracker a).home = false)
    (hsense : (s.tracker a).sense ≠ .away) : takeHome a s = snap a (s.homeTaken a) := by
  unfold takeHome
  exact if_pos ⟨hraw, by simp [hhome], hsense⟩

/-- R77: the position that a snap gives. -/
def Tracker.snapped (r : AxisRec) (idle : Bool) (t : Tracker) : Tracker :=
  { t with pos := r.home, rem := 0, referenced := true, parked := if idle then some r.home else t.parked }

/-- R76, R77: a snap, after its check. -/
theorem snap_eq {a : Axis} {r : AxisRec} {s : State} (hr : s.axisRec? a = some r) :
    snap a s =
      (if (s.tracker a).referenced ∧ (r.homeWindow : Int) < |(s.tracker a).pos - r.home| then
          raiseFaultOnce .referenceMismatch (.axis a) s
        else s).modTracker a
        (Tracker.snapped r
          ((if (s.tracker a).referenced ∧ (r.homeWindow : Int) < |(s.tracker a).pos - r.home| then
              raiseFaultOnce .referenceMismatch (.axis a) s
            else s).groupIdle a.group)) := by
  unfold snap
  rw [hr]
  rfl

/-- Settles O49. -/
theorem homeSwitchReferencesTheAxis : Obligations.HomeSwitchReferencesTheAxis := by
  intro a s
  refine ⟨fun level hmode hraw => ?_, fun r hmode htimer hraw hhome hsense hr hnear => ?_, fun hmode htimer hno => ?_,
    fun r hmode htimer hraw hhome hsense hr href hfar hidle hsound hroom => ?_⟩
  · obtain ⟨t, he, hq⟩ := event_next (homeRaw a level) s
    refine ⟨t, he, hq.trans ?_⟩
    unfold homeRaw
    rw [if_neg hraw]
    simp only [if_neg hmode]
    rfl
  · obtain ⟨t, he, hq⟩ := awakeEvent_next (homeExpiry a) hmode
    refine ⟨t, he, hq.trans ?_⟩
    have htaken : (s.homeTaken a).tracker a = { s.tracker a with homeTimer := none, home := (s.tracker a).rawHome } :=
      State.modTracker_tracker_self ..
    rw [homeExpiry_eq htimer, takeHome_snap hraw hhome hsense, snap_eq (r := r) (s := s.homeTaken a) hr,
      if_neg (by rw [htaken]; rintro ⟨href, hfar⟩; exact absurd (hnear href) (not_le.2 hfar))]
    unfold State.modTracker
    rw [htaken]
    simp only [State.homeTaken, State.modTracker, Vector.set_set, hraw]
    rfl
  · obtain ⟨t, he, hq⟩ := awakeEvent_next (homeExpiry a) hmode
    refine ⟨t, he, hq.trans ?_⟩
    rw [homeExpiry_eq htimer]
    unfold takeHome
    rw [if_neg]
    · rfl
    · rintro ⟨hraw, hhome, hsense⟩
      simp_all
  · obtain ⟨t, he, ht⟩ := awakeEvent_effect (homeExpiry a) hmode
    have htaken : (s.homeTaken a).tracker a = { s.tracker a with homeTimer := none, home := (s.tracker a).rawHome } :=
      State.modTracker_tracker_self ..
    rw [homeExpiry_eq htimer, takeHome_snap hraw hhome hsense, snap_eq (r := r) (s := s.homeTaken a) hr,
      if_pos (by rw [htaken]; exact ⟨href, hfar⟩)] at ht
    have hidle' : (raiseOnce .referenceMismatch (.axis a) (s.homeTaken a)).noActive := fun g => by
      rw [State.active_congr (s := s) (by simp [State.homeTaken])]; exact hidle g
    obtain ⟨hfaults, -, -, -⟩ := reportFlags_plant_of_noActive hidle' (s.homeTaken a).faults.flags
    have hroom' : (s.homeTaken a).faults.entries.length < 16 := by simpa [State.homeTaken] using hroom
    have htable : t.faults =
        ((s.homeTaken a).faults.raise .referenceMismatch (.axis a) s.supply.time).latch .referenceMismatch (.axis a) := by
      rw [ht.faults, State.modTracker_faults]
      exact hfaults.trans (by simp [State.homeTaken])
    refine ⟨t, he, by rw [ht.tracker, State.modTracker_tracker_self]; rfl,
      by rw [ht.tracker, State.modTracker_tracker_self]; rfl, ?_, ?_⟩
    · rw [htable]; exact FaultTable.raiseOnce_latched _ _ _ hroom'
    · rw [htable, FaultTable.latch_flags]
      exact FaultTable.raise_sets _ (by simpa [State.homeTaken] using hsound) hroom' rfl (by cases a <;> rfl)

end Sys2Proof.Machine
end

section
/-! The power pack (Chapter 3): the status timer, the tries of granting and the pump's timers (O43, O44, O45). -/

namespace Sys2Proof.Machine

/-! ### Records met at the end of an event -/

namespace State.Matches

variable {t u : State}

/-- The record that carries a number is the one of u, but for its noticed field. -/
theorem order (h : t.Matches u) {n : Nat} {o : Order} (ho : u.order? n = some o) :
    ∃ y, t.order? n = some y ∧ y.unmarked = o.unmarked := by
  have hfind (s : State) : (s.order? n).map Order.unmarked = s.records.find? (·.number == n) := by
    simp only [State.records, List.find?_map]; rfl
  have hsame : (t.order? n).map Order.unmarked = some o.unmarked := by
    rw [hfind, h.records, ← hfind, ho]; rfl
  obtain ⟨y, hy, he⟩ := Option.map_eq_some_iff.1 hsame
  exact ⟨y, hy, he⟩

/-- So is a group's active order. -/
theorem active (h : t.Matches u) {g : Group} {o : Order} (ho : u.active? g = some o) :
    ∃ y, t.active? g = some y ∧ y.unmarked = o.unmarked := by
  have hfind (s : State) :
      (s.active? g).map Order.unmarked = s.records.find? fun o => decide (o.group = g) && o.state.isActive := by
    simp only [State.records, List.find?_map]; rfl
  have hsame : (t.active? g).map Order.unmarked = some o.unmarked := by
    rw [hfind, h.records, ← hfind, ho]; rfl
  obtain ⟨y, hy, he⟩ := Option.map_eq_some_iff.1 hsame
  exact ⟨y, hy, he⟩

theorem active_none (h : t.Matches u) {g : Group} (ho : u.active? g = none) : t.active? g = none := by
  have hfind (s : State) :
      (s.active? g).map Order.unmarked = s.records.find? fun o => decide (o.group = g) && o.state.isActive := by
    simp only [State.records, List.find?_map]; rfl
  have hsame : (t.active? g).map Order.unmarked = none := by
    rw [hfind, h.records, ← hfind, ho]; rfl
  exact Option.map_eq_none_iff.1 hsame

/-- Every record of u stands in t, but for its noticed field. -/
theorem mem_records (h : t.Matches u) {o : Order} (ho : o ∈ u.seq.orders) : o.unmarked ∈ t.records := by
  rw [h.records]
  exact List.mem_map_of_mem ho

end State.Matches

/-! ### The status timer -/

/-- R39: the vehicle status goes STALE. -/
def State.wentStale (s : State) : State := { s with vehicle := { s.vehicle with fresh := false, timer := none } }

/-- R39, R54: what the status timer's expiry leaves when nothing waits. -/
theorem statusExpiry_eq {s : State} (htimer : s.vehicle.timer ≠ none) (hsound : s.faults.sound)
    (hroom : s.faults.entries.length < 16) (hwait : s.flow.waiting = []) :
    statusExpiry s = recomputeCapacity (raise .statusStale .none s.wentStale) := by
  have hraise : raiseFault .statusStale .none s.wentStale = raise .statusStale .none s.wentStale :=
    raiseFault_of_warn hsound hroom rfl
  have hexpiry : statusExpiry s = capacityEvent (raiseFault .statusStale .none s.wentStale) :=
    if_pos (Option.isSome_iff_ne_none.2 htimer)
  rw [hexpiry, hraise]
  exact capacityEvent_of_waiting_nil (by simpa [State.wentStale] using hwait)

/-- Settles O43. -/
theorem statusExpiryMakesTheRecordStale : Obligations.StatusExpiryMakesTheRecordStale := by
  intro s hrun htimer hsound hroom hwait
  obtain ⟨t, he, ht⟩ := runEvent_effect statusExpiry hrun
  rw [statusExpiry_eq htimer hsound hroom hwait] at ht
  have hfaults : t.faults = s.faults.raise .statusStale .none s.supply.time := by rw [ht.faults]; simp [State.wentStale]
  refine ⟨t, he, by rw [ht.vehicle]; simp [State.wentStale], ?_, fun e hmem hcode => ?_, ?_, fun hlocked r hr => ?_,
    by rw [ht.flow]; simp [recomputeCapacity, State.modFlow, State.wentStale],
    by rw [ht.flow]; simp [recomputeCapacity, State.modFlow, State.wentStale],
    by rw [ht.records]; simp [State.records, State.wentStale], by rw [ht.drive]; simp [State.wentStale],
    by rw [ht.trackers]; simp [State.wentStale]⟩
  · rw [hfaults]; exact FaultTable.raise_active _ _ _ hroom
  · rw [hfaults]; exact FaultTable.raise_others _ hroom hmem (by simp [Entry.is, hcode])
  · rw [hfaults, FaultTable.raise_flags_of_warn _ hsound hroom rfl]
  · rw [ht.flow]
    simp [recomputeCapacity, State.modFlow, State.capacityNow, State.wentStale, hlocked, hr]

/-! ### Granting -/

theorem grantedTotal_append (cs : List Claim) (c : Claim) :
    grantedTotal (cs ++ [c]) = grantedTotal cs + c.amount.getD 0 := by
  simp [grantedTotal]

theorem grantedTotal_ready (cs : List Claim) :
    grantedTotal (cs.map fun c => { c with ready := true }) = grantedTotal cs := by
  simp [grantedTotal, Function.comp_def]

/-- R56: a grant keeps the total within the capacity. -/
theorem grantOf_within {k t d : Nat} {x : Nat × Nat} (h : grantOf k t d = some x) : t + x.1 ≤ k := by
  unfold grantOf at h
  split at h
  · cases h; omega
  · split at h
    · cases h; omega
    · exact absurd h (by simp)

/-- R56: what granting makes of the two lists: the claims made are taken from the waiting list's front, in its order, and
never lift the total above the capacity. -/
theorem grantFrom_made (k : Nat) (waiting : List Claim) : ∀ granted : List Claim,
    (grantFrom k granted waiting).1 = granted ++ (grantFrom k granted waiting).2.2 ∧
      waiting.map (·.order) =
        ((grantFrom k granted waiting).2.2 ++ (grantFrom k granted waiting).2.1).map (·.order) ∧
      ((grantFrom k granted waiting).2.2 ≠ [] → grantedTotal (grantFrom k granted waiting).1 ≤ k) := by
  induction waiting with
  | nil => simp [grantFrom]
  | cons c rest ih =>
    intro granted
    unfold grantFrom
    split
    · simp
    · rename_i amount share hgrant
      obtain ⟨hlist, horders, htotal⟩ := ih (granted ++ [{ c with amount := some amount, share := some share }])
      refine ⟨by simpa using hlist, by simpa using horders, fun _ => ?_⟩
      by_cases hmade : (grantFrom k (granted ++ [{ c with amount := some amount, share := some share }]) rest).2.2 = []
      · dsimp only
        rw [hlist, hmade, List.append_nil, grantedTotal_append]
        exact grantOf_within hgrant
      · exact htotal hmade

/-- R58: what a grant makes of the granted claims: at most they become ready. -/
theorem afterGrant_granted (startTime : Nat) (fl : Flow) :
    (fl.afterGrant startTime).granted =
        (if fl.pump = .running ∨ fl.pump = .runOn then fl.granted.map fun c => { c with ready := true } else fl.granted) ∧
      (fl.afterGrant startTime).waiting = fl.waiting ∧ (fl.afterGrant startTime).capacity = fl.capacity := by
  unfold Flow.afterGrant
  split <;> simp_all

/-- R56: the flow before the pump is served. -/
def State.grantedFlow (s : State) : Flow :=
  { s.flow with
    granted := (grantFrom s.flow.capacity s.flow.granted s.flow.waiting).1
    waiting := (grantFrom s.flow.capacity s.flow.granted s.flow.waiting).2.1 }

/-- R56: a try of granting while PUMPED is not inhibited. -/
theorem tryGrant_eq {s : State} (hpumped : s.faults.flags.pumped = false) :
    tryGrant s =
      if (grantFrom s.flow.capacity s.flow.granted s.flow.waiting).2.2.isEmpty then ({ s with flow := s.grantedFlow }, [])
      else
        ({ s with flow := s.grantedFlow.afterGrant (s.flowField (·.start)) },
          if (s.grantedFlow.afterGrant (s.flowField (·.start))).pump = .running then
            claimShares (grantFrom s.flow.capacity s.flow.granted s.flow.waiting).2.2
          else []) := by
  unfold tryGrant
  rw [if_neg (by simp [hpumped])]
  rfl

theorem tryGrant_of_pumped {s : State} (hpumped : s.faults.flags.pumped = true) : tryGrant s = (s, []) := if_pos hpumped

/-- R56: a head that is granted nothing leaves the lists as they are. -/
theorem grantFrom_of_none {k : Nat} {granted rest : List Claim} {c : Claim}
    (h : grantOf k (grantedTotal granted) c.demand = none) : grantFrom k granted (c :: rest) = (granted, c :: rest, []) := by
  unfold grantFrom
  rw [h]

theorem grantFrom_of_some {k : Nat} {granted rest : List Claim} {c : Claim} {amount share : Nat}
    (h : grantOf k (grantedTotal granted) c.demand = some (amount, share)) :
    grantFrom k granted (c :: rest) =
      ((grantFrom k (granted ++ [{ c with amount := some amount, share := some share }]) rest).1,
       (grantFrom k (granted ++ [{ c with amount := some amount, share := some share }]) rest).2.1,
       { c with amount := some amount, share := some share } ::
         (grantFrom k (granted ++ [{ c with amount := some amount, share := some share }]) rest).2.2) := by
  conv_lhs => unfold grantFrom
  rw [h]

/-- R56: no claim is granted beside one that takes the whole capacity. -/
theorem grantFrom_of_full {k : Nat} {granted rest : List Claim} (hfull : grantedTotal granted = k) (hk : 0 < k)
    (hdemand : ∀ x ∈ rest, 0 < x.demand) : grantFrom k granted rest = (granted, rest, []) := by
  cases rest with
  | nil => rfl
  | cons c rest =>
    have hpos := hdemand c (by simp)
    refine grantFrom_of_none ?_
    unfold grantOf
    rw [if_neg (by omega), if_neg (by omega)]

/-- R56, R58, R60, R64: what the grant of a head does to the lists, the pump and the report. -/
theorem tryGrant_head {s : State} {c : Claim} {rest : List Claim} {amount share : Nat}
    (hpumped : s.faults.flags.pumped = false) (hwait : s.flow.waiting = c :: rest)
    (hgrant : grantOf s.flow.capacity (grantedTotal s.flow.granted) c.demand = some (amount, share)) :
    (∃ y, (tryGrant s).1.flow.granted[s.flow.granted.length]? = some y ∧
        y = { c with amount := some amount, share := some share,
                     ready := c.ready || decide (s.flow.pump = .running ∨ s.flow.pump = .runOn) }) ∧
      (s.flow.pump = .off →
        (tryGrant s).1.flow.pump = .starting ∧ (tryGrant s).1.flow.start = some (s.flowField (·.start)) ∧
          (tryGrant s).1.flow.stuck = none ∧ (tryGrant s).2 = []) ∧
      (s.flow.pump = .starting →
        (tryGrant s).1.flow.pump = .starting ∧ (tryGrant s).1.flow.start = s.flow.start ∧ (tryGrant s).2 = []) ∧
      (s.flow.pump = .running ∨ s.flow.pump = .runOn →
        (tryGrant s).1.flow.pump = .running ∧ (s.flow.pump = .runOn → (tryGrant s).1.flow.runOn = none) ∧
          (tryGrant s).2.head? = some (c.order, share)) := by
  have hfrom := grantFrom_of_some (rest := rest) hgrant
  obtain ⟨hlist, -, -⟩ := grantFrom_made s.flow.capacity rest
    (s.flow.granted ++ [{ c with amount := some amount, share := some share }])
  have hhead : s.grantedFlow.granted[s.flow.granted.length]? =
      some { c with amount := some amount, share := some share } := by
    simp only [State.grantedFlow, hwait, hfrom, hlist]
    simp
  have hpump : s.grantedFlow.pump = s.flow.pump := rfl
  rw [tryGrant_eq hpumped]
  simp only [hwait, hfrom, List.isEmpty_cons, Bool.false_eq_true, if_false]
  refine ⟨⟨_, ?_, rfl⟩, fun hoff => ?_, fun hstart => ?_, fun hruns => ?_⟩
  · rw [(afterGrant_granted _ _).1, hpump]
    by_cases hruns : s.flow.pump = .running ∨ s.flow.pump = .runOn
    · rw [if_pos hruns, List.getElem?_map, hhead]
      simp [hruns]
    · rw [if_neg hruns, hhead]
      simp [hruns]
  · have : s.grantedFlow.pump = .off := hoff
    simp [Flow.afterGrant, this]
  · have : s.grantedFlow.pump = .starting := hstart
    simp only [Flow.afterGrant, this]
    simp [State.grantedFlow]
  · obtain hr | hr := hruns
    · have : s.grantedFlow.pump = .running := hr
      simp [Flow.afterGrant, this, hr, claimShares]
    · have : s.grantedFlow.pump = .runOn := hr
      simp [Flow.afterGrant, this, claimShares]

/-- R56: how the head's grant goes by its demand. -/
theorem grantOf_fits {k t d : Nat} (h : d + t ≤ k) : grantOf k t d = some (d, 1000) := if_pos h

theorem grantOf_alone {k d : Nat} (h : k < d) : grantOf k 0 d = some (k, k * 1000 / d) := by
  unfold grantOf
  rw [if_neg (by omega), if_pos ⟨h, rfl⟩]

theorem grantOf_none {k t d : Nat} (h : k < d + t) (h' : ¬ (k < d ∧ t = 0)) : grantOf k t d = none := by
  unfold grantOf
  rw [if_neg (by omega), if_neg h']

/-- Settles O44: the lists by induction over the waiting list, the pump by its states. -/
theorem grantsStayWithinCapacity : Obligations.GrantsStayWithinCapacity := by
  intro s t
  refine ⟨?_, tryGrant_of_pumped, ?_⟩
  · by_cases hpumped : s.faults.flags.pumped = true
    · have ht : t = s := by simp only [t, tryGrant_of_pumped hpumped]
      rw [ht]
      exact ⟨[], by simp, by simp, by simp, by simp, rfl, rfl⟩
    · have hpumped : s.faults.flags.pumped = false := Bool.eq_false_iff.2 hpumped
      obtain ⟨hlist, horders, htotal⟩ := grantFrom_made s.flow.capacity s.flow.waiting s.flow.granted
      refine ⟨(grantFrom s.flow.capacity s.flow.granted s.flow.waiting).2.2, ?_⟩
      by_cases hmade : (grantFrom s.flow.capacity s.flow.granted s.flow.waiting).2.2 = []
      · have ht : t = { s with flow := s.grantedFlow } := by
          simp only [t, tryGrant_eq hpumped, hmade, List.isEmpty_nil, if_true]
        rw [ht]
        refine ⟨congrArg _ hlist, horders, fun h => absurd hmade h, fun _ => ?_, rfl, rfl⟩
        exact hlist.trans (by rw [hmade, List.append_nil])
      · have ht : t = { s with flow := s.grantedFlow.afterGrant (s.flowField (·.start)) } := by
          simp [t, tryGrant_eq hpumped, hmade]
        obtain ⟨hgranted, hwaiting, hcapacity⟩ := afterGrant_granted (s.flowField (·.start)) s.grantedFlow
        rw [ht]
        refine ⟨?_, ?_, fun _ => ⟨?_, hpumped⟩, fun h => absurd h hmade, hcapacity, rfl⟩
        · dsimp only
          rw [hgranted, ← hlist]
          split <;> simp [State.grantedFlow]
        · dsimp only
          rw [hwaiting]
          exact horders
        · dsimp only
          rw [hgranted]
          split
          · rw [grantedTotal_ready]; exact htotal hmade
          · exact htotal hmade
  · intro c rest hpumped hwait total capacity grants
    have hrest : t.faults = s.faults ∧ t.vehicle = s.vehicle ∧ t.drive = s.drive := by simp [t]
    obtain ⟨hfaults, hvehicle, hdrive⟩ := hrest
    refine ⟨fun hfits => ?_, fun hover hnone => ⟨?_, fun hk hdemand => ?_⟩, fun hover hnot => ?_⟩
    · obtain ⟨h1, h2⟩ := tryGrant_head hpumped hwait (grantOf_fits hfits)
      exact ⟨h1, hfaults, hvehicle, hdrive, h2⟩
    · obtain ⟨h1, h2⟩ := tryGrant_head hpumped hwait (by rw [show grantedTotal s.flow.granted = 0 from hnone]; exact grantOf_alone hover)
      exact ⟨h1, hfaults, hvehicle, hdrive, h2⟩
    · have hzero : grantedTotal s.flow.granted = 0 := hnone
      have hfrom := grantFrom_of_some (k := s.flow.capacity) (granted := s.flow.granted) (rest := rest) (c := c)
        (by rw [hzero]; exact grantOf_alone hover)
      rw [grantFrom_of_full (by rw [grantedTotal_append, hzero]; exact Nat.zero_add _) hk hdemand] at hfrom
      have hflow : t.flow = s.grantedFlow.afterGrant (s.flowField (·.start)) := by
        simp only [t, tryGrant_eq hpumped, hwait, hfrom, List.isEmpty_cons, Bool.false_eq_true, if_false]
      rw [hflow, (afterGrant_granted _ _).2.1]
      simp only [State.grantedFlow, hwait, hfrom]
    · have hfrom := grantFrom_of_none (rest := rest) (grantOf_none (k := s.flow.capacity) hover hnot)
      have ht : tryGrant s = (s, []) := by
        rw [tryGrant_eq hpumped]
        simp only [hwait, hfrom, List.isEmpty_nil, if_true, State.grantedFlow]
        rw [← hwait]
      exact ⟨by simp only [t, ht], by rw [ht]⟩

/-! ### A change of one record -/

/-- R6: what a number names after a change of one record that keeps its number. -/
theorem State.modOrder_order (s : State) (n m : Nat) {f : Order → Order} (hnumber : ∀ x, (f x).number = x.number) :
    (s.modOrder n f).order? m = (s.order? m).map fun o => if m = n then f o else o := by
  have hkeep : ((fun o : Order => o.number == m) ∘ fun o => if o.number = n then f o else o) = fun o => o.number == m := by
    funext o
    simp only [Function.comp]
    split <;> simp [hnumber]
  simp only [State.order?, State.modOrder, List.find?_map, hkeep]
  cases h : s.seq.orders.find? fun o => o.number == m with
  | none => rfl
  | some o =>
    have hm : o.number = m := by simpa using List.find?_some h
    simp [hm]

theorem setOrder_order (s : State) (n m : Nat) {f : Order → Order} (hnumber : ∀ x, (f x).number = x.number) :
    (setOrder n f s).order? m = (s.order? m).map fun o => if m = n then f o else o := by
  rw [← State.modOrder_order s n m hnumber]
  simp only [State.order?, setOrder_seq]

/-! ### Reports of readiness -/

/-- An order that its claim has made ready. -/
def Order.moves (o : Order) : Order := { o with state := .moving }

/-- R19: a report of readiness changes at most the record it names, from CLAIMING to MOVING. -/
theorem onReady_order (n share m : Nat) (s : State) :
    (onReady n share s).order? m = s.order? m ∨
      ∃ o, s.order? m = some o ∧ n = m ∧ (onReady n share s).order? m = some o.moves := by
  unfold onReady
  cases ho : s.order? n with
  | none => exact .inl rfl
  | some o =>
    dsimp only
    split
    · rw [setOrder_order _ _ _ (by exact fun _ => rfl)]
      by_cases hm : m = n
      · subst hm
        exact .inr ⟨o, ho, rfl, by rw [State.order_congr (s := s) (by simp), ho]; simp [Order.moves]⟩
      · left
        rw [State.order_congr (s := s) (by simp)]
        simp [hm]
    · exact .inl rfl

/-- R19: a ready claim moves its order from CLAIMING. -/
theorem onReady_claiming {n : Nat} (share : Nat) {o : Order} {s : State} (ho : s.order? n = some o)
    (hstate : o.state = .claiming) (hclass : o.cls? ≠ none) : (onReady n share s).order? n = some o.moves := by
  obtain ⟨c, hc⟩ := Option.ne_none_iff_exists'.1 hclass
  obtain ⟨p, hp⟩ : ∃ p, o.phase? = some p := by
    cases h : o.phase? with
    | none => simp [Order.cls?, h] at hc
    | some p => exact ⟨p, rfl⟩
  unfold onReady
  rw [ho]
  simp only [hstate, decide_true, hp, hc]
  rw [setOrder_order _ _ _ (by exact fun _ => rfl), State.order_congr (s := s) (by simp), ho]
  simp [Order.moves]

/-- R61: every granted order in CLAIMING is made ready. -/
theorem reportReady_claiming {n : Nat} {o : Order} (hstate : o.state = .claiming) (hclass : o.cls? ≠ none)
    (xs : List (Nat × Nat)) : ∀ s : State, s.order? n = some o →
      (reportReady (s, xs)).order? n = some (if n ∈ xs.map (·.1) then o.moves else o) := by
  have hmoving (ys : List (Nat × Nat)) : ∀ s : State, s.order? n = some o.moves →
      (reportReady (s, ys)).order? n = some o.moves := by
    induction ys with
    | nil => exact fun s hs => hs
    | cons y ys ih =>
      intro s hs
      refine ih (onReady y.1 y.2 s) ?_
      obtain h | ⟨o', ho', -, h⟩ := onReady_order y.1 y.2 n s
      · rw [h, hs]
      · obtain rfl : o.moves = o' := by simpa [hs] using ho'
        exact h
  induction xs with
  | nil => exact fun s hs => by simpa [reportReady] using hs
  | cons x xs ih =>
    intro s hs
    by_cases hx : x.1 = n
    · have hfirst := hmoving xs (onReady x.1 x.2 s) (by rw [hx]; exact onReady_claiming x.2 hs hstate hclass)
      simpa [reportReady, hx] using hfirst
    · have hother : (onReady x.1 x.2 s).order? n = some o := by
        obtain h | ⟨o', -, h, -⟩ := onReady_order x.1 x.2 n s
        · rw [h, hs]
        · exact absurd h hx
      have hmem : n ∈ (x :: xs).map (·.1) ↔ n ∈ xs.map (·.1) := by simp [Ne.symm hx]
      simp only [hmem]
      exact ih (onReady x.1 x.2 s) hother

/-! ### The end of the start timer -/

/-- R165: the pump's own code sets PUMPED. -/
theorem FaultTable.raise_sets_pumped {t : FaultTable} {code : FaultCode} {x : Subject} (now : U32) (hsound : t.sound)
    (hroom : t.entries.length < 16) (hstop : code.isStop = true) (hinhibit : (inhibitOf code x).pumped = true) :
    (t.raise code x now).flags.pumped = true := by
  have hfresh : (Entry.fresh code x now).inhibit.pumped = true := by
    simpa [Entry.inhibit, Entry.fresh, hstop] using hinhibit
  obtain ⟨-, -, hflags⟩ := FaultTable.raise_sound t code x now hsound
  rw [hflags, flagsOf_pumped]
  obtain ⟨e, hmem, hcode, hsubject, -⟩ := FaultTable.raise_active now code x hroom
  have : e.inhibit.pumped = true := by
    rwa [Entry.inhibit_congr (f := Entry.fresh code x now) hcode hsubject]
  simp only [Bool.or_eq_true, List.any_eq_true]
  exact .inr ⟨e, hmem, this⟩

/-- R165: flags among which PUMPED is set, reported with no active order, reach the Beacon Engine alone. -/
theorem reportFlags_rest_of_noActive {s : State} (h : s.noActive) {old : Inhibits}
    (hpumped : s.faults.flags.pumped = true ∨ old.pumped = false) :
    (reportFlags old s).faults = s.faults ∧ (reportFlags old s).flow = s.flow ∧ (reportFlags old s).seq = s.seq ∧
      (reportFlags old s).trackers = s.trackers ∧ (reportFlags old s).drive = s.drive ∧
      (reportFlags old s).runs = s.runs ∧ (reportFlags old s).link = s.link := by
  rw [reportFlags_of_noActive h]
  split
  · simp
  · unfold reportCleared
    rw [if_neg (by simpa [imp_iff_not_or, or_comm] using hpumped)]
    simp [reportFaultScene]

/-- R14, R32: in a group without an active order and without a QUEUED record nothing starts. -/
theorem advanceGroup_idle {g : Group} {s : State} (hactive : s.active? g = none) (hqueued : s.oldestQueued? g = none) :
    advanceGroup g s = becomeIdle g s := by
  unfold advanceGroup startQueued
  simp [hactive, hqueued]

/-- R91: the end of a run leaves the entries of the Fault Table but for their states. -/
@[simp] theorem endRun_faults (g : Group) (s : State) :
    (endRun g s).faults.entries.length = s.faults.entries.length ∧ (endRun g s).faults.flags = s.faults.flags := by
  unfold endRun
  split
  · simp
  · dsimp only
    split <;> simp

/-- R32: an end that is no completion removes no entry. -/
theorem markEnded_faults {res : OrderResult} (hres : res ≠ .completed) (n : Nat) (why : Option Reason) (s : State) :
    (markEnded n res why s).faults.entries.length = s.faults.entries.length ∧
      (markEnded n res why s).faults.flags = s.faults.flags := by
  unfold markEnded
  split
  · simp
  · dsimp only
    rw [if_neg hres]
    split <;> simp

/-- R29, R62: the records of the orders whose claims were granted, when a start fails. -/
def failPump (xs : List Order) (s : State) : State :=
  xs.foldl (fun s o => markEnded o.number .failed (some .pump) s) s

theorem failPump_records (xs : List Order) : ∀ s : State,
    (failPump xs s).seq.orders.map (·.number) = s.seq.orders.map (·.number) ∧
      ∀ y ∈ (failPump xs s).seq.orders,
        (y.state = .ended ∧ y.result = some .failed ∧ y.reason = some .pump) ∨
          y ∈ s.seq.orders ∧ y.number ∉ xs.map (·.number) := by
  induction xs with
  | nil => exact fun s => ⟨rfl, fun y hy => .inr ⟨hy, by simp⟩⟩
  | cons x xs ih =>
    intro s
    obtain ⟨hnumbers, hrecords⟩ := ih (markEnded x.number .failed (some .pump) s)
    obtain ⟨-, horders⟩ := markEnded_aborted (n := x.number) (res := .failed) (by decide) (some .pump) s
    refine ⟨hnumbers.trans ?_, fun y hy => ?_⟩
    · rw [horders, List.map_map]
      refine List.map_congr_left fun o _ => ?_
      simp only [Function.comp]
      split <;> rfl
    · obtain hended | ⟨hmem, hnot⟩ := hrecords y hy
      · exact .inl hended
      · rw [horders] at hmem
        obtain ⟨o, ho, rfl⟩ := List.mem_map.1 hmem
        split
        · exact .inl ⟨rfl, rfl, rfl⟩
        · rename_i hne
          rw [if_neg hne] at hnot
          exact .inr ⟨ho, by simpa [hne] using hnot⟩

theorem failPump_rest (xs : List Order) : ∀ s : State, (failPump xs s).flow = s.flow ∧
    (failPump xs s).faults.entries.length = s.faults.entries.length ∧
    (s.faults.sound → (failPump xs s).faults.sound) ∧ (failPump xs s).operator = s.operator ∧
    (failPump xs s).supply = s.supply := by
  induction xs with
  | nil => exact fun s => ⟨rfl, rfl, id, rfl, rfl⟩
  | cons x xs ih =>
    intro s
    obtain ⟨hflow, hlength, hsound, hoperator, hsupply⟩ := ih (markEnded x.number .failed (some .pump) s)
    obtain ⟨hflow', -⟩ := markEnded_aborted (n := x.number) (res := .failed) (by decide) (some .pump) s
    obtain ⟨hlength', -⟩ := markEnded_faults (res := .failed) (by decide) x.number (some .pump) s
    exact ⟨hflow.trans hflow', hlength.trans hlength', fun h => hsound (markEnded_sound _ _ _ h),
      hoperator.trans (by simp), hsupply.trans (by simp)⟩

/-- R14: with every order ENDED, the groups' going on is their becoming idle. -/
theorem advanceFold_rest (xs : List Order) : ∀ s : State, s.allEnded →
    (xs.foldl (fun s o => advanceGroup o.group s) s).flow = s.flow ∧
      (xs.foldl (fun s o => advanceGroup o.group s) s).seq = s.seq ∧
      (xs.foldl (fun s o => advanceGroup o.group s) s).faults = s.faults := by
  induction xs with
  | nil => exact fun s _ => ⟨rfl, rfl, rfl⟩
  | cons x xs ih =>
    intro s hended
    have hidle : advanceGroup x.group s = becomeIdle x.group s := by
      refine advanceGroup_idle (State.active_none_of_allEnded hended _) (List.find?_eq_none.2 fun o ho => ?_)
      simp [hended o ho]
    rw [List.foldl_cons, hidle]
    obtain ⟨h1, h2, h3⟩ := ih (becomeIdle x.group s) (by simpa [State.allEnded] using hended)
    exact ⟨h1.trans (by simp), h2.trans (by simp), h3.trans (by simp)⟩

/-- R29, R62: the orders in CLAIMING whose claims were granted. -/
def State.startingOrders (s : State) : List Order :=
  s.seq.orders.filter fun o => decide (o.state = .claiming) && claimed o.number s.flow.granted

/-- R29, R62: the state in which PUMP_NO_START is raised. -/
def State.startLost (s : State) : State :=
  pumpOff (failPump s.startingOrders (s.modFlow fun fl => { fl with granted := [] }))

theorem startFailed_eq (s : State) :
    startFailed s =
      s.startingOrders.foldl (fun s o => advanceGroup o.group s) (raiseFaultOnce .pumpNoStart .none s.startLost) := rfl

theorem State.startLost_flow {s : State} (hpump : s.flow.pump = .starting) :
    s.startLost.flow.pump = .off ∧ s.startLost.flow.granted = [] := by
  have hflow := (failPump_rest s.startingOrders (s.modFlow fun fl => { fl with granted := [] })).1
  unfold State.startLost
  refine ⟨?_, by rw [(pumpOff_claims _).2.1, hflow]; rfl⟩
  unfold pumpOff
  rw [hflow, if_neg (by simp [State.modFlow, hpump])]
  rfl

/-- R62: every order that was starting has ended FAILED PUMP. -/
theorem State.startLost_orders {s : State}
    (h : ∀ o ∈ s.seq.orders, o.state = .ended ∨ o.state = .claiming ∧ claimed o.number s.flow.granted = true) :
    s.startLost.allEnded ∧ ∀ o ∈ s.seq.orders, o.state = .claiming → ∃ y ∈ s.startLost.seq.orders, y.number = o.number ∧
      y.state = .ended ∧ y.result = some .failed ∧ y.reason = some .pump := by
  obtain ⟨hnumbers, hrecords⟩ := failPump_records s.startingOrders (s.modFlow fun fl => { fl with granted := [] })
  have hseq : s.startLost.seq = (failPump s.startingOrders (s.modFlow fun fl => { fl with granted := [] })).seq := by
    simp [State.startLost]
  have hstarting {o : Order} (ho : o ∈ s.seq.orders) (hstate : o.state = .claiming) :
      o.number ∈ s.startingOrders.map (·.number) := by
    obtain hended | ⟨-, hclaimed⟩ := h o ho
    · rw [hended] at hstate; exact absurd hstate (by decide)
    · exact List.mem_map.2 ⟨o, List.mem_filter.2 ⟨ho, by simp [hstate, hclaimed]⟩, rfl⟩
  unfold State.allEnded
  rw [hseq]
  refine ⟨fun y hy => ?_, fun o ho hstate => ?_⟩
  · obtain ⟨hended, -⟩ | ⟨hmem, hnot⟩ := hrecords y hy
    · exact hended
    · obtain hended | ⟨hclaiming, -⟩ := h y hmem
      · exact hended
      · exact absurd (hstarting hmem hclaiming) hnot
  · have hnumber : o.number ∈ (failPump s.startingOrders (s.modFlow fun fl => { fl with granted := [] })).seq.orders.map
        (·.number) := by
      rw [hnumbers]; exact List.mem_map_of_mem ho
    obtain ⟨y, hy, hn⟩ := List.mem_map.1 hnumber
    obtain hended | ⟨-, hnot⟩ := hrecords y hy
    · exact ⟨y, hy, hn, hended⟩
    · exact absurd (hn ▸ hstarting ho hstate) hnot

/-- Settles O45: each expiry by the state it finds the pump in. -/
theorem pumpTimersMoveThePump : Obligations.PumpTimersMoveThePump := by
  refine ⟨fun s hrun hpump hstart hprs hgranted => ?_, fun s hrun hpump hstart hprs hgranted hrunOn => ?_,
    fun s hrun hpump hstart hprs hsound hroom hnodup horders => ?_, fun s hrun hpump hrunOn => ?_,
    fun s hrun hpump hstuck hsound hroom hidle => ?_⟩
  · obtain ⟨t, he, ht⟩ := runEvent_effect startExpiry hrun
    have heffect : startExpiry s = reportReady
        (s.modFlow fun fl =>
          { fl with pump := .running, start := none, granted := fl.granted.map fun c => { c with ready := true } },
         claimShares (s.flow.granted.map fun c => { c with ready := true })) := by
      unfold startExpiry
      rw [if_pos ⟨hpump, Option.isSome_iff_ne_none.2 hstart⟩, if_pos hprs]
      unfold pumpStarted
      rw [if_neg (by simpa using hgranted)]
      rfl
    rw [heffect] at ht
    refine ⟨t, he, by rw [ht.flow]; simp [State.modFlow], by rw [ht.flow]; simp [State.modFlow],
      by rw [ht.flow]; simp [State.modFlow], by rw [ht.flow]; simp [State.modFlow], fun c hc o ho hstate hclass => ?_,
      by rw [ht.faults]; simp⟩
    have hready := reportReady_claiming hstate hclass (claimShares (s.flow.granted.map fun c => { c with ready := true }))
      (s.modFlow fun fl =>
          { fl with pump := .running, start := none, granted := fl.granted.map fun c => { c with ready := true } }) ho
    rw [if_pos (by simp only [claimShares, List.map_map]; exact List.mem_map.2 ⟨c, hc, rfl⟩)] at hready
    obtain ⟨y, hy, hsame⟩ := ht.order hready
    exact ⟨y, hy, (congrArg Order.state hsame :), (congrArg Order.index hsame :)⟩
  · obtain ⟨t, he, hq⟩ := runEvent_next startExpiry hrun
    refine ⟨t, he, hq.trans ?_⟩
    unfold startExpiry
    rw [if_pos ⟨hpump, Option.isSome_iff_ne_none.2 hstart⟩, if_pos hprs]
    unfold pumpStarted
    rw [if_pos (by simp [hgranted])]
    unfold enterRunOn
    rw [if_neg hrunOn]
    rfl
  · obtain ⟨t, he, ht⟩ := runEvent_effect startExpiry hrun
    have heffect : startExpiry s = startFailed s := by
      unfold startExpiry
      rw [if_pos ⟨hpump, Option.isSome_iff_ne_none.2 hstart⟩, if_neg (by simp [hprs])]
    obtain ⟨hended, hfailed⟩ := State.startLost_orders horders
    obtain ⟨hoff, hnone⟩ := State.startLost_flow hpump
    obtain ⟨-, hlength, hkeeps, -, -⟩ := failPump_rest s.startingOrders (s.modFlow fun fl => { fl with granted := [] })
    have hroom' : s.startLost.faults.entries.length < 16 := by simpa [State.startLost, hlength] using hroom
    have hsound' : s.startLost.faults.sound := by simpa [State.startLost] using hkeeps hsound
    have hpumped : (raiseOnce .pumpNoStart .none s.startLost).faults.flags.pumped = true := by
      rw [raiseOnce_faults, FaultTable.latch_flags]
      exact FaultTable.raise_sets_pumped _ hsound' hroom' rfl rfl
    have hidle : (raiseOnce .pumpNoStart .none s.startLost).noActive := fun g => by
      rw [State.active_congr (s := s.startLost) (by simp)]
      exact State.active_none_of_allEnded hended g
    obtain ⟨hfaults, hflow, hseq, -⟩ :=
      reportFlags_rest_of_noActive hidle (old := s.startLost.faults.flags) (.inl hpumped)
    obtain ⟨hflow', hseq', hfaults'⟩ := advanceFold_rest s.startingOrders (raiseFaultOnce .pumpNoStart .none s.startLost)
      (by simpa [State.allEnded, raiseFaultOnce, hseq] using hended)
    rw [heffect, startFailed_eq] at ht
    have htable : t.faults = (raiseOnce .pumpNoStart .none s.startLost).faults := by
      rw [ht.faults, hfaults', raiseFaultOnce, hfaults]
    have hpumpFlow : t.flow = s.startLost.flow := by rw [ht.flow, hflow', raiseFaultOnce, hflow]; simp
    refine ⟨t, he, by rw [hpumpFlow, hoff], by rw [hpumpFlow, hnone], fun o ho hstate => ?_, ?_, by rw [htable, hpumped]⟩
    · obtain ⟨y, hy, hn, hy'⟩ := hfailed o ho hstate
      refine ⟨y.unmarked, ht.mem_records ?_, hn, hy'⟩
      rw [hseq', raiseFaultOnce, hseq]
      simpa using hy
    · rw [htable, raiseOnce_faults]
      exact FaultTable.raiseOnce_latched _ _ _ hroom'
  · obtain ⟨t, he, hq⟩ := runEvent_next runOnExpiry hrun
    refine ⟨t, he, hq.trans ?_⟩
    unfold runOnExpiry
    rw [if_pos ⟨hpump, Option.isSome_iff_ne_none.2 hrunOn⟩]
    unfold pumpOff
    rw [if_neg (by simp [hpump])]
    rfl
  · obtain ⟨t, he, ht⟩ := runEvent_effect stuckExpiry hrun
    have heffect : stuckExpiry s = raiseFault .pumpStuck .none (s.modFlow fun fl => { fl with stuck := none }) :=
      if_pos ⟨hpump, Option.isSome_iff_ne_none.2 hstuck⟩
    have hpumped : (raise .pumpStuck .none (s.modFlow fun fl => { fl with stuck := none })).faults.flags.pumped = true := by
      rw [raise_faults]
      exact FaultTable.raise_sets_pumped _ hsound hroom rfl rfl
    have hidle' : (raise .pumpStuck .none (s.modFlow fun fl => { fl with stuck := none })).noActive := fun g => by
      rw [State.active_congr (s := s) (by simp)]
      exact hidle g
    obtain ⟨hfaults, hflow, hseq, -, hdrive, -⟩ :=
      reportFlags_rest_of_noActive hidle' (old := s.faults.flags) (.inl hpumped)
    rw [heffect] at ht
    have htable : t.faults = (raise .pumpStuck .none (s.modFlow fun fl => { fl with stuck := none })).faults :=
      ht.faults.trans hfaults
    refine ⟨t, he, ht.flow.trans (hflow.trans (by simp [State.modFlow])), ?_, by rw [htable, hpumped], ?_,
      ht.drive.trans (hdrive.trans (by simp))⟩
    · rw [htable, raise_faults]
      exact FaultTable.raise_active _ _ _ hroom
    · exact ht.records.trans (records_congr (by rw [show (raiseFault .pumpStuck .none _).seq = _ from hseq]; simp))

end Sys2Proof.Machine
end


section
/-! PROOFS. The end of an order of a group in which no record waits, stated once for the timers, faults and requests that end one. -/

namespace Sys2Proof.Machine

/-- R6: the record of a number that one record alone carries. -/
theorem State.order_of_mem {s : State} {o : Order} (hnodup : (s.seq.orders.map (·.number)).Nodup) (ho : o ∈ s.seq.orders) :
    s.order? o.number = some o := by
  cases hfound : s.order? o.number with
  | none => exact absurd (List.find?_eq_none.1 hfound o ho) (by simp)
  | some x =>
    obtain ⟨hx, hnumber⟩ := State.mem_of_order hfound
    rw [eq_of_number hnodup hx ho hnumber]

/-- Table 0-1: a record of the group other than its active one is QUEUED or ENDED. -/
theorem State.number_eq_of_active {s : State} {g : Group} {o x : Order} (hnodup : (s.seq.orders.map (·.number)).Nodup)
    (hone : s.oneActiveEach) (hactive : s.active? g = some o) (hx : x ∈ s.seq.orders) (hgroup : x.group = g)
    (hstate : x.state.isActive = true) : x.number = o.number := by
  obtain ⟨ho, hg, ha⟩ := State.mem_of_active hactive
  exact (State.oneActiveEach_iff hnodup).1 hone x hx o ho hstate ha (hgroup.trans hg.symm)

/-- R32: the state once the order's record has reached ENDED, before its group goes on. -/
def State.afterEnd (s : State) (o : Order) (res : OrderResult) (why : Option Reason) : State :=
  let u := stopTimers o.group (endRun o.group s)
  (setOrder o.number (fun x => x.atEnd res why u.supply.time u.skew u.seq.endRank) u).noticeOrder

/-- R32: the end of an active order. -/
theorem markEnded_of_active {s : State} {o : Order} {res : OrderResult} {why : Option Reason}
    (ho : s.order? o.number = some o) (hstate : o.state.isActive = true) (hres : res ≠ .completed) :
    markEnded o.number res why s = s.afterEnd o res why := by
  simp only [markEnded, ho, hstate, if_pos, hres, if_false, State.afterEnd]

/-- R32, R167: the end of an active order that completes. -/
theorem markEnded_completed {s : State} {o : Order} {why : Option Reason} (ho : s.order? o.number = some o)
    (hstate : o.state.isActive = true) :
    markEnded o.number .completed why s = reportCompletion o (s.afterEnd o .completed why) := by
  simp only [markEnded, ho, hstate, if_pos, State.afterEnd]

theorem endRun_skew (g : Group) (s : State) : (endRun g s).skew = s.skew := by simp [State.skew, State.tracker]

@[simp] theorem State.afterEnd_orders (s : State) (o : Order) (res : OrderResult) (why : Option Reason) :
    (s.afterEnd o res why).seq.orders =
      s.seq.orders.map fun x => if x.number = o.number then x.atEnd res why s.supply.time s.skew s.seq.endRank else x := by
  have hskew : (stopTimers o.group (endRun o.group s)).skew = s.skew := by simp [State.skew, State.tracker]
  simp only [State.afterEnd, State.noticeOrder_seq, setOrder_seq, State.modOrder, hskew]
  simp [stopTimers]

@[simp] theorem State.afterEnd_frame (s : State) (o : Order) (res : OrderResult) (why : Option Reason) :
    (s.afterEnd o res why).supply = s.supply ∧ (s.afterEnd o res why).fitment = s.fitment ∧
      (s.afterEnd o res why).flow = s.flow ∧ (s.afterEnd o res why).trackers = s.trackers ∧
      (s.afterEnd o res why).drive = s.drive ∧ (s.afterEnd o res why).operator = s.operator ∧
      (s.afterEnd o res why).vehicle = s.vehicle ∧ (s.afterEnd o res why).runs = (endRun o.group s).runs ∧
      (s.afterEnd o res why).faults = (endRun o.group s).faults := by
  simp [State.afterEnd]

theorem State.afterEnd_ctl (s : State) (o : Order) (res : OrderResult) (why : Option Reason) :
    (s.afterEnd o res why).ctl o.group = { GroupCtl.reset with interval := (s.ctl o.group).interval } := by
  have hctl : (endRun o.group s).ctl o.group = s.ctl o.group := by simp [State.ctl]
  calc (s.afterEnd o res why).ctl o.group
      = (stopTimers o.group (endRun o.group s)).ctl o.group := by
        simp only [State.afterEnd, State.ctl, State.noticeOrder_seq, setOrder_seq, State.modOrder]
    _ = _ := by rw [stopTimers, State.modCtl_ctl_self, hctl]; rfl

/-- R32: the record of the table that has ended, and no other record changes. -/
theorem State.afterEnd_records (s : State) (o : Order) (res : OrderResult) (why : Option Reason) :
    s.endsAs (s.afterEnd o res why) o res why := by
  rw [State.endsAs, State.records, State.afterEnd_orders, List.map_map, List.map_map]
  refine List.map_congr_left fun x _ => ?_
  simp only [Function.comp_apply]
  split <;> rfl

section
variable {s : State} {g : Group} {o : Order} (hnodup : (s.seq.orders.map (·.number)).Nodup) (hone : s.oneActiveEach)
  (hactive : s.active? g = some o)
include hnodup hone hactive

/-- Table 0-1: with its one active order ended the group has none. -/
theorem State.afterEnd_active (res : OrderResult) (why : Option Reason) : (s.afterEnd o res why).active? g = none := by
  refine List.find?_eq_none.2 fun x hx => ?_
  rw [State.afterEnd_orders, List.mem_map] at hx
  obtain ⟨y, hy, rfl⟩ := hx
  by_cases hn : y.number = o.number
  · simp [hn, Order.atEnd, OrderState.isActive]
  · rw [if_neg hn]
    intro hboth
    simp only [Bool.and_eq_true, decide_eq_true_eq] at hboth
    exact hn (State.number_eq_of_active hnodup hone hactive hy hboth.1 hboth.2)

end

/-- R5: an end leaves a group without QUEUED records without them. -/
theorem State.afterEnd_queued {s : State} {g : Group} (h : s.oldestQueued? g = none) (o : Order) (res : OrderResult)
    (why : Option Reason) : (s.afterEnd o res why).oldestQueued? g = none := by
  refine List.find?_eq_none.2 fun x hx => ?_
  rw [State.afterEnd_orders, List.mem_map] at hx
  obtain ⟨y, hy, rfl⟩ := hx
  have hnot := List.find?_eq_none.1 h y hy
  by_cases hn : y.number = o.number
  · simp [hn, Order.atEnd]
  · rwa [if_neg hn]

/-! ### A group that becomes idle -/

/-- R80: the parked position that a tracker records. -/
def Tracker.park (t : Tracker) : Tracker := if t.referenced then { t with parked := some t.pos } else t

theorem Tracker.park_park (t : Tracker) : t.park.park = t.park := by
  unfold Tracker.park
  split
  · rfl
  · simp

theorem recordParked_tracker (a b : Axis) (s : State) :
    (recordParked a s).tracker b = if b = a then (s.tracker b).park else s.tracker b := by
  by_cases hab : b = a
  · subst hab
    rw [if_pos rfl, recordParked, State.modTracker_tracker_self]
    rfl
  · rw [if_neg hab, recordParked, State.modTracker_tracker_ne _ (Ne.symm hab)]

theorem recordParked_fold_tracker (b : Axis) (as : List Axis) : ∀ s : State,
    (as.foldl (fun s a => recordParked a s) s).tracker b = if b ∈ as then (s.tracker b).park else s.tracker b := by
  induction as with
  | nil => intro s; rfl
  | cons a as ih =>
    intro s
    rw [List.foldl_cons, ih, recordParked_tracker]
    by_cases hab : b = a
    · simp [hab, Tracker.park_park]
    · simp [hab]

theorem becomeIdle_tracker (g : Group) (b : Axis) (s : State) :
    (becomeIdle g s).tracker b = if b ∈ g.axes then (s.tracker b).park else s.tracker b :=
  recordParked_fold_tracker b g.axes s

theorem becomeIdle_parked {g : Group} {a : Axis} {s : State} (ha : a ∈ g.axes) (href : (s.tracker a).referenced = true) :
    ((becomeIdle g s).tracker a).parked = some (s.tracker a).pos := by
  rw [becomeIdle_tracker, if_pos ha, Tracker.park, if_pos href]

/-! ### The end with nothing queued behind -/

section
variable {s : State} {g : Group} {o : Order} (hnodup : (s.seq.orders.map (·.number)).Nodup) (hone : s.oneActiveEach)
  (hactive : s.active? g = some o) (hqueued : s.oldestQueued? g = none)
include hnodup hone hactive hqueued

/-- R32: with no record queued behind it the end of an order leaves its group idle. -/
theorem endOrder_idle {res : OrderResult} (hres : res ≠ .completed) (why : Option Reason) :
    endOrder o res why s = becomeIdle g (s.afterEnd o res why) := by
  obtain ⟨hmem, hgroup, hstate⟩ := State.mem_of_active hactive
  rw [endOrder, markEnded_of_active (State.order_of_mem hnodup hmem) hstate hres, hgroup]
  exact advanceGroup_idle (State.afterEnd_active hnodup hone hactive res why) (State.afterEnd_queued hqueued o res why)

theorem endOrder_ctl {res : OrderResult} (hres : res ≠ .completed) (why : Option Reason) :
    (endOrder o res why s).ctl g = { GroupCtl.reset with interval := (s.ctl g).interval } := by
  obtain ⟨_, rfl, _⟩ := State.mem_of_active hactive
  rw [endOrder_idle hnodup hone hactive hqueued hres]
  simpa [State.ctl] using s.afterEnd_ctl o res why

theorem endOrder_records {res : OrderResult} (hres : res ≠ .completed) (why : Option Reason) :
    s.endsAs (endOrder o res why s) o res why := by
  rw [endOrder_idle hnodup hone hactive hqueued hres, State.endsAs, records_congr (s := s.afterEnd o res why) (by simp)]
  exact s.afterEnd_records o res why

theorem endOrder_active {res : OrderResult} (hres : res ≠ .completed) (why : Option Reason) :
    (endOrder o res why s).active? g = none := by
  rw [endOrder_idle hnodup hone hactive hqueued hres, State.active_congr (s := s.afterEnd o res why) (by simp)]
  exact State.afterEnd_active hnodup hone hactive res why

theorem endOrder_parked {res : OrderResult} (hres : res ≠ .completed) (why : Option Reason) {a : Axis} (ha : a ∈ g.axes)
    (href : (s.tracker a).referenced = true) :
    ((endOrder o res why s).tracker a).parked = some (s.tracker a).pos := by
  have hsame : (s.afterEnd o res why).tracker a = s.tracker a := by simp [State.tracker]
  rw [endOrder_idle hnodup hone hactive hqueued hres, becomeIdle_parked ha (by rwa [hsame]), hsame]

/-- What the end of an order without a run leaves as it was. -/
theorem endOrder_rest {res : OrderResult} (hres : res ≠ .completed) (why : Option Reason) (hrun : s.run? g = none) :
    (endOrder o res why s).faults = s.faults ∧ (endOrder o res why s).flow = s.flow ∧
      (endOrder o res why s).drive = s.drive ∧ (endOrder o res why s).fitment = s.fitment ∧
      (endOrder o res why s).runs = s.runs := by
  obtain ⟨_, rfl, _⟩ := State.mem_of_active hactive
  rw [endOrder_idle hnodup hone hactive hqueued hres]
  simp [endRun_of_none hrun]

end

end Sys2Proof.Machine
end


section
/-! PROOFS. The windows and limits of an order (O40), its failed latch check (O42), and the ways out of the emergency stop (O53). -/

namespace Sys2Proof.Machine

/-! ### Timers that end an order -/

section
variable {s : State} {g : Group} {o : Order} (hrun : s.supply.mode = .run) (hnodup : (s.seq.orders.map (·.number)).Nodup)
  (hone : s.oneActiveEach) (hactive : s.active? g = some o) (hqueued : s.oldestQueued? g = none) (hidle : s.run? g = none)
include hrun hnodup hone hactive hqueued hidle

/-- R32: an event of RUN that ends the order of a group behind which no record waits. -/
theorem runEvent_endOrder {f : State → State} {why : Reason} (hf : f s = endOrder o .failed (some why) s) :
    ∃ t, runEvent f s = .next t ∧
      s.endsAs t o .failed (some why) ∧ t.ctl g = { GroupCtl.reset with interval := (s.ctl g).interval } ∧
        t.active? g = none ∧ (∀ a ∈ g.axes, (s.tracker a).referenced = true → (t.tracker a).parked = some (s.tracker a).pos) ∧
        t.faults = s.faults ∧ t.flow = s.flow ∧ t.drive = s.drive ∧ t.fitment = s.fitment := by
  obtain ⟨t, he, ht⟩ := runEvent_effect f hrun
  rw [hf] at ht
  have hres : OrderResult.failed ≠ .completed := by decide
  obtain ⟨hfaults, hflow, hdrive, hfitment, -⟩ := endOrder_rest hnodup hone hactive hqueued hres (some why) hidle
  refine ⟨t, he, ht.records.trans (endOrder_records hnodup hone hactive hqueued hres (some why)), ?_, ?_, fun a ha href => ?_,
    ht.faults.trans hfaults, ht.flow.trans hflow, ht.drive.trans hdrive, ht.fitment.trans hfitment⟩
  · rw [ht.ctl, endOrder_ctl hnodup hone hactive hqueued hres]
  · exact ht.active_none (endOrder_active hnodup hone hactive hqueued hres (some why))
  · rw [ht.tracker, endOrder_parked hnodup hone hactive hqueued hres (some why) ha href]

end

theorem onActive_of_active {s : State} {g : Group} {o : Order} (h : s.active? g = some o) (f : Order → State → State) :
    onActive g f s = f o s := by
  unfold onActive
  rw [h]

/-- The record of the table that goes to STOPPING, and no other record changes. -/
theorem toStopping_records (s : State) (o : Order) (out : StopOutcome) (res : Option OrderResult) (why : Option Reason) :
    s.stopsAs (toStopping o.number out res why s) o out res why := setOrder_records ..

/-- Settles O40, by the end of an order with nothing queued behind it and by the stop of a moving one. -/
theorem orderTimersEndOrStopTheOrder : Obligations.OrderTimersEndOrStopTheOrder := by
  intro g o s hrun hnodup hone hactive
  refine ⟨fun hstate hblock hqueued hidle => ?_, fun hstate hhold hqueued hidle => ?_, fun hstate hmovement => ?_⟩
  · refine runEvent_endOrder hrun hnodup hone hactive hqueued hidle ((onActive_of_active hactive _).trans ?_)
    exact if_pos ⟨hstate, Option.isSome_iff_ne_none.2 hblock⟩
  · refine runEvent_endOrder hrun hnodup hone hactive hqueued hidle ((onActive_of_active hactive _).trans ?_)
    exact if_pos ⟨hstate, Option.isSome_iff_ne_none.2 hhold⟩
  · obtain ⟨t, he, ht⟩ := runEvent_effect (limitReached g) hrun
    have hlimit : limitReached g s = stopFailed o.number .timeout s :=
      (onActive_of_active hactive _).trans (if_pos ⟨hstate, hmovement⟩)
    rw [hlimit] at ht
    refine ⟨t, he, ht.records.trans (toStopping_records ..), ?_, ?_, ?_, ?_, ?_, ht.ctlTable.trans ?_⟩
    · simp [ht.runs]
    · simp [ht.drive]
    · simp [ht.flow]
    · simp [ht.faults]
    · simp [ht.trackers]
    · simp [stopFailed, toStopping]

/-! ### Flags that reach no order -/

/-- R16: flags of which none is new to a group with an active order reach no order. -/
theorem meetInhibit_of_calm {s : State} {g : Group} {old : Inhibits}
    (hgroup : ∀ o, s.active? g = some o → s.faults.flags.group g = true → old.group g = true)
    (hpumped : s.faults.flags.pumped = true → old.pumped = true) : meetInhibit old g s = s := by
  unfold meetInhibit
  split
  · rfl
  next o ho =>
    have h1 : (s.faults.flags.group g && !old.group g) = false := by
      cases hnew : s.faults.flags.group g with
      | false => rfl
      | true => simp [hgroup o ho hnew]
    have h2 : (s.faults.flags.pumped && !old.pumped) = false := by
      cases hnew : s.faults.flags.pumped with
      | false => rfl
      | true => simp [hpumped hnew]
    simp only [h1, h2, Bool.false_and, Bool.or_false, Bool.false_eq_true, if_false]

/-- R165: flags of which none is new to a group with an active order, reported with PUMPED as it was, reach the Beacon Engine
alone. -/
theorem reportFlags_of_calm {s : State} {old : Inhibits}
    (hgroup : ∀ g o, s.active? g = some o → s.faults.flags.group g = true → old.group g = true)
    (hpumped : s.faults.flags.pumped = old.pumped) :
    reportFlags old s = if s.faults.flags = old then s else reportFaultScene s := by
  have hmeet (g : Group) : meetInhibit old g s = s := meetInhibit_of_calm (hgroup g) (fun h => hpumped ▸ h)
  unfold reportFlags
  split
  · rfl
  · simp only [Group.all, List.foldl_cons, List.foldl_nil, hmeet, reportCleared, hpumped]
    simp

/-- What such a report leaves as it was. -/
theorem reportFlags_rest_of_calm {s : State} {old : Inhibits}
    (hgroup : ∀ g o, s.active? g = some o → s.faults.flags.group g = true → old.group g = true)
    (hpumped : s.faults.flags.pumped = old.pumped) :
    (reportFlags old s).seq = s.seq ∧ (reportFlags old s).faults = s.faults ∧ (reportFlags old s).flow = s.flow ∧
      (reportFlags old s).drive = s.drive ∧ (reportFlags old s).trackers = s.trackers ∧
      (reportFlags old s).runs = s.runs ∧ (reportFlags old s).link = s.link ∧
      (reportFlags old s).operator = s.operator := by
  rw [reportFlags_of_calm hgroup hpumped]
  split <;> simp [reportFaultScene]

theorem Inhibits.union_group (a b : Inhibits) (g : Group) : (a.union b).group g = (a.group g || b.group g) := by
  cases g <;> rfl

theorem Inhibits.ofGroup_group (g h : Group) : (Inhibits.ofGroup g).group h = decide (h = g) := by
  cases g <;> cases h <;> rfl

theorem Inhibits.ofGroup_pumped (g : Group) : (Inhibits.ofGroup g).pumped = false := by
  cases g <;> rfl

/-- R165: a raise whose code inhibits one group sets the flag of no other group, and leaves PUMPED as it was. -/
theorem FaultTable.raise_ofGroup {t : FaultTable} {code : FaultCode} {x : Subject} {g : Group} (now : U32) (hsound : t.sound)
    (hroom : t.entries.length < 16) (hstop : code.isStop = true) (hinhibit : inhibitOf code x = Inhibits.ofGroup g) :
    (t.raise code x now).flags.pumped = t.flags.pumped ∧
      ∀ h, h ≠ g → (t.raise code x now).flags.group h = t.flags.group h := by
  have hnew : (Entry.fresh code x now).inhibit = Inhibits.ofGroup g := by simp [Entry.inhibit, Entry.fresh, hstop, hinhibit]
  rw [FaultTable.raise_flags now hsound hroom]
  split
  · exact ⟨rfl, fun _ _ => rfl⟩
  · refine ⟨?_, fun h hne => ?_⟩
    · simp [hnew, Inhibits.union, Inhibits.ofGroup_pumped]
    · simp [hnew, Inhibits.union_group, Inhibits.ofGroup_group, hne]

/-! ### The failed latch check -/

/-- R31: LATCH_FAULT as the failed latch check leaves it. -/
theorem latchCheckFailed_eq (o : Order) (s : State) :
    latchCheckFailed o s =
      reportFlags s.faults.flags (endOrder o .failed (some .latch) (raiseOnce .latchFault (.group o.group) s)) := rfl

/-- Settles O42: the order's end leaves LATCH_FAULT and its flag in the table, and the flag meets no order of its group. -/
theorem latchCheckFailureIsRecorded : Obligations.LatchCheckFailureIsRecorded := by
  intro g o s hrun hnodup hone hactive hstate hcheck htimer hqueued hidle hsound hroom
  obtain ⟨hmem, rfl, -⟩ := State.mem_of_active hactive
  let u := raiseOnce .latchFault (.group o.group) s
  have hseq : u.seq = s.seq := by simp [u]
  have hnodup' : (u.seq.orders.map (·.number)).Nodup := by rwa [hseq]
  have hone' : u.oneActiveEach := by unfold State.oneActiveEach; rwa [hseq]
  have hactive' : u.active? o.group = some o := (State.active_congr (by rw [hseq]) _).trans hactive
  have hqueued' : u.oldestQueued? o.group = none := by unfold State.oldestQueued?; rwa [hseq]
  have hidle' : u.run? o.group = none := by simpa [u, State.run?] using hidle
  have hres : OrderResult.failed ≠ .completed := by decide
  let e := endOrder o .failed (some .latch) u
  obtain ⟨hfaults, hflow, hdrive, hfitment, -⟩ := endOrder_rest hnodup' hone' hactive' hqueued' hres (some .latch) hidle'
  have hnone : e.active? o.group = none := endOrder_active hnodup' hone' hactive' hqueued' hres (some .latch)
  have hraise : e.faults.flags = (s.faults.raise .latchFault (.group o.group) s.supply.time).flags := by
    rw [hfaults]; simp [u]
  obtain ⟨hpumped, hothers⟩ := FaultTable.raise_ofGroup s.supply.time hsound hroom (code := .latchFault) (x := .group o.group)
    (g := o.group) rfl rfl
  have hcalm : ∀ h y, e.active? h = some y → e.faults.flags.group h = true → s.faults.flags.group h = true := by
    intro h y hy hflag
    have hne : h ≠ o.group := by
      rintro rfl
      rw [hnone] at hy
      cases hy
    rwa [hraise, hothers h hne] at hflag
  obtain ⟨hrseq, hrfaults, -, hrdrive, -, -, -, -⟩ := reportFlags_rest_of_calm hcalm (hraise ▸ hpumped)
  obtain ⟨t, he, ht⟩ := runEvent_effect (latchCheckExpiry o.group) hrun
  have heq : latchCheckExpiry o.group s = reportFlags s.faults.flags e :=
    (onActive_of_active hactive _).trans (if_pos ⟨hstate, hcheck, Option.isSome_iff_ne_none.2 htimer⟩)
  rw [heq] at ht
  have htfaults : t.faults = u.faults := ht.faults.trans (hrfaults.trans hfaults)
  refine ⟨t, he, ?_, ?_, ?_, ?_, ?_, ?_⟩
  · have hends := endOrder_records hnodup' hone' hactive' hqueued' hres (some .latch)
    have hskew : u.skew = s.skew := by simp [u, State.skew, State.tracker]
    have hsupply : u.supply = s.supply := by simp [u]
    rw [State.endsAs, hseq, hskew, hsupply] at hends
    exact ht.records.trans ((records_congr (by rw [hrseq])).trans hends)
  · rw [htfaults]
    simpa [u] using FaultTable.raiseOnce_latched s.supply.time .latchFault (.group o.group) hroom
  · rw [htfaults]
    have hset := FaultTable.raise_sets (code := .latchFault) (x := .group o.group) (now := s.supply.time) (g := o.group) hsound
      hroom rfl (by rw [show inhibitOf .latchFault (.group o.group) = Inhibits.ofGroup o.group from rfl,
        Inhibits.ofGroup_group]; simp)
    simpa [u] using hset
  · rw [ht.ctl, State.ctl, hrseq]
    have hctl := endOrder_ctl hnodup' hone' hactive' hqueued' hres (some .latch)
    rw [State.ctl] at hctl
    rw [hctl]
    rfl
  · rw [ht.drive, hrdrive, hdrive]
    simp [u]
  · rw [ht.fitment]
    simp [e, u]

/-! ### The ways out of the stop -/

/-- R165: the ESTOP entry sets no flag, so its removal leaves the flags as they were. -/
theorem FaultTable.remove_estop_flags {t : FaultTable} (h : t.sound) : (t.remove (·.is .estop .none)).flags = t.flags := by
  have hestop (e : Entry) (hcode : e.is .estop .none = true) : e.inhibit = Inhibits.none := by
    simp only [Entry.is, Bool.and_eq_true, decide_eq_true_eq] at hcode
    simp [Entry.inhibit, hcode.1, inhibitOf]
  have hfold (l : List Entry) : ∀ x : Inhibits, flagsOf (l.filter fun e => !e.is .estop .none) x = flagsOf l x := by
    induction l with
    | nil => intro x; rfl
    | cons e l ih =>
      intro x
      cases he : e.is .estop .none with
      | true =>
        have hunion : x.union e.inhibit = x := by simp [hestop e he, Inhibits.union, Inhibits.none]
        rw [List.filter_cons_of_neg (by simp [he]), ih]
        simp [flagsOf, hunion]
      | false =>
        rw [List.filter_cons_of_pos (by simp [he])]
        exact ih _
  rw [h.2.2]
  exact hfold _ _

/-- R142: the reset of a RELEASABLE machine, whose ESTOP entry sets no flag. -/
theorem clearStop_eq {s : State} (h : s.faults.sound) :
    clearStop s = reportStopScene (removeFaults (·.is .estop .none) (setEstop .clear none s)) := by
  have hflags : (removeFaults (·.is .estop .none) (setEstop .clear none s)).faults.flags = s.faults.flags := by
    rw [← FaultTable.remove_estop_flags h]
    unfold removeFaults
    dsimp only
    split <;> rfl
  have heq : clearStop s =
      reportStopScene (reportFlags s.faults.flags (removeFaults (·.is .estop .none) (setEstop .clear none s))) := rfl
  rw [heq, reportFlags_of_eq hflags]

@[simp] theorem removeFaults_outgoing (p : Entry → Bool) (s : State) :
    (removeFaults p s).link.outgoing = s.link.outgoing := by
  unfold removeFaults
  dsimp only
  split <;> rfl

/-- Settles O53. -/
theorem stopIsLeftByReleaseAndReset : Obligations.StopIsLeftByReleaseAndReset := by
  refine ⟨fun s hrun hestop => ?_, fun s hrun hestop hrelease => ?_, fun tag s h =>
    ⟨fun hclear => ?_, fun hstopped => ?_, fun hreleasable hsound => ?_⟩⟩
  · obtain ⟨t, he, ht⟩ := event_next loopCloses s
    refine ⟨t, he, ht.trans ?_⟩
    have hcloses : loopCloses s = setEstop .held (some s.releaseTime) (takeLoop false (setLoopLine false s)) :=
      (if_pos hrun).trans (if_pos hestop)
    rw [hcloses]
    rfl
  · obtain ⟨t, he, ht⟩ := runEvent_next releaseExpiry hrun
    refine ⟨t, he, ht.trans ?_⟩
    have hexpiry : releaseExpiry s = setEstop .releasable none s :=
      if_pos ⟨hestop, Option.isSome_iff_ne_none.2 hrelease⟩
    rw [hexpiry]
    rfl
  · exact request_done .stopReset tag stopResetRequest h (by rw [stopResetRequest, hclear]; rfl)
  · refine request_refused .stopReset tag stopResetRequest (w := .stopped) (d1 := 0) (d2 := 0) (d3 := 0) h ?_
    obtain hactive | hheld := hstopped
    · rw [stopResetRequest, hactive]; rfl
    · rw [stopResetRequest, hheld]; rfl
  · have hf : stopResetRequest s = (clearStop s, .done [0]) := by rw [stopResetRequest, hreleasable]; rfl
    rw [clearStop_eq hsound] at hf
    obtain ⟨t, he, ht, hout⟩ := request_effect .stopReset tag stopResetRequest h hf (by simp [reportStopScene, setEstop]; rfl)
    refine ⟨t, he, ?_, ?_, ?_, hout, ?_, ?_, ?_, ?_, ?_⟩
    · rw [ht.operator]
      simp [reportStopScene, setEstop]
    · rw [ht.faults]
      simp [reportStopScene, setEstop, FaultTable.remove, FaultTable.recompute, Entry.is]
    · rw [ht.faults, ← FaultTable.remove_estop_flags hsound]
      simp [reportStopScene, setEstop]
    · rw [ht.beacon, reportStopScene, reportScene_active]
      simp [setEstop]
    · rw [ht.records]
      exact records_congr (by simp [reportStopScene, setEstop])
    · simp [ht.drive, reportStopScene, setEstop]
    · simp [ht.flow, reportStopScene, setEstop]
    · simp [ht.trackers, reportStopScene, setEstop]

end Sys2Proof.Machine
end


section
/-! PROOFS. Demand commands, period boundaries and dead-times on a channel and its pair (O55). -/

namespace Sys2Proof.Machine

/-! ### Writing back what is there -/

theorem table_set_self {α : Type} {n : Nat} (v : Vector α n) (i : Fin n) : v.set i v[i] = v := by
  apply Vector.ext
  intro j hj
  rw [Vector.getElem_set]
  split
  next h => subst h; rfl
  · rfl

theorem modChan_self (c : Channel) (s : State) : (s.modChan c fun _ => s.chan c) = s := by
  have h : s.drive.chans.set c (s.chan c) = s.drive.chans := table_set_self _ _
  unfold State.modChan
  rw [h]

theorem modPair_self (p : PairNo) (s : State) : (s.modPair p fun _ => s.pair p) = s := by
  have h : s.drive.pairs.set p (s.pair p) = s.drive.pairs := table_set_self _ _
  unfold State.modPair
  rw [h]

/-! ### A demand command -/

/-- R112, R117: a pair record whose waiting command is dropped when it belongs to this member. -/
def Pair.without (y : Pair) (n : Member) : Pair := if y.waiting.map (·.1) = some n then { y with waiting := none } else y

/-- R112: a channel whose first period starts. -/
def Chan.started (x : Chan) (r : ChannelRec) (o : Nat) : Chan :=
  { x with state := .running, opening := o, onTime := Machine.onTime r o, buffer := none }

/-- R112: a channel with this opening buffered for its next period. -/
def Chan.buffered (x : Chan) (o : Nat) : Chan := { x with buffer := some o }

theorem clearWaiting_eq (p : PairNo) (n : Member) (s : State) :
    clearWaiting p n s = s.modPair p fun _ => (s.pair p).without n := rfl

theorem startChannel_eq {c : Channel} {r : ChannelRec} {s : State} (hr : s.chanRec? c = some r) (o : Nat) :
    startChannel c o s = s.modChan c fun _ => (s.chan c).started r o := by
  have hon : s.onTimeOf c o = onTime r o := by rw [State.onTimeOf, hr]; rfl
  unfold startChannel
  rw [hon]
  rfl

/-- R112 to R115: what a nonzero command makes of an IDLE channel and its pair record. -/
def idleTaken (p : PairNo) (m : Member) (r : ChannelRec) (o : Nat) (s : State) : Chan × Pair :=
  let x := s.chan (memberChannel p m)
  let y := s.pair p
  if (s.chan (memberChannel p (otherMember m))).state ≠ .idle then (x, { y with waiting := some (m, o) })
  else if y.dead = none then (x.started r o, y.without m)
  else if y.resumable = some m ∧ y.waiting.map (·.1) ≠ some (otherMember m) then (x.started r o, ⟨none, none, none⟩)
  else (x, { y with waiting := some (m, o) })

theorem commandIdle_eq {p : PairNo} {m : Member} {r : ChannelRec} {s : State} (hr : s.chanRec? (memberChannel p m) = some r)
    (o : Nat) :
    commandIdle p m o s =
      (s.modChan (memberChannel p m) fun _ => (idleTaken p m r o s).1).modPair p fun _ => (idleTaken p m r o s).2 := by
  have hheld : holdCommand p m o s =
      (s.modChan (memberChannel p m) fun _ => s.chan (memberChannel p m)).modPair p fun _ =>
        { s.pair p with waiting := some (m, o) } := by
    rw [modChan_self]; rfl
  have hstart (y : Pair) : startChannel (memberChannel p m) o (s.modPair p fun _ => y) =
      (s.modChan (memberChannel p m) fun _ => (s.chan (memberChannel p m)).started r o).modPair p fun _ => y :=
    startChannel_eq (s := s.modPair p fun _ => y) hr o
  by_cases hother : (s.chan (memberChannel p (otherMember m))).state ≠ .idle
  · have htaken : idleTaken p m r o s = (s.chan (memberChannel p m), { s.pair p with waiting := some (m, o) }) := if_pos hother
    rw [htaken]
    exact (if_pos hother).trans hheld
  refine (if_neg hother).trans ?_
  by_cases hdead : (s.pair p).dead = none
  · have htaken : idleTaken p m r o s = ((s.chan (memberChannel p m)).started r o, (s.pair p).without m) :=
      (if_neg hother).trans (if_pos hdead)
    rw [htaken]
    exact (if_neg (by simp [hdead])).trans (hstart _)
  refine (if_pos (Option.isSome_iff_ne_none.2 hdead)).trans ?_
  by_cases hresume : (s.pair p).resumable = some m ∧ (s.pair p).waiting.map (·.1) ≠ some (otherMember m)
  · have htaken : idleTaken p m r o s = ((s.chan (memberChannel p m)).started r o, ⟨none, none, none⟩) :=
      (if_neg hother).trans ((if_neg hdead).trans (if_pos hresume))
    rw [htaken]
    exact (if_pos hresume).trans (hstart _)
  · have htaken : idleTaken p m r o s = (s.chan (memberChannel p m), { s.pair p with waiting := some (m, o) }) :=
      (if_neg hother).trans ((if_neg hdead).trans (if_neg hresume))
    rw [htaken]
    exact (if_neg hresume).trans hheld

/-- R112 to R115: what a command makes of its channel and the pair record. -/
def commandTaken (p : PairNo) (m : Member) (r : ChannelRec) (o : Nat) (s : State) : Chan × Pair :=
  let x := s.chan (memberChannel p m)
  let y := s.pair p
  match x.state with
  | .idle => if o = 0 then (x, y.without m) else idleTaken p m r o s
  | .running =>
    if o = 0 then ({ x with state := .ending, buffer := some 0 }, y)
    else (x.buffered o, y.without (otherMember m))
  | .ending => if o = 0 then (x, y) else ({ x with state := .running, buffer := some o }, y.without (otherMember m))

theorem command_eq {p : PairNo} {m : Member} {r : ChannelRec} {s : State} (hr : s.chanRec? (memberChannel p m) = some r)
    (o : Nat) :
    command p m o s =
      (s.modChan (memberChannel p m) fun _ => (commandTaken p m r o s).1).modPair p fun _ => (commandTaken p m r o s).2 := by
  cases hstate : (s.chan (memberChannel p m)).state with
  | idle =>
    by_cases ho : o = 0
    · simp only [command, commandTaken, hstate, if_pos ho, modChan_self, clearWaiting_eq]
    · simp only [command, commandTaken, hstate, if_neg ho]
      exact commandIdle_eq hr o
  | running =>
    by_cases ho : o = 0
    · simp only [command, commandTaken, hstate, if_pos ho]
      exact (modPair_self p (s.modChan _ _)).symm
    · simp only [command, commandTaken, hstate, if_neg ho]
      rfl
  | ending =>
    by_cases ho : o = 0
    · simp only [command, commandTaken, hstate, if_pos ho, modChan_self, modPair_self]
    · simp only [command, commandTaken, hstate, if_neg ho]
      rfl

/-- R110, R119: a demand command while the Drive Unit takes commands. -/
theorem demandCommand_eq {p : PairNo} {m : Member} {r : ChannelRec} {s : State} (hr : s.chanRec? (memberChannel p m) = some r)
    (hrun : s.supply.mode = .run) (hclear : s.operator.estop = .clear) (f : Nat) :
    demandCommand (memberChannel p m) f s = command p m (opening r f) s := by
  obtain ⟨hpair, hmember⟩ := channelPair_memberChannel p m
  have htakes : s.driveTakes = true := by simp [State.driveTakes, hrun, hclear]
  unfold demandCommand
  simp only [htakes, hr, hpair, hmember]

/-- R119, R132: a demand command is discarded while the stop machine is not CLEAR or outside RUN. -/
theorem demandCommand_of_not_taken {s : State} (h : s.supply.mode ≠ .run ∨ s.operator.estop ≠ .clear) (c : Channel) (f : Nat) :
    demandCommand c f s = s := by
  have htakes : s.driveTakes = false := by
    simpa [State.driveTakes, imp_iff_not_or, or_comm] using h
  unfold demandCommand
  simp only [htakes]

/-! ### Period boundaries and dead-times -/

theorem boundary_running {c : Channel} {r : ChannelRec} {s : State} (hr : s.chanRec? c = some r)
    (hstate : (s.chan c).state = .running) :
    boundary c s =
      s.modChan c fun x =>
        { x with opening := x.buffer.getD x.opening, onTime := onTime r (x.buffer.getD x.opening), buffer := none } := by
  have hon (o : Nat) : s.onTimeOf c o = onTime r o := by rw [State.onTimeOf, hr]; rfl
  unfold boundary
  simp only [hstate, hon]
  rfl

theorem boundary_ending {c : Channel} {s : State} (hstate : (s.chan c).state = .ending) : boundary c s = normalEnd c s := by
  unfold boundary
  simp only [hstate]

/-- R114: the normal end of a member of a pair, whose dead-time is that of the even member's record. -/
theorem normalEnd_eq {p : PairNo} {m : Member} {r : ChannelRec} {s : State} (hr : s.chanRec? (memberChannel p .even) = some r) :
    normalEnd (memberChannel p m) s =
      (latch .coilOpen (.channel (memberChannel p m)) (s.modChan (memberChannel p m) fun _ => Chan.reset)).modPair p fun x =>
        { x with dead := some r.dead, resumable := some m } := by
  obtain ⟨hpair, hmember⟩ := channelPair_memberChannel p m
  have hr' : (latch .coilOpen (.channel (memberChannel p m)) (s.modChan (memberChannel p m) fun _ => Chan.reset)).chanRec?
      (memberChannel p .even) = some r := hr
  unfold normalEnd
  simp only [hpair, hmember, startDead, hr']

theorem deadExpiry_started {p : PairNo} {m : Member} {o : Nat} {r : ChannelRec} {s : State} (hdead : (s.pair p).dead ≠ none)
    (hwait : (s.pair p).waiting = some (m, o)) (hidle : (s.chan (memberChannel p m)).state = .idle)
    (hother : (s.chan (memberChannel p (otherMember m))).state = .idle) (hr : s.chanRec? (memberChannel p m) = some r) :
    deadExpiry p s =
      (s.modPair p fun _ => { dead := none, resumable := none, waiting := none }).modChan (memberChannel p m) fun x =>
        x.started r o := by
  let u := s.modPair p fun x => { x with dead := none, resumable := none }
  have hwait' : (u.pair p).waiting = some (m, o) := by simp [u, hwait]
  have hboth : (u.chan (memberChannel p m)).state = .idle ∧ (u.chan (memberChannel p (otherMember m))).state = .idle :=
    ⟨hidle, hother⟩
  have hpairs : (u.modPair p fun x => { x with waiting := none }) =
      s.modPair p fun _ => { dead := none, resumable := none, waiting := none } := by
    simp [u, State.modPair, State.pair]
  have hdead' : ¬ (s.pair p).dead.isNone = true := by simpa using hdead
  calc deadExpiry p s
      = startChannel (memberChannel p m) o (u.modPair p fun x => { x with waiting := none }) := by
        unfold deadExpiry
        rw [if_neg hdead']
        simp only [u] at hwait' hboth ⊢
        rw [hwait']
        exact if_pos hboth
    _ = _ := by
        rw [hpairs]
        exact startChannel_eq (s := s.modPair p fun _ => { dead := none, resumable := none, waiting := none }) hr o

theorem deadExpiry_bare {p : PairNo} {s : State} (hdead : (s.pair p).dead ≠ none) (hwait : (s.pair p).waiting = none) :
    deadExpiry p s = s.modPair p fun x => { x with dead := none, resumable := none } := by
  have hdead' : ¬ (s.pair p).dead.isNone = true := by simpa using hdead
  have hwait' : ((s.modPair p fun x => { x with dead := none, resumable := none }).pair p).waiting = none := by simp [hwait]
  unfold deadExpiry
  rw [if_neg hdead']
  dsimp only
  rw [hwait']

/-- Table 0-3: a proportional channel is the member of its pair that its number says. -/
theorem prop_memberChannel {c : PropChannel} {ch : Channel} {p : PairNo} (hch : ch.val = c.val) (hp : p.val = c.val / 2) :
    ch = memberChannel p (if c.val % 2 = 0 then .even else .odd) := by
  apply Fin.ext
  split <;> simp only [memberChannel] <;> omega

/-- Settles O55. -/
theorem periodsAndDeadTimes : Obligations.PeriodsAndDeadTimes := by
  refine ⟨?_, fun c f ds s => ⟨rfl, rfl⟩, fun c ch r s hrun hch hr hstate => ?_, fun c ch p r s hrun hch hp hr hstate => ?_,
    fun p m o r s hmode hdead hwait hidle hother hr => ?_, fun p s hmode hdead hwait => ?_⟩
  · intro p m r f s hr
    refine ⟨fun hrun hclear => ?_, fun h => demandCommand_of_not_taken h _ _⟩
    exact (demandCommand_eq hr hrun hclear f).trans (command_eq hr _)
  · obtain rfl : ch = c.castLE (by decide) := Fin.ext hch
    obtain ⟨t, he, ht⟩ := runEvent_next (boundary (c.castLE (by decide))) hrun
    rw [boundary_running hr hstate] at ht
    exact ⟨t, he, ht⟩
  · obtain ⟨t, he, ht⟩ := runEvent_effect (boundary (c.castLE (by decide))) hrun
    have hc : c.castLE (by decide) = ch := Fin.ext hch.symm
    rw [hc, boundary_ending hstate] at ht
    generalize hm : (if c.val % 2 = 0 then Member.even else Member.odd) = m
    obtain rfl : ch = memberChannel p m := hm ▸ prop_memberChannel hch hp
    rw [normalEnd_eq hr] at ht
    refine ⟨t, he, ?_, fun c' hne => ?_, ?_, fun q hne => ?_, ?_, ?_⟩
    · rw [ht.chan, modPair_chan]
      exact State.modChan_chan_self (s := s) _ fun _ => Chan.reset
    · rw [ht.chan, modPair_chan]
      exact State.modChan_chan_ne s (Ne.symm hne) fun _ => Chan.reset
    · rw [ht.pair, State.modPair_pair_self]
      rfl
    · rw [ht.pair, State.modPair_pair_ne _ (Ne.symm hne)]
      rfl
    · rw [ht.faults]
      rfl
    · rw [ht.records]
      rfl
  · obtain ⟨t, he, ht⟩ := awakeEvent_next (deadExpiry p) hmode
    rw [deadExpiry_started hdead hwait hidle hother hr] at ht
    exact ⟨t, he, ht⟩
  · obtain ⟨t, he, ht⟩ := awakeEvent_next (deadExpiry p) hmode
    rw [deadExpiry_bare hdead hwait] at ht
    exact ⟨t, he, ht⟩

end Sys2Proof.Machine
end


section
/-! PROOFS. How a phase start, and a try of its gates, leave the order. -/

namespace Sys2Proof.Machine

/-! ### A lodged claim -/

/-- R55: a claim as it was lodged, less what a grant writes into it. -/
def Claim.asked (c : Claim) : Claim := { c with amount := none, share := none }

/-- R56: granting takes claims from the front of the waiting list and writes amount and share alone. -/
theorem grantFrom_asked (k : Nat) (waiting : List Claim) : ∀ granted : List Claim,
    waiting.map Claim.asked = ((grantFrom k granted waiting).2.2 ++ (grantFrom k granted waiting).2.1).map Claim.asked := by
  induction waiting with
  | nil => simp [grantFrom]
  | cons c rest ih =>
    intro granted
    cases hgrant : grantOf k (grantedTotal granted) c.demand with
    | none => rw [grantFrom_of_none hgrant]; rfl
    | some x =>
      obtain ⟨amount, share⟩ := x
      rw [grantFrom_of_some hgrant, List.map_cons, ih (granted ++ [{ c with amount := some amount, share := some share }])]
      rfl

theorem not_mem_of_unclaimed {n : Nat} {cs : List Claim} (h : claimed n cs = false) {q : Claim} (hq : q ∈ cs) :
    q.order ≠ n := by
  simp only [claimed, List.any_eq_false, beq_iff_eq] at h
  exact h q hq

/-- R58: after a grant the pump runs exactly if it ran before, on demand or on run-on. -/
theorem afterGrant_pump (startTime : Nat) (fl : Flow) :
    (fl.afterGrant startTime).pump = .running ↔ fl.pump = .running ∨ fl.pump = .runOn := by
  unfold Flow.afterGrant
  split <;> simp_all

section
variable {s : State} {n : Nat} {W : List Claim} {new : Claim} (hwait : s.flow.waiting = W ++ [new]) (hW : claimed n W = false)
include hwait hW

/-- R55, R56: of the claims that a try of granting makes, those of number n are the one at the tail of the waiting list. -/
theorem made_of_number {q : Claim} (hq : q ∈ (grantFrom s.flow.capacity s.flow.granted s.flow.waiting).2.2)
    (hn : q.order = n) : q.asked = new.asked := by
  have hasked : q.asked ∈ s.flow.waiting.map Claim.asked := by
    rw [grantFrom_asked s.flow.capacity s.flow.waiting s.flow.granted]
    exact List.mem_map_of_mem (List.mem_append_left _ hq)
  rw [hwait, List.map_append, List.mem_append] at hasked
  obtain hold | hlast := hasked
  · obtain ⟨w, hw, he⟩ := List.mem_map.1 hold
    exact absurd ((congrArg Claim.order he :).trans hn) (not_mem_of_unclaimed (q := w) hW hw)
  · simpa using hlast

variable (hnew : new.order = n) (hready : new.ready = false) (hG : claimed n s.flow.granted = false)
include hnew hready hG

/-- R55 to R58: what a try of granting makes of the claim at the tail of the waiting list: it stands in one of the lists, and
it is reported ready exactly if it is granted and ready. -/
theorem tryGrant_tail :
    (∃ q ∈ (tryGrant s).1.flow.waiting ++ (tryGrant s).1.flow.granted, q.order = n ∧ q.demand = new.demand) ∧
      (n ∈ (tryGrant s).2.map (·.1) ↔ ∃ q ∈ (tryGrant s).1.flow.granted, q.order = n ∧ q.ready = true) := by
  have hnoneready : ¬ ∃ q ∈ s.flow.granted, q.order = n ∧ q.ready = true :=
    fun ⟨q, hq, hn, _⟩ => not_mem_of_unclaimed hG hq hn
  cases hpumped : s.faults.flags.pumped with
  | true =>
    rw [tryGrant_of_pumped hpumped]
    refine ⟨⟨new, by simp [hwait], hnew, rfl⟩, ?_⟩
    simpa using hnoneready
  | false =>
    obtain ⟨hlist, -, -⟩ := grantFrom_made s.flow.capacity s.flow.waiting s.flow.granted
    have hasked := grantFrom_asked s.flow.capacity s.flow.waiting s.flow.granted
    have htail {q : Claim} := made_of_number hwait hW (q := q)
    rw [tryGrant_eq hpumped]
    generalize hg : grantFrom s.flow.capacity s.flow.granted s.flow.waiting = r at hlist hasked htail ⊢
    obtain ⟨all, rest, made⟩ := r
    dsimp only at hlist hasked htail ⊢
    have hflow : s.grantedFlow = { s.flow with granted := all, waiting := rest } := by rw [State.grantedFlow, hg]
    have hstands : ∃ q ∈ made ++ rest, q.asked = new.asked := by
      have hmem : new.asked ∈ s.flow.waiting.map Claim.asked := by simp [hwait]
      rw [hasked] at hmem
      obtain ⟨q, hq, he⟩ := List.mem_map.1 hmem
      exact ⟨q, hq, he⟩
    obtain ⟨q, hq, he⟩ := hstands
    have hqn : q.order = n := (congrArg Claim.order he :).trans hnew
    have hqd : q.demand = new.demand := (congrArg Claim.demand he :)
    by_cases hmade : made = []
    · subst hmade
      rw [List.append_nil] at hlist
      subst hlist
      rw [if_pos List.isEmpty_nil, hflow]
      refine ⟨⟨q, List.mem_append_left _ (by simpa using hq), hqn, hqd⟩, ?_⟩
      simpa using hnoneready
    rw [if_neg (by simpa using hmade)]
    obtain ⟨hgranted, hwaiting, -⟩ := afterGrant_granted (s.flowField (·.start)) s.grantedFlow
    dsimp only
    rw [hgranted, hwaiting, hflow]
    have hpump := afterGrant_pump (s.flowField (·.start)) s.grantedFlow
    rw [hflow] at hpump
    simp only [hpump]
    by_cases hruns : s.flow.pump = .running ∨ s.flow.pump = .runOn
    · rw [if_pos hruns, if_pos hruns, hlist]
      refine ⟨?_, ?_, ?_⟩
      · obtain hq | hq := List.mem_append.1 hq
        · exact ⟨{ q with ready := true }, List.mem_append_right _
            (List.mem_map.2 ⟨q, List.mem_append_right _ hq, rfl⟩), hqn, hqd⟩
        · exact ⟨q, List.mem_append_left _ hq, hqn, hqd⟩
      · simp only [claimShares, List.map_map, List.mem_map, Function.comp_apply]
        rintro ⟨x, hx, hxn⟩
        exact ⟨{ x with ready := true }, ⟨x, List.mem_append_right _ hx, rfl⟩, hxn, rfl⟩
      · simp only [claimShares, List.map_map, List.mem_map, Function.comp_apply]
        rintro ⟨_, ⟨x, hx, rfl⟩, hxn, -⟩
        obtain hx | hx := List.mem_append.1 hx
        · exact absurd hxn (not_mem_of_unclaimed (q := x) hG hx)
        · exact ⟨x, hx, hxn⟩
    · rw [if_neg hruns, if_neg hruns, hlist]
      refine ⟨?_, by simp, ?_⟩
      · refine ⟨q, ?_, hqn, hqd⟩
        simp only [List.mem_append] at hq ⊢
        tauto
      · rintro ⟨x, hx, hxn, hxr⟩
        obtain hx | hx := List.mem_append.1 hx
        · exact absurd hxn (not_mem_of_unclaimed hG hx)
        · have hfresh : x.ready = new.ready := (congrArg Claim.ready (htail hx hxn) :)
          rw [hxr, hready] at hfresh
          cases hfresh

end

/-! ### What an order is to do -/

/-- A record less its state and what blocks, stops or ends it. -/
def Order.plan (o : Order) : Order :=
  { o with state := .queued, outcome := none, pendResult := none, pendReason := none, blocking := 0, endedAt := none,
           result := none, reason := none, residual := none, noticed := false, endRank := 0 }

/-- A state in which a try of the gates leaves an order. -/
def OrderState.begun : OrderState → Bool
  | .blocked | .holdWait | .claiming | .moving | .ended => true
  | .queued | .stopping | .paused | .settling => false

/-- What a try of the gates makes of the record o: its plan stays. -/
structure Order.Begins (o y : Order) : Prop where
  plan : y.plan = o.plan
  state : y.state.begun = true
  outcome : o.outcome = none → y.outcome = none

namespace Order.Begins

variable {o y : Order}

theorem number (h : o.Begins y) : y.number = o.number := (congrArg Order.number h.plan :)
theorem group (h : o.Begins y) : y.group = o.group := (congrArg Order.group h.plan :)
theorem kind (h : o.Begins y) : y.kind = o.kind := (congrArg Order.kind h.plan :)
theorem binding (h : o.Begins y) : y.binding = o.binding := (congrArg Order.binding h.plan :)
theorem index (h : o.Begins y) : y.index = o.index := (congrArg Order.index h.plan :)
theorem phases (h : o.Begins y) : y.phases = o.phases := (congrArg Order.phases h.plan :)
theorem startedEdge (h : o.Begins y) : y.startedEdge = o.startedEdge := (congrArg Order.startedEdge h.plan :)
theorem movingTime (h : o.Begins y) : y.movingTime = o.movingTime := (congrArg Order.movingTime h.plan :)

theorem phase (h : o.Begins y) : y.phase? = o.phase? := by simp only [Order.phase?, h.phases, h.index]

/-- It asks the same of the interlock table, the bindings and the latch senses. -/
theorem asks (h : o.Begins y) (s : State) :
    s.askInterlock y = s.askInterlock o ∧ s.bindingOk y = s.bindingOk o ∧ s.latchSense y = s.latchSense o := by
  refine ⟨?_, ?_, ?_⟩
  · simp only [State.askInterlock, Order.cls?, h.phase, h.number]
  · simp only [State.bindingOk, h.binding, h.startedEdge]
  · simp only [State.latchSense, h.group]

end Order.Begins

/-- The records that number n names after and before a try of the gates, with what it says of the one after. -/
def State.begins (t : State) (o : Order) (P : Order → Prop) : Prop := ∃ y, t.order? o.number = some y ∧ o.Begins y ∧ P y

theorem State.begins_setOrder {s : State} {o : Order} {f : Order → Order} {P : Order → Prop}
    (ho : s.order? o.number = some o) (hnumber : ∀ x, (f x).number = x.number) (hf : o.Begins (f o)) (hP : P (f o)) :
    (setOrder o.number f s).begins o P :=
  ⟨f o, by rw [setOrder_order _ _ _ hnumber, ho]; simp, hf, hP⟩

/-! ### The gates -/

/-- R17: the order is left BLOCKED. -/
theorem enterBlocked_begins {s : State} {o : Order} (ho : s.order? o.number = some o) (e : Nat) :
    (enterBlocked o e s).begins o fun y => y.state = .blocked ∧ y.blocking = e :=
  State.begins_setOrder (s := s.modCtl o.group _) ho (by exact fun _ => rfl) ⟨rfl, rfl, id⟩ ⟨rfl, rfl⟩

theorem setOrder_ctl (n : Nat) (f : Order → Order) (s : State) (g : Group) : (setOrder n f s).ctl g = s.ctl g := by
  simp only [State.ctl, setOrder_seq, State.modOrder]

theorem enterBlocked_ctl (o : Order) (e : Nat) (s : State) :
    (enterBlocked o e s).ctl o.group = { s.ctl o.group with block := some (s.timing (·.block)), hold := none } := by
  rw [enterBlocked, setOrder_ctl, State.modCtl_ctl_self]

/-- R18: the order is left in HOLD_WAIT. -/
theorem enterHoldWait_begins {s : State} {o : Order} (ho : s.order? o.number = some o) :
    (enterHoldWait o s).begins o fun y => y.state = .holdWait :=
  State.begins_setOrder (s := s.modCtl o.group _) ho (by exact fun _ => rfl) ⟨rfl, rfl, id⟩ rfl

theorem enterHoldWait_ctl (o : Order) (s : State) :
    (enterHoldWait o s).ctl o.group = { s.ctl o.group with block := none, hold := some (s.timing (·.hold)) } := by
  rw [enterHoldWait, setOrder_ctl, State.modCtl_ctl_self]

/-- R19, R55: the order's claim is lodged and granting tried. -/
theorem lodge_begins {s : State} {o : Order} {p : Phase} {c : MoveClass} (ho : s.order? o.number = some o)
    (hp : o.phase? = some p) (hc : p.cls = some c) :
    let t := lodge o c (setOrder o.number (fun o => { o with state := .claiming }) s)
    t.begins o fun y =>
      (y.state = .claiming ∨ y.state = .moving) ∧
        (s.operator.estop = .clear → claimed o.number s.flow.waiting = false → claimed o.number s.flow.granted = false →
          (∃ q ∈ t.flow.waiting ++ t.flow.granted, q.order = o.number ∧ q.demand = s.claimDemand c) ∧
            (y.state = .moving ↔ ∃ q ∈ t.flow.granted, q.order = o.number ∧ q.ready = true)) := by
  let u := setOrder o.number (fun o => { o with state := .claiming }) s
  let v := enterClaim o.group o.number c u
  let y : Order := { o with state := .claiming }
  have hu : u.order? o.number = some y := by
    rw [setOrder_order _ _ _ (by exact fun _ => rfl), ho]; simp [y]
  have htried : (tryGrant v).1.order? o.number = some y :=
    (State.order_congr (s := u) (by simp [v]) _).trans hu
  have hclass : y.cls? ≠ none := by simp [y, Order.cls?, show ({ o with state := .claiming } : Order).phase? = some p from hp, hc]
  have hfinal := reportReady_claiming (o := y) rfl hclass (tryGrant v).2 _ htried
  refine ⟨_, hfinal, ?_, ?_, fun hclear hwaiting hgranted => ?_⟩
  · split <;> exact ⟨rfl, rfl, id⟩
  · split
    · exact .inr rfl
    · exact .inl rfl
  · have hflow : (lodge o c u).flow = (tryGrant v).1.flow := by
      show (reportReady (tryGrant v)).flow = _
      simp
    have hu' : u.flow = s.flow := by simp [u]
    have hv : v.flow.waiting = s.flow.waiting ++
        [{ group := o.group, order := o.number, demand := u.claimDemand c, amount := none, share := none, ready := false }] ∧
          v.flow.granted = s.flow.granted := by
      have hvdef : v = u.modFlow _ := if_pos (by simpa [u] using hclear)
      rw [hvdef]
      simp [State.modFlow, hu']
    obtain ⟨hstands, hready⟩ := tryGrant_tail hv.1 hwaiting rfl rfl (by rw [hv.2]; exact hgranted)
    have hdemand : u.claimDemand c = s.claimDemand c := by
      have hfit : u.fitment = s.fitment := by simp [u]
      simp only [State.claimDemand, State.flowField, hfit]
    rw [hflow]
    refine ⟨by rwa [hdemand] at hstands, Iff.trans ?_ hready⟩
    split <;> simp_all [y, Order.moves]

/-- R15: the record goes to MOVING. -/
theorem toMoving_begins {s : State} {o : Order} (ho : s.order? o.number = some o) :
    (setOrder o.number (fun o => { o with state := .moving }) s).begins o fun y => y.state = .moving :=
  State.begins_setOrder ho (by exact fun _ => rfl) ⟨rfl, rfl, id⟩ rfl

theorem beginRun_run (o : Order) (p : Phase) (c : MoveClass) (n : Nat) (s : State) :
    ∃ x, (beginRun o p c n s).run? o.group = some x ∧ x.order = o.number ∧ x.index = o.index ∧ x.fCmd = 0 ∧ x.share = n ∧
      x.stall = 0 :=
  ⟨_, State.setRun_run_self .., rfl, rfl, rfl, rfl, rfl⟩

theorem setOrder_run (n : Nat) (f : Order → Order) (s : State) (g : Group) : (setOrder n f s).run? g = s.run? g := by
  have h : (setOrder n f s).runs = s.runs := by simp
  simp only [State.run?, h]

theorem setOrder_chan (n : Nat) (f : Order → Order) (s : State) (c : Channel) : (setOrder n f s).chan c = s.chan c := by
  have h : (setOrder n f s).drive = s.drive := by simp
  simp only [State.chan, h]

/-- R120: the pulse that an order asks for, while the Drive Unit takes requests. -/
theorem pulseRequest_chan {d : Side} {s : State} {r : ChannelRec} (hrun : s.supply.mode = .run)
    (hclear : s.operator.estop = .clear) (hidle : (s.chan d.latch).state = .idle) (hr : s.chanRec? d.latch = some r) (n : Nat) :
    ((pulseRequest d n s).chan d.latch).state = .running ∧ ((pulseRequest d n s).chan d.latch).opening = 1000 ∧
      ((pulseRequest d n s).chan d.latch).requester = some n ∧ ((pulseRequest d n s).chan d.latch).pulse = some r.width := by
  have htakes : s.driveTakes = true := by simp [State.driveTakes, hrun, hclear]
  have heq : pulseRequest d n s = s.modChan d.latch fun x =>
      { x with state := .running, opening := Config.full, requester := some n,
               pulse := some (((s.chanRec? d.latch).map (·.width)).getD 0) } := if_pos ⟨htakes, hidle⟩
  rw [heq, State.modChan_chan_self, hr]
  exact ⟨rfl, rfl, rfl, rfl⟩

theorem Group.side_of_group {d : Side} : d.group.side? = some d := by cases d <;> rfl

/-- R15, R30, R90: a phase without a claim begins with the order MOVING. -/
theorem enterMoving_begins {s : State} {o : Order} {p : Phase} (hrun : s.supply.mode = .run)
    (ho : s.order? o.number = some o) (hkind : p.kind = .pumped → p.cls = none) (hcheck : p.kind ≠ .check) :
    (enterMoving o p s).begins o fun y => s.passesGates (enterMoving o p s) p y := by
  cases hk : p.kind with
  | check => exact absurd hk hcheck
  | pumped =>
    obtain ⟨y, hy, hb, -⟩ := toMoving_begins ho
    have heq : enterMoving o p s = setOrder o.number (fun o => { o with state := .moving }) s := by
      simp only [enterMoving, hk, hkind hk]
    rw [heq]
    exact ⟨y, hy, hb, by simp only [State.passesGates, hk, hkind hk]⟩
  | gravity =>
    cases hc : p.cls with
    | none =>
      obtain ⟨y, hy, hb, -⟩ := toMoving_begins ho
      have heq : enterMoving o p s = setOrder o.number (fun o => { o with state := .moving }) s := by
        simp only [enterMoving, hk, hc]
      rw [heq]
      exact ⟨y, hy, hb, by simp only [State.passesGates, hk, hc]⟩
    | some c =>
      let u := beginRun o p c Config.full s
      have hu : u.order? o.number = some o := (State.order_congr (s := s) (by simp [u]) _).trans ho
      obtain ⟨y, hy, hb, hmoving⟩ := toMoving_begins hu
      have heq : enterMoving o p s = setOrder o.number (fun o => { o with state := .moving }) u := by
        simp only [enterMoving, hk, hc, u]
      rw [heq]
      refine ⟨y, hy, hb, ?_⟩
      obtain ⟨x, hx, h1, h2, h3, h4, h5⟩ := beginRun_run o p c Config.full s
      simp only [State.passesGates, hk, hc]
      exact ⟨hmoving, x, by rw [setOrder_run, hb.group]; exact hx, h1.trans hb.number.symm, h2.trans hb.index.symm, h3, h4, h5⟩
  | pulse =>
    cases hside : o.group.side? with
    | none =>
      obtain ⟨y, hy, hb, hmoving⟩ := toMoving_begins ho
      have heq : enterMoving o p s = setOrder o.number (fun o => { o with state := .moving }) s := by
        simp only [enterMoving, hk, hside]
      rw [heq]
      refine ⟨y, hy, hb, ?_⟩
      simp only [State.passesGates, hk]
      refine ⟨hmoving, fun d r _ hgroup => ?_⟩
      rw [← hb.group, hgroup, Group.side_of_group] at hside
      cases hside
    | some d =>
      let u := pulseRequest d o.number s
      have hu : u.order? o.number = some o := (State.order_congr (s := s) (by simp [u]) _).trans ho
      obtain ⟨y, hy, hb, hmoving⟩ := toMoving_begins hu
      have heq : enterMoving o p s = setOrder o.number (fun o => { o with state := .moving }) u := by
        simp only [enterMoving, hk, hside, u]
      rw [heq]
      refine ⟨y, hy, hb, ?_⟩
      simp only [State.passesGates, hk]
      refine ⟨hmoving, fun d' r hclear hgroup hidle hr => ?_⟩
      rw [← hb.group, hgroup, Group.side_of_group] at hside
      obtain rfl : d' = d := by simpa using hside
      rw [setOrder_chan, hb.number]
      exact pulseRequest_chan hrun hclear hidle hr o.number

/-- R15, gate 4: what passing it makes of the order. -/
theorem gateFlow_begins {s : State} {o : Order} {p : Phase} (hrun : s.supply.mode = .run) (ho : s.order? o.number = some o)
    (hp : o.phase? = some p) (hcheck : p.kind ≠ .check) :
    (gateFlow o p s).begins o fun y =>
      claimed o.number s.flow.waiting = false → claimed o.number s.flow.granted = false →
        s.passesGates (gateFlow o p s) p y := by
  let u := s.modCtl o.group fun c => { c with block := none, hold := none }
  have hmoves (hkind : p.kind = .pumped → p.cls = none) (heq : gateFlow o p s = enterMoving o p u) :
      (gateFlow o p s).begins o fun y =>
        claimed o.number s.flow.waiting = false → claimed o.number s.flow.granted = false →
          s.passesGates (gateFlow o p s) p y := by
    obtain ⟨y, hy, hb, hpasses⟩ := enterMoving_begins (s := u) hrun ho hkind hcheck
    rw [heq]
    exact ⟨y, hy, hb, fun _ _ => hpasses⟩
  cases hk : p.kind with
  | check => exact absurd hk hcheck
  | pumped =>
    cases hc : p.cls with
    | none => exact hmoves (fun _ => hc) (by simp only [gateFlow, hk, hc, u])
    | some c =>
      have heq : gateFlow o p s = lodge o c (setOrder o.number (fun o => { o with state := .claiming }) u) := by
        simp only [gateFlow, hk, hc, u]
      obtain ⟨y, hy, hb, hstate, hclaim⟩ := lodge_begins (s := u) ho hp hc
      rw [heq]
      refine ⟨y, hy, hb, fun hwaiting hgranted => ?_⟩
      simp only [State.passesGates, hk, hc, hb.number]
      exact ⟨hstate, fun hclear => hclaim hclear hwaiting hgranted⟩
  | gravity => exact hmoves (fun h => by rw [hk] at h; cases h) (by simp only [gateFlow, hk, u])
  | pulse => exact hmoves (fun h => by rw [hk] at h; cases h) (by simp only [gateFlow, hk, u])

/-- R15, R17, R18: what a try of the gates from gate 2 makes of the order. -/
theorem gateInterlock_begins {s : State} {o : Order} {p : Phase} (hrun : s.supply.mode = .run)
    (ho : s.order? o.number = some o) (hp : o.phase? = some p) (hcheck : p.kind ≠ .check) :
    (gateInterlock o p s).begins o fun y =>
      claimed o.number s.flow.waiting = false → claimed o.number s.flow.granted = false →
        s.gateTwo (gateInterlock o p s) p y := by
  unfold State.gateTwo
  cases hask : s.askInterlock o with
  | some e =>
    have heq : gateInterlock o p s = enterBlocked o e s := by simp only [gateInterlock, hask]
    obtain ⟨y, hy, hb, hstate, hblocking⟩ := enterBlocked_begins ho e
    obtain ⟨hsame, -, -⟩ := hb.asks s
    rw [heq]
    refine ⟨y, hy, hb, fun _ _ => ?_⟩
    rw [hsame, hask, hb.group, enterBlocked_ctl]
    refine ⟨fun e' he => ?_, by simp, by simp, by simp⟩
    obtain rfl : e = e' := by simpa using he
    exact ⟨hstate, hblocking, rfl⟩
  | none =>
    cases hobstructed : s.isObstructed o.group with
    | true =>
      have heq : gateInterlock o p s = enterBlocked o 0 s := by simp only [gateInterlock, hask, hobstructed, if_true]
      obtain ⟨y, hy, hb, hstate, hblocking⟩ := enterBlocked_begins ho 0
      obtain ⟨hsame, -, -⟩ := hb.asks s
      rw [heq]
      refine ⟨y, hy, hb, fun _ _ => ?_⟩
      rw [hsame, hask, hb.group, hobstructed, enterBlocked_ctl]
      exact ⟨by simp, fun _ _ => ⟨hstate, hblocking, rfl⟩, by simp, by simp⟩
    | false =>
      cases hbinding : s.bindingOk o with
      | false =>
        have heq : gateInterlock o p s = enterHoldWait o s := by
          simp only [gateInterlock, hask, hobstructed, gateBinding, hbinding, Bool.false_eq_true, if_false]
        obtain ⟨y, hy, hb, hstate⟩ := enterHoldWait_begins ho
        obtain ⟨hsame, hsameBinding, -⟩ := hb.asks s
        rw [heq]
        refine ⟨y, hy, hb, fun _ _ => ?_⟩
        rw [hsame, hask, hb.group, hobstructed, hsameBinding, hbinding, enterHoldWait_ctl]
        exact ⟨by simp, by simp, fun _ _ _ => ⟨hstate, rfl⟩, by simp⟩
      | true =>
        have heq : gateInterlock o p s = gateFlow o p s := by
          simp only [gateInterlock, hask, hobstructed, gateBinding, hbinding, Bool.false_eq_true, if_false, if_true]
        obtain ⟨y, hy, hb, hpasses⟩ := gateFlow_begins hrun ho hp hcheck
        obtain ⟨hsame, hsameBinding, -⟩ := hb.asks s
        rw [heq]
        refine ⟨y, hy, hb, fun hwaiting hgranted => ?_⟩
        rw [hsame, hask, hb.group, hobstructed, hsameBinding, hbinding]
        exact ⟨by simp, by simp, by simp, fun _ _ _ => hpasses hwaiting hgranted⟩

end Sys2Proof.Machine
end


section
/-! PROOFS. What a phase start makes of its order, and which records it leaves alone. -/

namespace Sys2Proof.Machine

/-! ### Records that an operation leaves alone -/

/-- The record of number n stands in t as in s, unless its ready claim has taken it from CLAIMING to MOVING. -/
def State.HoldsIn (s t : State) (n : Nat) : Prop :=
  ∀ y : Order, s.order? n = some y → t.order? n = some y ∨ y.state = .claiming ∧ t.order? n = some y.moves

/-- A record that is not in CLAIMING stands as it was. -/
theorem State.HoldsIn.order {s t : State} {n : Nat} {y : Order} (h : s.HoldsIn t n) (hy : y.state ≠ .claiming)
    (hs : s.order? n = some y) : t.order? n = some y :=
  (h y hs).resolve_right fun hclaiming => hy hclaiming.1

theorem State.HoldsIn.trans {s t u : State} {n : Nat} (h : s.HoldsIn t n) (h' : t.HoldsIn u n) : s.HoldsIn u n := by
  intro y hs
  obtain ht | ⟨hclaiming, ht⟩ := h y hs
  · exact h' y ht
  · exact .inr ⟨hclaiming, h'.order (by simp [Order.moves]) ht⟩

theorem State.HoldsIn.of_orders {s t : State} (h : t.seq.orders = s.seq.orders) (n : Nat) : s.HoldsIn t n :=
  fun _ hs => .inl ((State.order_congr h n).trans hs)

theorem setOrder_holds {m n : Nat} (hne : n ≠ m) {f : Order → Order} (hnumber : ∀ x, (f x).number = x.number) (s : State) :
    s.HoldsIn (setOrder m f s) n := fun y hs => .inl <| by
  rw [setOrder_order _ _ _ hnumber, hs]
  simp [hne]

/-- R20: a report of readiness reaches orders in CLAIMING alone. -/
theorem onReady_holds (m share n : Nat) (s : State) : s.HoldsIn (onReady m share s) n := by
  intro y hs
  by_cases hclaiming : y.state = .claiming
  · obtain h | ⟨o, ho, -, h⟩ := onReady_order m share n s
    · exact .inl (h.trans hs)
    · obtain rfl : y = o := by simpa [hs] using ho
      exact .inr ⟨hclaiming, h⟩
  left
  unfold onReady
  cases ho : s.order? m with
  | none => exact hs
  | some o =>
    by_cases hmn : n = m
    · subst hmn
      obtain rfl : o = y := by simpa [ho] using hs
      simp only [decide_eq_false hclaiming]
      exact hs
    · dsimp only
      split
      · exact (setOrder_holds hmn (by exact fun _ => rfl) _).order hclaiming ((State.order_congr (by simp) n).trans hs)
      · exact hs

theorem reportReady_holds (n : Nat) (xs : List (Nat × Nat)) : ∀ s : State, s.HoldsIn (reportReady (s, xs)) n := by
  induction xs with
  | nil => exact fun s => .of_orders rfl n
  | cons x xs ih => exact fun s => (onReady_holds x.1 x.2 n s).trans (ih (onReady x.1 x.2 s))

theorem grantNow_holds (n : Nat) (s : State) : s.HoldsIn (grantNow s) n :=
  (State.HoldsIn.of_orders (t := (tryGrant s).1) (by simp) n).trans (reportReady_holds n (tryGrant s).2 (tryGrant s).1)

theorem withdraw_holds (m n : Nat) (s : State) : s.HoldsIn (withdraw m s) n :=
  (State.HoldsIn.of_orders (t := (withdrawClaim m s).1) (by simp) n).trans
    (reportReady_holds n (withdrawClaim m s).2 (withdrawClaim m s).1)

theorem reportCompletion_holds (o : Order) (n : Nat) (s : State) : s.HoldsIn (reportCompletion o s) n := by
  have hremoved : s.HoldsIn (removeFaults (recovers o) s) n := .of_orders (by simp) n
  unfold reportCompletion reportCleared
  dsimp only
  split
  · exact (hremoved.trans (grantNow_holds n _)).trans (.of_orders (by simp [reportFaultScene]) n)
  · exact hremoved.trans (.of_orders (by simp [reportFaultScene]) n)

/-- R32: the control timers and the run of an order that ends are stopped if it was active. -/
def State.stopped (s : State) (o : Order) : State := if o.state.isActive then stopTimers o.group (endRun o.group s) else s

/-- R32: the state once the record of number n has reached ENDED. -/
def State.reachesEnd (s : State) (n : Nat) (o : Order) (res : OrderResult) (why : Option Reason) : State :=
  (setOrder n (fun x => x.atEnd res why (s.stopped o).supply.time (s.stopped o).skew (s.stopped o).seq.endRank)
    (s.stopped o)).noticeOrder

theorem markEnded_eq {s : State} {n : Nat} {o : Order} (ho : s.order? n = some o) (res : OrderResult) (why : Option Reason) :
    markEnded n res why s =
      if res = .completed then reportCompletion o (s.reachesEnd n o res why) else s.reachesEnd n o res why := by
  simp only [markEnded, ho]
  rfl

theorem State.stopped_orders (s : State) (o : Order) : (s.stopped o).seq.orders = s.seq.orders := by
  unfold State.stopped
  split <;> simp [stopTimers]

theorem reachesEnd_order {s : State} {n : Nat} {o : Order} (ho : s.order? n = some o) (res : OrderResult)
    (why : Option Reason) :
    ∃ now skew rank, (s.reachesEnd n o res why).order? n = some (o.atEnd res why now skew rank) := by
  refine ⟨(s.stopped o).supply.time, (s.stopped o).skew, (s.stopped o).seq.endRank,
    (setOrder_order _ _ _ (by exact fun _ => rfl)).trans ?_⟩
  rw [State.order_congr (s.stopped_orders o), ho]
  simp

/-- R32: the end of one order leaves the others alone. -/
theorem markEnded_holds {m n : Nat} (hne : n ≠ m) (res : OrderResult) (why : Option Reason) (s : State) :
    s.HoldsIn (markEnded m res why s) n := by
  cases ho : s.order? m with
  | none =>
    have heq : markEnded m res why s = s := by simp only [markEnded, ho]
    rw [heq]
    exact .of_orders rfl n
  | some o =>
    have hends : s.HoldsIn (s.reachesEnd m o res why) n :=
      (State.HoldsIn.of_orders (s.stopped_orders o) n).trans (setOrder_holds hne (by exact fun _ => rfl) (s.stopped o))
    rw [markEnded_eq ho]
    split
    · exact hends.trans (reportCompletion_holds o n _)
    · exact hends

/-- R32: the record that has reached ENDED. -/
theorem markEnded_order {s : State} {n : Nat} {o : Order} (ho : s.order? n = some o) (res : OrderResult)
    (why : Option Reason) :
    ∃ now skew rank, (markEnded n res why s).order? n = some (o.atEnd res why now skew rank) := by
  obtain ⟨now, skew, rank, h⟩ := reachesEnd_order ho res why
  refine ⟨now, skew, rank, ?_⟩
  rw [markEnded_eq ho]
  split
  · exact (reportCompletion_holds o n _).order (by simp [Order.atEnd]) h
  · exact h

/-! ### Records that a phase start leaves alone -/

theorem modCtl_holds (g : Group) (f : GroupCtl → GroupCtl) (s : State) (n : Nat) : s.HoldsIn (s.modCtl g f) n :=
  .of_orders rfl n

theorem lodge_holds (o : Order) (c : MoveClass) (n : Nat) (s : State) : s.HoldsIn (lodge o c s) n :=
  (State.HoldsIn.of_orders (t := enterClaim o.group o.number c s) (by simp) n).trans (grantNow_holds n _)

section
variable {o : Order} {n : Nat} (hne : n ≠ o.number)
include hne

theorem enterBlocked_holds (e : Nat) (s : State) : s.HoldsIn (enterBlocked o e s) n :=
  (modCtl_holds o.group _ s n).trans (setOrder_holds hne (by exact fun _ => rfl) _)

theorem enterHoldWait_holds (s : State) : s.HoldsIn (enterHoldWait o s) n :=
  (modCtl_holds o.group _ s n).trans (setOrder_holds hne (by exact fun _ => rfl) _)

theorem enterMoving_holds (p : Phase) (s : State) : s.HoldsIn (enterMoving o p s) n := by
  have hmoves (u : State) (hu : u.seq.orders = s.seq.orders) :
      s.HoldsIn (setOrder o.number (fun o => { o with state := .moving }) u) n :=
    (State.HoldsIn.of_orders hu n).trans (setOrder_holds hne (by exact fun _ => rfl) u)
  unfold enterMoving
  split
  · exact hmoves _ (by simp)
  · exact hmoves _ (by simp)
  · exact hmoves s rfl
  · exact hmoves s rfl
  · split
    · exact hmoves _ (by simp)
    · exact hmoves s rfl
  · dsimp only
    split
    · exact (hmoves s rfl).trans (markEnded_holds hne _ _ _)
    · exact (hmoves s rfl).trans (modCtl_holds _ _ _ n)

theorem gateFlow_holds (p : Phase) (s : State) : s.HoldsIn (gateFlow o p s) n := by
  unfold gateFlow
  dsimp only
  split
  · exact ((modCtl_holds o.group _ s n).trans (setOrder_holds hne (by exact fun _ => rfl) _)).trans (lodge_holds o _ n _)
  all_goals exact (modCtl_holds o.group _ s n).trans (enterMoving_holds hne p _)

theorem gateInterlock_holds (p : Phase) (s : State) : s.HoldsIn (gateInterlock o p s) n := by
  unfold gateInterlock gateBinding
  split
  · exact enterBlocked_holds hne _ s
  · split
    · exact enterBlocked_holds hne 0 s
    · split
      · exact gateFlow_holds hne p s
      · exact enterHoldWait_holds hne s

end

/-- R106: it leaves its plan but for the first phase and two of its flags. -/
theorem State.fixTilt_keeps (s : State) (o : Order) :
    (s.fixTilt o).group = o.group ∧ (s.fixTilt o).kind = o.kind ∧ (s.fixTilt o).binding = o.binding ∧
      (s.fixTilt o).index = o.index ∧ (s.fixTilt o).state = o.state ∧ (s.fixTilt o).startedEdge = o.startedEdge ∧
      (s.fixTilt o).movingTime = o.movingTime ∧ (s.fixTilt o).outcome = o.outcome ∧
      (s.fixTilt o).phases.length = o.phases.length ∧ (s.fixTilt o).submittedAt = o.submittedAt ∧
      (s.fixTilt o).limit = o.limit := by
  unfold State.fixTilt
  split
  · split
    · simp_all
    next h => simp [h]
  · simp

theorem State.fixTilt_of_kind {o : Order} (h : o.kind ≠ .tiltTo) (s : State) : s.fixTilt o = o := if_neg h

/-- R3: the state in which an order's phase start tries its gates. -/
def State.tiltFixed (s : State) (n : Nat) (o : Order) : State := s.modOrder n fun _ => s.fixTilt o

theorem State.tiltFixed_order {s : State} {n : Nat} {o : Order} (ho : s.order? n = some o) :
    (s.tiltFixed n o).order? n = some (s.fixTilt o) := by
  have hn : (s.fixTilt o).number = n := (fixTilt_same s o).1.trans (State.mem_of_order ho).2
  have hkeep : ((fun x : Order => x.number == n) ∘ fun x => if x.number = n then s.fixTilt o else x) =
      fun x => x.number == n := by
    funext x
    simp only [Function.comp_apply]
    split
    next h => simp [h, hn]
    · rfl
  simp only [State.order?, State.tiltFixed, State.modOrder, List.find?_map, hkeep]
  rw [show s.seq.orders.find? (fun x => x.number == n) = some o from ho]
  simp [(State.mem_of_order ho).2]

theorem State.tiltFixed_holds {s : State} {n m : Nat} {o : Order} (ho : s.order? n = some o) (hne : m ≠ n) :
    s.HoldsIn (s.tiltFixed n o) m := by
  intro y hs
  left
  have hn : (s.fixTilt o).number = n := (fixTilt_same s o).1.trans (State.mem_of_order ho).2
  have hkeep : ((fun x : Order => x.number == m) ∘ fun x => if x.number = n then s.fixTilt o else x) =
      fun x => x.number == m := by
    funext x
    simp only [Function.comp_apply]
    split
    next h => simp [h, hn]
    · rfl
  simp only [State.order?, State.tiltFixed, State.modOrder, List.find?_map, hkeep]
  rw [show s.seq.orders.find? (fun x => x.number == m) = some y from hs]
  simp [(State.mem_of_order hs).2, hne]

/-- R15, R16, R31: a phase start of the record o at its phase p. -/
theorem phaseStart_eq {s : State} {n : Nat} {o : Order} {p : Phase} (ho : s.order? n = some o)
    (hp : (s.fixTilt o).phase? = some p) :
    phaseStart n s =
      if (s.tiltFixed n o).inhibited (s.fixTilt o) then markEnded n .failed (some .inhibited) (s.tiltFixed n o)
      else if p.kind = .check then enterMoving (s.fixTilt o) p (s.tiltFixed n o)
      else gateInterlock (s.fixTilt o) p (s.tiltFixed n o) := by
  have hkind :
      (match p.kind with
        | .check => enterMoving (s.fixTilt o) p (s.tiltFixed n o)
        | .pumped | .gravity | .pulse => gateInterlock (s.fixTilt o) p (s.tiltFixed n o)) =
        if p.kind = .check then enterMoving (s.fixTilt o) p (s.tiltFixed n o)
        else gateInterlock (s.fixTilt o) p (s.tiltFixed n o) := by
    cases p.kind <;> rfl
  rw [← hkind]
  simp only [phaseStart, ho, hp]
  rfl

/-- R15: the phase start of one order leaves the others alone, but for those that its claim makes ready. -/
theorem phaseStart_holds {n m : Nat} (hne : m ≠ n) (s : State) : s.HoldsIn (phaseStart n s) m := by
  cases ho : s.order? n with
  | none =>
    have heq : phaseStart n s = s := by simp only [phaseStart, ho]
    rw [heq]
    exact .of_orders rfl m
  | some o =>
    have hn : (s.fixTilt o).number = n := (fixTilt_same s o).1.trans (State.mem_of_order ho).2
    have hfixed := State.tiltFixed_holds ho hne
    cases hp : (s.fixTilt o).phase? with
    | none =>
      have heq : phaseStart n s = s.tiltFixed n o := by simp only [phaseStart, ho, hp, State.tiltFixed]
      rw [heq]
      exact hfixed
    | some p =>
      rw [phaseStart_eq ho hp]
      split
      · exact hfixed.trans (markEnded_holds hne _ _ _)
      · split
        · exact hfixed.trans (enterMoving_holds (hn ▸ hne) p _)
        · exact hfixed.trans (gateInterlock_holds (hn ▸ hne) p _)

/-! ### What a phase start makes of its order -/

/-- R16: an inhibit applies to an order at its phase. -/
theorem State.inhibited_iff {s : State} {o : Order} {p : Phase} (hp : o.phase? = some p) :
    s.inhibited o = true ↔ s.inhibits p o := by
  simp [State.inhibited, State.inhibits, Order.phaseIs, hp]

theorem State.inhibits_of_begins {o y : Order} (h : o.Begins y) (s : State) (p : Phase) : s.inhibits p y ↔ s.inhibits p o := by
  simp only [State.inhibits, h.group, h.kind]

/-- R31: a CHECK phase completes its order on an active latch sense, and else starts the latch check timer. -/
theorem enterMoving_check {s : State} {o : Order} {p : Phase} (ho : s.order? o.number = some o) (hcheck : p.kind = .check) :
    (enterMoving o p s).begins o fun y =>
      (s.latchSense o = true → y.state = .ended ∧ y.result = some .completed ∧ y.reason = none) ∧
        (s.latchSense o = false →
          y.state = .moving ∧ ((enterMoving o p s).ctl o.group).latchCheck = some (s.timing (·.latchCheck))) := by
  let u := setOrder o.number (fun o => { o with state := .moving }) s
  have hu : u.order? o.number = some { o with state := .moving } := by
    rw [setOrder_order _ _ _ (by exact fun _ => rfl), ho]; simp
  have hsense : u.latchSense o = s.latchSense o := by
    have hoperator : u.operator = s.operator := by simp [u]
    simp only [State.latchSense, State.level, State.line, hoperator]
  have heq : enterMoving o p s =
      if u.latchSense o then markEnded o.number .completed none u
      else u.modCtl o.group fun c => { c with latchCheck := some (u.timing (·.latchCheck)) } := by
    simp only [enterMoving, hcheck]
    rfl
  rw [heq, hsense]
  cases hlatch : s.latchSense o with
  | true =>
    obtain ⟨now, skew, rank, hy⟩ := markEnded_order hu .completed none
    exact ⟨_, hy, ⟨rfl, rfl, fun _ => rfl⟩, fun _ => ⟨rfl, rfl, rfl⟩, fun h => by cases h⟩
  | false =>
    refine ⟨{ o with state := .moving }, hu, ⟨rfl, rfl, id⟩, ⟨fun h => (by cases h), fun _ => ⟨rfl, ?_⟩⟩⟩
    rw [if_neg (by simp), State.modCtl_ctl_self]
    have hfit : u.fitment = s.fitment := by simp [u]
    simp only [State.timing, hfit]

/-- R15, R16, R31: what a phase start makes of its order. -/
theorem phaseStart_begins {s : State} {n : Nat} {o : Order} {p : Phase} (hrun : s.supply.mode = .run)
    (ho : s.order? n = some o) (hp : (s.fixTilt o).phase? = some p) :
    (phaseStart n s).begins (s.fixTilt o) fun y =>
      claimed n s.flow.waiting = false → claimed n s.flow.granted = false →
        (s.tiltFixed n o).startsPhase (phaseStart n s) p y := by
  have hn : (s.fixTilt o).number = n := (fixTilt_same s o).1.trans (State.mem_of_order ho).2
  have hfixed : (s.tiltFixed n o).order? (s.fixTilt o).number = some (s.fixTilt o) := by
    rw [hn]
    exact State.tiltFixed_order ho
  have hinhibited := State.inhibited_iff (s := s.tiltFixed n o) hp
  rw [phaseStart_eq ho hp]
  by_cases hinhibits : (s.tiltFixed n o).inhibits p (s.fixTilt o)
  · rw [if_pos (hinhibited.2 hinhibits)]
    obtain ⟨now, skew, rank, hy⟩ := markEnded_order hfixed .failed (some .inhibited)
    rw [hn] at hy
    have hb : (s.fixTilt o).Begins ((s.fixTilt o).atEnd .failed (some .inhibited) now skew rank) := ⟨rfl, rfl, fun _ => rfl⟩
    refine ⟨_, hn ▸ hy, hb, fun _ _ => ⟨fun _ => ⟨rfl, rfl, rfl⟩, fun h => absurd hinhibits h, fun h => absurd hinhibits h⟩⟩
  · rw [if_neg (fun h => hinhibits (hinhibited.1 h))]
    by_cases hcheck : p.kind = .check
    · rw [if_pos hcheck]
      obtain ⟨y, hy, hb, hsense, hno⟩ := enterMoving_check hfixed hcheck
      obtain ⟨-, -, hlatch⟩ := hb.asks (s.tiltFixed n o)
      refine ⟨y, hy, hb, fun _ _ => ⟨fun h => absurd ((State.inhibits_of_begins hb _ _).1 h) hinhibits,
        fun _ h => absurd hcheck h, fun _ _ => ?_⟩⟩
      rw [hlatch, hb.group]
      exact ⟨hsense, hno⟩
    · rw [if_neg hcheck]
      obtain ⟨y, hy, hb, hgates⟩ := gateInterlock_begins (s := s.tiltFixed n o) hrun hfixed hp hcheck
      rw [hn] at hgates
      exact ⟨y, hy, hb, fun hwaiting hgranted => ⟨fun h => absurd ((State.inhibits_of_begins hb _ _).1 h) hinhibits,
        fun _ _ => hgates hwaiting hgranted, fun _ h => absurd h hcheck⟩⟩

end Sys2Proof.Machine
end


section
/-! PROOFS. What a phase start reads of a state and leaves in one; the next phase of an order, with the end of a latch pulse
(O56). -/

namespace Sys2Proof.Machine

/-! ### What the gates read -/

/-- The two states answer the questions of order n alike: what the inhibits, the interlock table, the bindings, the latch senses
and the gates read is the same. -/
structure State.SeesAs (u s : State) (n : Nat) : Prop where
  fitment : u.fitment = s.fitment
  vehicle : u.vehicle = s.vehicle
  operator : u.operator = s.operator
  health : ∀ l, (u.lamp l).health = (s.lamp l).health
  referenced : ∀ a, (u.tracker a).referenced = (s.tracker a).referenced
  pos : ∀ a, (u.tracker a).pos = (s.tracker a).pos
  proven : u.drive.prove.overall = s.drive.prove.overall
  chan : ∀ c, (u.chan c).state = (s.chan c).state
  flags : u.faults.flags = s.faults.flags
  admits : ∀ g k, u.faults.admits g k = s.faults.admits g k
  others : ∀ g, u.idleBut g n = s.idleBut g n

namespace State.SeesAs

variable {u v s : State} {n : Nat}

theorem trans (h : u.SeesAs v n) (h' : v.SeesAs s n) : u.SeesAs s n where
  fitment := h.fitment.trans h'.fitment
  vehicle := h.vehicle.trans h'.vehicle
  operator := h.operator.trans h'.operator
  health l := (h.health l).trans (h'.health l)
  referenced a := (h.referenced a).trans (h'.referenced a)
  pos a := (h.pos a).trans (h'.pos a)
  proven := h.proven.trans h'.proven
  chan c := (h.chan c).trans (h'.chan c)
  flags := h.flags.trans h'.flags
  admits g k := (h.admits g k).trans (h'.admits g k)
  others g := (h.others g).trans (h'.others g)

theorem level (h : u.SeesAs s n) (l : Line) : u.level l = s.level l := by simp only [State.level, State.line, h.operator]

/-- R45: every term has the same value. -/
theorem plainTerm (h : u.SeesAs s n) (t : Term) : u.plainTerm n t = s.plainTerm n t := by
  have hlamps (p : LampPair) : u.lampsHealthy p = s.lampsHealthy p := by
    simp only [State.lampsHealthy, State.pairMode, h.health, h.fitment]
    rfl
  simp only [State.plainTerm, h.vehicle, h.referenced, h.pos, h.others, h.level, hlamps, h.proven]

theorem askInterlock (h : u.SeesAs s n) {y : Order} (hy : y.number = n) : u.askInterlock y = s.askInterlock y := by
  subst hy
  have hterm : u.termHolds y.number = s.termHolds y.number := by
    funext t
    rw [State.termHolds, State.termHolds, h.plainTerm]
  have hentry (e : InterlockRec) : u.entryHolds y.number e = s.entryHolds y.number e := by
    rw [State.entryHolds, State.entryHolds, hterm]
  simp only [State.askInterlock, State.firstFailing, h.fitment, hentry]

theorem inhibits (h : u.SeesAs s n) (p : Phase) (y : Order) : u.inhibits p y ↔ s.inhibits p y := by
  simp only [State.inhibits, h.flags, h.admits]

theorem passesGates (h : u.SeesAs s n) (t : State) (p : Phase) (y : Order) : u.passesGates t p y ↔ s.passesGates t p y := by
  have hdemand (c : MoveClass) : u.claimDemand c = s.claimDemand c := by
    simp only [State.claimDemand, State.flowField, h.fitment]
  simp only [State.passesGates, hdemand, h.operator, h.chan, State.chanRec?, h.fitment]

theorem gateTwo (h : u.SeesAs s n) (t : State) (p : Phase) {y : Order} (hy : y.number = n) :
    u.gateTwo t p y ↔ s.gateTwo t p y := by
  have hobstructed (g : Group) : u.isObstructed g = s.isObstructed g := by simp only [State.isObstructed, h.operator]
  have hbinding : u.bindingOk y = s.bindingOk y := by
    have hhand (i : Fin 2) : u.hand i = s.hand i := by rw [State.hand, State.hand, h.operator]
    unfold State.bindingOk
    split <;> simp only [h.level, hhand]
  have htiming (f : TimingRec → Nat) : u.timing f = s.timing f := by simp only [State.timing, h.fitment]
  simp only [State.gateTwo, h.askInterlock hy, hobstructed, hbinding, htiming, h.passesGates]

theorem startsPhase (h : u.SeesAs s n) (t : State) (p : Phase) {y : Order} (hy : y.number = n) :
    u.startsPhase t p y ↔ s.startsPhase t p y := by
  have hsense : u.latchSense y = s.latchSense y := by simp only [State.latchSense, h.level]
  have htiming (f : TimingRec → Nat) : u.timing f = s.timing f := by simp only [State.timing, h.fitment]
  simp only [State.startsPhase, h.inhibits, h.gateTwo t p hy, hsense, htiming]

end State.SeesAs

/-- R47: a change of the record of number n alone leaves every group as idle as it was for that order. -/
theorem idleBut_modOrder (n : Nat) (f : Order → Order) (hf : ∀ x, x.number = n → (f x).number = n) (s : State) (g : Group) :
    (s.modOrder n f).idleBut g n = s.idleBut g n := by
  simp only [State.idleBut, State.modOrder, List.all_map]
  refine congrArg (List.all s.seq.orders) (funext fun x => ?_)
  simp only [Function.comp_apply]
  split
  next h => simp [h, hf x h]
  · rfl

theorem State.tiltFixed_sees {s : State} {n : Nat} {o : Order} (ho : s.order? n = some o) : (s.tiltFixed n o).SeesAs s n where
  fitment := rfl
  vehicle := rfl
  operator := rfl
  health _ := rfl
  referenced _ := rfl
  pos _ := rfl
  proven := rfl
  chan _ := rfl
  flags := rfl
  admits _ _ := rfl
  others := idleBut_modOrder n _ (fun _ _ => (fixTilt_same s o).1.trans (State.mem_of_order ho).2) s

/-! ### What the gates leave -/

/-- What a phase start leaves of a group's timers, runs, claims and channels is the same in both states. -/
structure State.ServesAs (t' t : State) (g : Group) : Prop where
  ctl : t'.ctl g = t.ctl g
  run : t'.run? g = t.run? g
  waiting : t'.flow.waiting = t.flow.waiting
  granted : t'.flow.granted = t.flow.granted
  chan : ∀ c, t'.chan c = t.chan c

theorem State.ServesAs.startsPhase {t' t : State} {y : Order} (h : t'.ServesAs t y.group) (u : State) (p : Phase) :
    u.startsPhase t' p y ↔ u.startsPhase t p y := by
  simp only [State.startsPhase, State.gateTwo, State.passesGates, h.ctl, h.run, h.waiting, h.granted, h.chan]

theorem State.ServesAs.gateTwo {t' t : State} {y : Order} (h : t'.ServesAs t y.group) (u : State) (p : Phase) :
    u.gateTwo t' p y ↔ u.gateTwo t p y := by
  simp only [State.gateTwo, State.passesGates, h.ctl, h.run, h.waiting, h.granted, h.chan]

theorem State.ServesAs.passesGates {t' t : State} {y : Order} (h : t'.ServesAs t y.group) (u : State) (p : Phase) :
    u.passesGates t' p y ↔ u.passesGates t p y := by
  simp only [State.passesGates, h.run, h.waiting, h.granted, h.chan]

/-- What passes the gates has not ended, unless the phase has no class. -/
theorem State.passesGates_of_ended {u t t' : State} {p : Phase} {y : Order} (hy : y.state = .ended)
    (h : u.passesGates t p y) : u.passesGates t' p y := by
  unfold State.passesGates at h ⊢
  split at h
  · simp [hy] at h
  · simp [hy] at h
  · simp [hy] at h
  · trivial

/-- What a phase start says of an order that it ended does not depend on the rest of the state it leaves. -/
theorem State.startsPhase_of_ended {u t t' : State} {p : Phase} {y : Order} (hy : y.state = .ended)
    (h : u.startsPhase t p y) : u.startsPhase t' p y := by
  obtain ⟨hinhibited, hgates, hsense⟩ := h
  refine ⟨hinhibited, fun hno hcheck => ?_, fun hno hcheck => ?_⟩
  · obtain ⟨h1, h2, h3, h4⟩ := hgates hno hcheck
    refine ⟨fun e he => ?_, fun ha ho => ?_, fun ha ho hb => ?_, fun ha ho hb => State.passesGates_of_ended hy (h4 ha ho hb)⟩
    · rw [(h1 e he).1] at hy; cases hy
    · rw [(h2 ha ho).1] at hy; cases hy
    · rw [(h3 ha ho hb).1] at hy; cases hy
  · obtain ⟨h1, h2⟩ := hsense hno hcheck
    refine ⟨h1, fun hl => ?_⟩
    rw [(h2 hl).1] at hy; cases hy

/-- The noticed field is none of what a phase start says of a record. -/
theorem State.startsPhase_unmarked (u t : State) (p : Phase) (y : Order) :
    u.startsPhase t p y.unmarked ↔ u.startsPhase t p y := Iff.rfl

theorem State.Matches.serves {t u : State} (h : t.Matches u) (g : Group) : t.ServesAs u g where
  ctl := h.ctl g
  run := h.run g
  waiting := by rw [h.flow]
  granted := by rw [h.flow]
  chan := h.chan

/-! ### Going on in a group -/

theorem advanceGroup_of_active {g : Group} {s : State} {y : Order} (h : s.active? g = some y) : advanceGroup g s = s := by
  unfold advanceGroup startQueued
  simp [h]

/-- An active record of the group is found where its active pointer looks. -/
theorem State.exists_active {s : State} {y : Order} (hy : y ∈ s.seq.orders) (hstate : y.state.isActive = true) :
    ∃ x, s.active? y.group = some x := by
  cases h : s.active? y.group with
  | some x => exact ⟨x, rfl⟩
  | none => exact absurd (List.find?_eq_none.1 h y hy) (by simp [hstate])

theorem State.mem_of_oldestQueued {s : State} {g : Group} {q : Order} (h : s.oldestQueued? g = some q) :
    q ∈ s.seq.orders ∧ q.group = g ∧ q.state = .queued := by
  have hp := List.find?_some h
  simp only [Bool.and_eq_true, decide_eq_true_eq] at hp
  exact ⟨List.mem_of_find?_eq_some h, hp.1, hp.2⟩

/-- R6: with distinct numbers, the number of a record occurs once. -/
theorem State.count_of_mem {s : State} {x : Order} (hnodup : s.numbers.Nodup) (hx : x ∈ s.seq.orders) :
    s.numbers.count x.number = 1 := List.count_eq_one_of_mem hnodup (List.mem_map_of_mem hx)

/-- R6: a number that occurs once names its record. -/
theorem State.order_of_count {s : State} {x : Order} (hx : x ∈ s.seq.orders) (hone : s.numbers.count x.number = 1) :
    s.order? x.number = some x := by
  unfold State.numbers at hone
  unfold State.order?
  generalize s.seq.orders = os at hx hone
  induction os with
  | nil => exact absurd hx List.not_mem_nil
  | cons a os ih =>
    rw [List.map_cons, List.count_cons] at hone
    by_cases ha : a.number = x.number
    · rw [List.find?_cons_of_pos (by simpa using ha)]
      have hnone : x.number ∉ os.map (·.number) := List.count_eq_zero.1 (by simpa [ha] using hone)
      obtain rfl | hx := List.mem_cons.1 hx
      · rfl
      · exact absurd (List.mem_map_of_mem hx) hnone
    · rw [List.find?_cons_of_neg (by simpa using ha)]
      obtain rfl | hx := List.mem_cons.1 hx
      · exact absurd rfl ha
      · exact ih hx (by simpa [ha] using hone)

/-- R14: what the starts of queued records leave alone: a record that is neither QUEUED nor in CLAIMING. -/
theorem startQueued_holds (g : Group) {n : Nat} {y : Order} (hqueued : y.state ≠ .queued) (hclaiming : y.state ≠ .claiming)
    (k : Nat) : ∀ s : State, s.numbers.count n = 1 → s.order? n = some y → (startQueued g k s).order? n = some y := by
  induction k with
  | zero => exact fun s _ hs => hs
  | succ k ih =>
    intro s hone hs
    unfold startQueued
    split
    · exact hs
    next hfree =>
      have hnone : s.active? g = none := by simpa using hfree
      split
      · exact (State.order_congr (by simp) n).trans hs
      next q hq =>
        split
        · exact hs
        · obtain ⟨hmem, -, hstate⟩ := State.mem_of_oldestQueued hq
          have hne : n ≠ q.number := by
            rintro rfl
            obtain rfl : q = y := by simpa [State.order_of_count hmem hone] using hs
            exact hqueued hstate
          have hkeeps := phaseStart_keeps (G := True) (State.live_of_oldestQueued hnone hq)
          exact ih _ (hkeeps.numbers ▸ hone) ((phaseStart_holds hne s).order hclaiming hs)

/-- A record that a phase start has begun is neither QUEUED nor held for a group that goes on: it is active, or it has
ended. -/
theorem OrderState.begun_cases {x : OrderState} (h : x.begun = true) : x = .ended ∨ x.isActive = true := by
  cases x <;> simp_all [OrderState.begun, OrderState.isActive]

/-- R15, R32: after a phase start its order's group goes on without it, if it has ended, and else stays with it. -/
theorem advanceGroup_begins {t u : State} {o : Order} {p : Phase} {P : Prop} (hnodup : t.numbers.Nodup)
    (h : t.begins o fun y => P → u.startsPhase t p y) :
    (advanceGroup o.group t).begins o fun y => P → u.startsPhase (advanceGroup o.group t) p y := by
  obtain ⟨y, hy, hb, hstarts⟩ := h
  obtain hended | hactive := OrderState.begun_cases hb.state
  · obtain ⟨hmem, hn⟩ := State.mem_of_order hy
    have hone : t.numbers.count o.number = 1 := hn ▸ State.count_of_mem hnodup hmem
    refine ⟨y, startQueued_holds _ (by simp [hended]) (by simp [hended]) _ t hone hy, hb, fun hP => ?_⟩
    exact State.startsPhase_of_ended hended (hstarts hP)
  · obtain ⟨x, hx⟩ := State.exists_active (State.mem_of_order hy).1 hactive
    rw [← hb.group, advanceGroup_of_active hx]
    exact ⟨y, hy, hb, hstarts⟩

/-- What stands at the end of an event of a record that a phase start has begun. -/
theorem State.Matches.begins {t u v : State} (h : t.Matches u) {o : Order} {p : Phase} {P : Prop}
    (hb : u.begins o fun y => P → v.startsPhase u p y) : t.begins o fun y => P → v.startsPhase t p y := by
  obtain ⟨y, hy, hbegins, hstarts⟩ := hb
  obtain ⟨z, hz, hsame⟩ := h.order hy
  have hplan : z.plan = y.plan := (congrArg Order.plan hsame :)
  have hstate : z.state = y.state := (congrArg Order.state hsame :)
  have houtcome : z.outcome = y.outcome := (congrArg Order.outcome hsame :)
  refine ⟨z, hz, ⟨hplan.trans hbegins.plan, hstate ▸ hbegins.state, fun ho => houtcome.trans (hbegins.outcome ho)⟩,
    fun hP => ?_⟩
  rw [(h.serves z.group).startsPhase, ← State.startsPhase_unmarked, hsame, State.startsPhase_unmarked]
  exact hstarts hP

/-- R14: an operation that leaves the other records alone leaves no record of a group QUEUED, if its own was the only one. -/
theorem oldestQueued_none {s t : State} {n : Nat} {g : Group} {y : Order} (hnodup : s.numbers.Nodup)
    (hnumbers : t.numbers = s.numbers) (hholds : ∀ m, m ≠ n → s.HoldsIn t m) (hy : t.order? n = some y)
    (hstate : y.state ≠ .queued) (honly : ∀ x ∈ s.seq.orders, x.group = g → x.state = .queued → x.number = n) :
    t.oldestQueued? g = none := by
  refine List.find?_eq_none.2 fun z hz hboth => ?_
  simp only [Bool.and_eq_true, decide_eq_true_eq] at hboth
  obtain ⟨hgroup, hqueued⟩ := hboth
  have hzt : t.order? z.number = some z := State.order_of_mem (hnumbers ▸ hnodup : t.numbers.Nodup) hz
  by_cases hzn : z.number = n
  · rw [hzn, hy] at hzt
    obtain rfl : y = z := by simpa using hzt
    exact hstate hqueued
  · have hmem : z.number ∈ s.numbers := hnumbers ▸ List.mem_map_of_mem hz
    obtain ⟨x, hx, hxz⟩ := List.mem_map.1 hmem
    have hxs : s.order? z.number = some x := hxz ▸ State.order_of_mem hnodup hx
    obtain h | ⟨-, h⟩ := hholds z.number hzn x hxs
    · obtain rfl : x = z := by simpa [hzt] using h.symm
      exact hzn (honly x hx hgroup hqueued)
    · obtain rfl : z = x.moves := by simpa [hzt] using h
      cases hqueued

/-- R5, R32: with no QUEUED record a group at most becomes idle. -/
theorem advanceGroup_of_no_queued {g : Group} {s : State} (h : s.oldestQueued? g = none) :
    advanceGroup g s = s ∨ advanceGroup g s = becomeIdle g s := by
  cases hactive : s.active? g with
  | some y => exact .inl (advanceGroup_of_active hactive)
  | none => exact .inr (advanceGroup_idle hactive h)

/-! ### The next phase of an order -/

/-- R27: the record as its next phase starts. -/
def Order.advanced (o : Order) : Order := { o with index := o.index + 1, outcome := none }

/-- R27, R30: the state in which the order's next phase starts. -/
def State.phaseAdvanced (s : State) (n : Nat) : State := s.modOrder n Order.advanced

theorem nextPhase_eq (o : Order) (s : State) :
    nextPhase o s = advanceGroup o.group (phaseStart o.number (s.phaseAdvanced o.number)) := rfl

theorem State.phaseAdvanced_order {s : State} {o : Order} (ho : s.order? o.number = some o) :
    (s.phaseAdvanced o.number).order? o.number = some o.advanced := by
  rw [State.phaseAdvanced, State.modOrder_order _ _ _ (by exact fun _ => rfl), ho]
  simp

theorem State.phaseAdvanced_sees (s : State) (n : Nat) : (s.phaseAdvanced n).SeesAs s n where
  fitment := rfl
  vehicle := rfl
  operator := rfl
  health _ := rfl
  referenced _ := rfl
  pos _ := rfl
  proven := rfl
  chan _ := rfl
  flags := rfl
  admits _ _ := rfl
  others := idleBut_modOrder n Order.advanced (fun _ h => h) s

theorem State.phaseAdvanced_numbers (s : State) (n : Nat) : (s.phaseAdvanced n).numbers = s.numbers := by
  simp only [State.numbers, State.phaseAdvanced, State.modOrder, List.map_map]
  refine List.map_congr_left fun x _ => ?_
  simp only [Function.comp_apply]
  split <;> rfl

section
variable {s : State} {o : Order} {p : Phase} (hrun : s.supply.mode = .run) (hnodup : s.numbers.Nodup)
  (hlive : (s.phaseAdvanced o.number).live o.number) (ho : s.order? o.number = some o)
include hrun hnodup hlive ho

/-- R27, R30: an order's next phase starts, and its group goes on if that ends it. -/
theorem nextPhase_begins (hp : ((s.phaseAdvanced o.number).fixTilt o.advanced).phase? = some p) :
    (nextPhase o s).begins ((s.phaseAdvanced o.number).fixTilt o.advanced) fun y =>
      claimed o.number s.flow.waiting = false ∧ claimed o.number s.flow.granted = false →
        s.startsPhase (nextPhase o s) p y := by
  let u := s.phaseAdvanced o.number
  have hu : u.order? o.number = some o.advanced := State.phaseAdvanced_order ho
  have hkeeps := phaseStart_keeps (G := True) hlive
  have hnumbers : u.numbers = s.numbers := s.phaseAdvanced_numbers o.number
  obtain ⟨y, hy, hb, hstarts⟩ := phaseStart_begins (s := u) hrun hu hp
  have hsees : (u.tiltFixed o.number o.advanced).SeesAs s o.number :=
    (State.tiltFixed_sees hu).trans (s.phaseAdvanced_sees o.number)
  have hn : (u.fixTilt o.advanced).number = o.number := (fixTilt_same u o.advanced).1
  have hgroup : (u.fixTilt o.advanced).group = o.group := (u.fixTilt_keeps o.advanced).1
  have hbegins := advanceGroup_begins (t := phaseStart o.number u) (u := s) (p := p) (o := u.fixTilt o.advanced)
    (P := claimed o.number s.flow.waiting = false ∧ claimed o.number s.flow.granted = false)
    (hkeeps.numbers ▸ hnumbers ▸ hnodup)
    ⟨y, hy, hb, fun ⟨hwaiting, hgranted⟩ => (hsees.startsPhase _ _ (hb.number.trans hn)).1 (hstarts hwaiting hgranted)⟩
  rw [hgroup] at hbegins
  exact hbegins

/-- R27: with no record queued behind it, no more than its own phase start reaches the Drive Unit. -/
theorem nextPhase_drive (hp : ((s.phaseAdvanced o.number).fixTilt o.advanced).phase? = some p)
    (hqueued : s.oldestQueued? o.group = none) :
    (nextPhase o s).drive = (phaseStart o.number (s.phaseAdvanced o.number)).drive := by
  let u := s.phaseAdvanced o.number
  have hu : u.order? o.number = some o.advanced := State.phaseAdvanced_order ho
  have hkeeps := phaseStart_keeps (G := True) hlive
  obtain ⟨y, hy, hb, -⟩ := phaseStart_begins (s := u) hrun hu hp
  have hn : (u.fixTilt o.advanced).number = o.number := (fixTilt_same u o.advanced).1
  have hnone : (phaseStart o.number u).oldestQueued? o.group = none := by
    refine oldestQueued_none (s := u) (n := o.number) (s.phaseAdvanced_numbers _ ▸ hnodup) hkeeps.numbers
      (fun m hm => phaseStart_holds hm u) (hn ▸ hy) (fun h => by simpa [h, OrderState.begun] using hb.state)
      fun x hx hgroup hstate => ?_
    obtain ⟨z, hz, rfl⟩ := List.mem_map.1 hx
    by_contra hne
    have hzne : z.number ≠ o.number := by
      intro h
      rw [if_pos h] at hne
      exact hne h
    rw [if_neg hzne] at hgroup hstate
    exact List.find?_eq_none.1 hqueued z hz (by simp [hgroup, hstate])
  rw [nextPhase_eq]
  obtain h | h := advanceGroup_of_no_queued hnone
  · rw [h]
  · rw [h]
    simp [u]

end

/-- R27: the next phase of an active order may take it on. -/
theorem State.phaseAdvanced_live {s : State} {o : Order} (ho : o ∈ s.seq.orders) (hactive : o.state.isActive = true) :
    (s.phaseAdvanced o.number).live o.number :=
  ⟨o.advanced, List.mem_map.2 ⟨o, ho, if_pos rfl⟩, rfl, .inl hactive⟩

/-- R15: a phase start at a PUMPED_MOVE phase asks nothing of the Drive Unit. -/
theorem phaseStart_drive {s : State} {n : Nat} {o : Order} {p : Phase} (ho : s.order? n = some o)
    (hp : (s.fixTilt o).phase? = some p) (hpumped : p.kind = .pumped) : (phaseStart n s).drive = s.drive := by
  have hflow (o : Order) (u : State) : (gateFlow o p u).drive = u.drive := by
    cases hc : p.cls <;> simp [gateFlow, enterMoving, hpumped, hc]
  have hgates (o : Order) (u : State) : (gateInterlock o p u).drive = u.drive := by
    unfold gateInterlock gateBinding
    split
    · simp
    · split
      · simp
      · split
        · exact hflow o u
        · simp
  rw [phaseStart_eq ho hp]
  split
  · simp [State.tiltFixed]
  · rw [if_neg (by simp [hpumped])]
    exact hgates _ _

/-! ### The end of a latch pulse -/

/-- R120: the latch output is off and its pulse over. -/
def State.pulseOver (s : State) (d : Side) : State :=
  Machine.latch .coilOpen (.channel d.latch) (s.modChan d.latch fun _ => Chan.reset)

theorem pulseExpiry_eq {d : Side} {n w : Nat} {s : State} (hrunning : (s.chan d.latch).state = .running)
    (hpulse : (s.chan d.latch).pulse = some w) (hrequester : (s.chan d.latch).requester = some n) :
    pulseExpiry d s = pulseDone n (s.pulseOver d) := by
  unfold pulseExpiry
  simp only [hrunning, hpulse, hrequester, decide_true]
  rfl

/-- Settles O56, by the next phase of the order that asked for the pulse. -/
theorem pulseEndAdvancesTheOrder : Obligations.PulseEndAdvancesTheOrder := by
  refine ⟨fun d n w s hrun hrunning hpulse hrequester hnone => ?_,
    fun d n w o q s hrun hrunning hpulse hrequester ho hgroup hkind hstate hphase hq hpumped hqueued hnodup => ?_⟩
  · obtain ⟨t, he, ht⟩ := runEvent_next (pulseExpiry d) hrun
    have hdone : pulseDone n (s.pulseOver d) = s.pulseOver d := by
      have hnone' : (s.pulseOver d).order? n = none := hnone
      simp only [pulseDone, hnone']
    rw [pulseExpiry_eq hrunning hpulse hrequester, hdone] at ht
    exact ⟨t, he, ht⟩
  · obtain ⟨hmem, rfl⟩ := State.mem_of_order ho
    let u := s.pulseOver d
    have hu : u.order? o.number = some o := ho
    have hactive : o.state.isActive = true := by rw [hstate]; rfl
    have hlive : (u.phaseAdvanced o.number).live o.number := State.phaseAdvanced_live hmem hactive
    have hfix : (u.phaseAdvanced o.number).fixTilt o.advanced = o.advanced :=
      State.fixTilt_of_kind (by simp [Order.advanced, hkind]) _
    have hp : ((u.phaseAdvanced o.number).fixTilt o.advanced).phase? = some q := by rw [hfix]; exact hq
    obtain ⟨t, he, ht⟩ := runEvent_effect (pulseExpiry d) hrun
    have heq : pulseExpiry d s = nextPhase o u := by
      rw [pulseExpiry_eq hrunning hpulse hrequester]
      simp only [pulseDone, hu, u]
      exact if_pos ⟨hstate, hphase⟩
    rw [heq] at ht
    obtain ⟨y, hy, hb, -⟩ := ht.begins (nextPhase_begins (s := u) hrun hnodup hlive hu hp)
    rw [hfix] at hy hb
    have hchan (c : Channel) : t.chan c = u.chan c := by
      have hdrive := (nextPhase_drive (s := u) hrun hnodup hlive hu hp (hgroup ▸ hqueued)).trans
        (phaseStart_drive (State.phaseAdvanced_order hu) hp hpumped)
      rw [ht.chan, State.chan, hdrive]
      rfl
    refine ⟨t, y, he, ?_, hy, hb.index, ?_, ?_, fun c hc => ?_⟩
    · rw [hchan]
      exact State.modChan_chan_self (s := s) _ fun _ => Chan.reset
    · intro h
      simpa [h, OrderState.begun] using hb.state
    · intro h
      simpa [h, OrderState.begun] using hb.state
    · rw [hchan]
      exact State.modChan_chan_ne s (Ne.symm hc) fun _ => Chan.reset

end Sys2Proof.Machine
end


section
/-! PROOFS. Why the statements O38 and O41 fail as they stand: an end or a stop of an order reports the scenes LIFT_MOVING and
SHUTTER_MOVING before the next gates are tried, a changed scene may start a changed selection, and that lifts the cuts of
its pair's lamps, whose health becomes UNTESTED (R157). Neither statement asks that a cut lamp is not HEALTHY, and both
read the interlock table in the state before the event. -/

namespace Sys2Proof.Machine

/-! ### A state with a lamp that is HEALTHY and cut -/

/-- An interlock entry for every class with the one term that the lamps of REAR are healthy. -/
def lampsEntry : InterlockRec := ⟨none, .stopWait, [⟨.lampsHealthy, false, .pair .rear, 0, 0⟩]⟩

/-- A shutter profile whose stop step is 100 permille. -/
def stopProfile : ProfileRec :=
  ⟨120, 700, 850, 120, 40, 30, 100, 1000, 400, 300, Vector.replicate 6 60, 60, 250, 500, 8000, 15000, 0, 0, 0⟩

/-- In RUN, with that entry and that profile. SHUTTER_MOVING stands active, the players select pattern 1 though no scene claims
their pairs, and every lamp is HEALTHY with its line cut. -/
def cutLamps : State :=
  { State.reset with
    supply := { SupplyState.reset with mode := .run }
    fitment :=
      { Fitment.reset with
        interlocks := (Vector.replicate 24 none).set 0 (some lampsEntry)
        profiles := Vector.replicate 3 (some stopProfile) }
    beacon :=
      { Beacon.reset with
        active := #v[true, true, false, true, true, true, false, false]
        players := Vector.replicate 3 { Player.reset with sel := ⟨1, false, .none⟩ }
        lamps := Vector.replicate 6 ⟨.healthy, true⟩ } }

/-- A closing of the kerb shutter in its movement phase. -/
def closing (n : Nat) (st : OrderState) : Order where
  number := n
  group := .kerb
  kind := .closeShutter
  target := none
  level := false
  clamped := false
  speed := .normal
  binding := .none
  limit := none
  phases := [⟨.gravity, some .kerbClose, 0, .switch, false⟩]
  index := 0
  state := st
  outcome := none
  pendResult := none
  pendReason := none
  startedEdge := false
  movingTime := 0
  uncompensated := false
  blocking := 0
  submittedAt := 0
  endedAt := none
  result := none
  reason := none
  residual := none
  noticed := false
  endRank := 0

/-- What a command makes of the record of number n; none if it gave no next state. -/
def recordAfter (c : Instr) (s : State) (n : Nat) : Option Order :=
  match exec c s with
  | .next t => t.order? n
  | _ => none

theorem recordAfter_eq {c : Instr} {s t : State} (h : exec c s = .next t) (n : Nat) : recordAfter c s n = t.order? n := by
  simp only [recordAfter, h]

/-! ### The next record of a group -/

/-- The settling order 1 of KERB, pending FAILED, with order 2 queued behind it. -/
def settlingBeforeQueued : State :=
  { cutLamps with
    seq :=
      { Sequencer.reset with
        orders := [{ closing 1 .settling with outcome := some .finish, pendResult := some .failed }, closing 2 .queued]
        nextNumber := 3
        ctl := Vector.replicate 3 { GroupCtl.reset with settle := some 0 } } }

/-- Refutes O41: order 2 starts BLOCKED by the entry, which held in the state before the event. -/
theorem not_settledOrderGoesOn : ¬ Obligations.SettledOrderGoesOn := by
  intro h
  obtain ⟨t, y, p, z, he, -, -, -, -, -, hy, -, -, -, -, -, hp, hstarts⟩ :=
    h.2 .kerb { closing 1 .settling with outcome := some .finish, pendResult := some .failed } (closing 2 .queued) .failed
      settlingBeforeQueued rfl (by decide) (by unfold State.oneActiveEach; intro g; cases g <;> decide) rfl rfl (by decide) rfl
      rfl rfl (by decide) (by decide) rfl (by decide) rfl rfl
  have hblocked : recordAfter (.settleTimerExpiry .kerb) settlingBeforeQueued 2 =
      some { closing 2 .blocked with blocking := 1 } := by decide
  rw [recordAfter_eq he, show t.order? 2 = some y from hy] at hblocked
  obtain rfl : y = { closing 2 .blocked with blocking := 1 } := by simpa using hblocked
  obtain rfl : p = ⟨.gravity, some .kerbClose, 0, .switch, false⟩ := by simpa [closing, Order.phase?] using hp.symm
  obtain ⟨-, hgates, -⟩ := hstarts
  obtain ⟨-, -, -, hpasses⟩ := hgates (by unfold State.inhibits; decide) (by decide)
  obtain ⟨hmoving, -⟩ := hpasses (by decide) (by decide) (by decide)
  cases hmoving

/-! ### A pause that goes on -/

/-- Order 1 of KERB stopping toward a PAUSE, with its binding satisfied and its commanded demand within the stop step. -/
def pausing : State :=
  { cutLamps with
    seq := { Sequencer.reset with orders := [{ closing 1 .stopping with outcome := some .pause }], nextNumber := 2 }
    runs := (Vector.replicate 3 none).set 1 (some ⟨1, 0, 100, 100, 1000, .none, 0, 0, 0, 0, []⟩) }

/-- Refutes O38, in its clause of a PAUSE whose binding is satisfied: the order is left BLOCKED by the entry, which held in the
state before the event. -/
theorem not_stoppingIntervalStepsDown : ¬ Obligations.StoppingIntervalStepsDown := by
  intro h
  have hstop := h.1 .kerb { closing 1 .stopping with outcome := some .pause } ⟨.gravity, some .kerbClose, 0, .switch, false⟩
    .kerbClose stopProfile ⟨1, 0, 100, 100, 1000, .none, 0, 0, 0, 0, []⟩ pausing rfl rfl rfl rfl rfl rfl rfl (by decide)
  obtain ⟨-, -, hstops⟩ := hstop
  obtain ⟨-, -, hpause, -⟩ := hstops (by decide) rfl (by decide) (by decide)
  obtain ⟨t, y, he, hy, -, -, -, -, hgates, -⟩ := hpause rfl (by unfold State.inhibits; decide) (by decide) rfl
  have hblocked : recordAfter (.controlInterval .kerb) pausing 1 = some { closing 1 .blocked with blocking := 1 } := by decide
  rw [recordAfter_eq he, show t.order? 1 = some y from hy] at hblocked
  obtain rfl : y = { closing 1 .blocked with blocking := 1 } := by simpa using hblocked
  obtain ⟨-, -, -, hpasses⟩ := hgates
  obtain ⟨hmoving, -⟩ := hpasses (by decide) (by decide) (by decide)
  cases hmoving

end Sys2Proof.Machine
end


section
/-! PROOFS. Standby (O14), requests handed on (O18), and what the transmitter chooses (O19). -/

namespace Sys2Proof.Machine

/-! ### Standby -/

/-- R180: STANDBY is accepted with every record ENDED, no proving test and the stop machine CLEAR. -/
theorem State.mayStandBy_iff (s : State) :
    s.mayStandBy = true ↔
      (∀ o ∈ s.seq.orders, o.state = .ended) ∧ s.drive.prove.overall ≠ .running ∧ s.operator.estop = .clear := by
  simp [State.mayStandBy, State.proving, and_assoc]

theorem releaseAll_flags (cs : List Channel) : ∀ s : State, (releaseAll cs s).faults.flags = s.faults.flags ∧
    (releaseAll cs s).faults.resetting = s.faults.resetting := by
  induction cs with
  | nil => exact fun s => ⟨rfl, rfl⟩
  | cons c cs ih =>
    intro s
    obtain ⟨hflags, hresetting⟩ := ih (release c s)
    rw [release_faults] at hflags hresetting
    exact ⟨hflags, hresetting⟩

/-- Settles O14. -/
theorem standbyIsEnteredAfterItsReply : Obligations.StandbyIsEnteredAfterItsReply := by
  refine ⟨fun tag s h hno => ?_, fun tag s h hended hprove hclear => ?_, fun s hrun hreplied => ?_, fun s hrun hno => ?_⟩
  · refine request_refused .standby tag standbyRequest (w := .notIdle) (d1 := 0) (d2 := 0) (d3 := 0) h ?_
    exact if_neg (fun hmay => hno (s.mayStandBy_iff.1 hmay))
  · exact request_ok .standby tag standbyRequest h (if_pos (s.mayStandBy_iff.2 ⟨hended, hprove, hclear⟩))
  · obtain ⟨t, he, ht⟩ := runEvent_effect standbyDue hrun
    have hdue : standbyDue s = enterStandby s := if_pos hreplied
    rw [hdue] at ht
    obtain ⟨-, hwaiting⟩ := releaseAll_driveOff s
    have hdrive : (enterStandby s).drive = (releaseAll allChannels s).drive := by simp only [enterStandby]
    have hfaults : (enterStandby s).faults =
        { (releaseAll allChannels s).faults with resetting := Vector.replicate 3 Option.none } := by simp only [enterStandby]
    refine ⟨t, he, ?_, ?_, ?_, fun c => ?_, fun p => ?_, ?_, fun a => ?_, ?_, ?_, ?_, ?_, fun g => ?_⟩
    · simp [ht.supply, enterStandby]
    · simp [ht.fitment, enterStandby]
    · rw [ht.records]
      exact records_congr (by simp [enterStandby])
    · rw [ht.chan, State.chan, hdrive]
      exact (releaseAll_chan allChannels c s).trans (if_pos (mem_allChannels c))
    · rw [ht.pair, State.pair, hdrive]
      exact hwaiting p
    · simp [ht.flow, enterStandby, Flow.standBy]
    · rw [ht.tracker]
      have hget : (enterStandby s).tracker a = (s.tracker a).standBy := by
        simp only [enterStandby, State.tracker, mapTable_get, releaseAll_frame]
      exact hget
    · simp [ht.vehicle, enterStandby]
    · simp [ht.beacon, enterStandby]
    · simp [ht.operator, enterStandby]
    · simp only [ht.faults, hfaults, (releaseAll_flags allChannels s).1]
    · simp only [ht.faults, hfaults, Fin.getElem_fin, Vector.getElem_replicate]
  · obtain ⟨t, he, ht⟩ := runEvent_next standbyDue hrun
    have hdue : standbyDue s = s := if_neg hno
    rw [hdue] at ht
    exact ⟨t, he, ht⟩

/-! ### Requests handed on -/

theorem ReqKind.ofCode?_code (k : ReqKind) : ReqKind.ofCode? k.code = some k := by cases k <;> rfl

theorem ReqKind.mem_all (k : ReqKind) : k ∈ ReqKind.all := by cases k <;> decide

theorem ReqKind.ofCode?_none {b : Byte} (h : ∀ k : ReqKind, k.code ≠ b) : ReqKind.ofCode? b = none :=
  List.find?_eq_none.2 fun k _ => by simpa using h k

/-- R185: the oldest request not yet answered is marked answered. -/
theorem markAnswered_append {done : List Place} (h : ∀ p ∈ done, p.answered = true) (f : Frame) (later : List Place) :
    markAnswered (done ++ (Place.mk f false :: later)) = done ++ (Place.mk f true :: later) := by
  induction done with
  | nil => rfl
  | cons p done ih =>
    have hp : p.answered = true := h p (by simp)
    simp only [List.cons_append, markAnswered, hp, if_true, ih fun q hq => h q (by simp [hq])]

theorem find_unanswered {done : List Place} (h : ∀ p ∈ done, p.answered = true) (f : Frame) (later : List Place) :
    (done ++ (Place.mk f false :: later)).find? (fun p => !p.answered) = some (Place.mk f false) := by
  rw [List.find?_append, List.find?_eq_none.2 fun p hp => by simp [h p hp]]
  rfl

/-- R185: a request is handed on to what answers it. -/
theorem handOn_eq {done : List Place} {f : Frame} {later : List Place} {s : State}
    (hplaces : s.link.places = done ++ (Place.mk f false :: later)) (hdone : ∀ p ∈ done, p.answered = true)
    (hstandby : s.supply.standby = .none) :
    handOn s =
      queueReply true f.kind f.tag (answer f (s.modLink fun l => { l with places := done ++ (Place.mk f true :: later) })).2
        (answer f (s.modLink fun l => { l with places := done ++ (Place.mk f true :: later) })).1 := by
  have hmarked : (s.modLink fun l => { l with places := markAnswered l.places }) =
      s.modLink fun l => { l with places := done ++ (Place.mk f true :: later) } := by
    simp only [State.modLink, hplaces, markAnswered_append hdone]
  unfold handOn
  simp only [hplaces, find_unanswered hdone, hstandby]
  rw [hmarked]

/-- R185: from the acceptance of a STANDBY no request is handed on. -/
theorem handOn_of_standby {s : State} (h : s.supply.standby ≠ .none) : handOn s = s := by
  unfold handOn
  cases hstandby : s.supply.standby with
  | none => exact absurd hstandby h
  | accepted => split <;> simp_all
  | replied => split <;> simp_all

/-- Settles O18. -/
theorem requestsAreHandedOnInOrder : Obligations.RequestsAreHandedOnInOrder := by
  intro done f later s hrun hplaces hdone
  obtain ⟨t, he, ht⟩ := runEvent_next handOn hrun
  refine ⟨fun hstandby hunknown => ⟨t, he, ht.trans ?_⟩, fun hstandby k hk hlength => ⟨t, he, ht.trans ?_⟩,
    fun hstandby hkind hpayload => ⟨t, he, ht.trans ?_⟩, fun hstandby hkind hpayload => ⟨t, he, ht.trans ?_⟩,
    fun hstandby => ⟨t, he, ht.trans ?_⟩⟩
  · have hanswer (u : State) : answer f u = (u, .no .unknownKind) := by
      simp only [answer, ReqKind.ofCode?_none hunknown]
    rw [handOn_eq hplaces hdone hstandby, hanswer]
    rfl
  · have hlengthOk : k.lengthOk f.payload = false := by simpa [ReqKind.lengthOk] using hlength
    have hanswer (u : State) : answer f u = (u, .no .length) := by
      simp only [answer, ← hk, ReqKind.ofCode?_code, hlengthOk, Bool.false_eq_true, if_false]
    rw [handOn_eq hplaces hdone hstandby, hanswer]
    rfl
  · have hcode : ReqKind.ofCode? f.kind = some .queryTable := hkind ▸ ReqKind.ofCode?_code .queryTable
    have hanswer (u : State) : answer f u = (u, .done (tableReport u.seq.orders)) := by
      simp only [answer, hcode, hpayload]
      rfl
    rw [handOn_eq hplaces hdone hstandby, hanswer, hkind]
    rfl
  · have hcode : ReqKind.ofCode? f.kind = some .queryFaults := hkind ▸ ReqKind.ofCode?_code .queryFaults
    have hanswer (u : State) : answer f u = (u, .done (faultReport u.faults)) := by
      simp only [answer, hcode, hpayload]
      rfl
    rw [handOn_eq hplaces hdone hstandby, hanswer, hkind]
    rfl
  · rw [handOn_of_standby hstandby]

/-! ### What the transmitter chooses -/

/-- R166: an event that leaves the Fault Table as it was raises no notice. -/
theorem finish_of_faults {b a : State} (h : a.faults = b.faults) : finish b a = kick (closeRank a) := by
  have hnotice : faultNotice b a = a := if_pos (by rw [h])
  rw [finish, hnotice]

/-- R7: the rank of the ends is all that closes with an event. -/
theorem closeRank_rest (s : State) :
    (closeRank s).link = s.link ∧ (closeRank s).supply = s.supply ∧ (closeRank s).seq.orders = s.seq.orders ∧
      (closeRank s).faults = s.faults ∧ (closeRank s).operator = s.operator := by
  unfold closeRank
  split <;> exact ⟨rfl, rfl, rfl, rfl, rfl⟩

section
variable {s : State} (hrun : s.supply.mode = .run) (hidle : s.link.tx = none) (hstandby : s.supply.standby ≠ .replied)
include hrun hidle hstandby

/-- R187: an idle transmitter takes the oldest reply. -/
theorem kick_reply {r : OutReply} {rest : List OutReply} (hreplies : s.link.replies = r :: rest) :
    kick s = transmit (.reply r) (s.modLink fun l => { l with replies := rest }) := by
  unfold kick
  rw [if_pos ⟨hrun, hidle, hstandby⟩, hreplies]

/-- R188: with no reply to send it chooses a notice. -/
theorem kick_notice (hreplies : s.link.replies = []) : kick s = sendNotice s := by
  unfold kick
  rw [if_pos ⟨hrun, hidle, hstandby⟩, hreplies]

end

/-- R187: the state in which the transmitter chooses after a notice. -/
def State.noticeGone (s : State) : State := closeRank (s.modLink fun l => { l with tx := none })

/-- R187: the end of a notice. -/
theorem exec_frameSent_notice {f : Frame} {s : State} (hrun : s.supply.mode = .run) (htx : s.link.tx = some (.notice f)) :
    exec .frameSent s = .next (kick s.noticeGone) := by
  have hgone : frameGone s = s.modLink fun l => { l with tx := none } := by simp only [frameGone, htx]
  have hexec : exec .frameSent s = event frameGone s := if_pos hrun
  rw [hexec, event, finish_of_faults (by simp), hgone]
  rfl

theorem State.noticeGone_rest (s : State) :
    s.noticeGone.link = { s.link with tx := none } ∧ s.noticeGone.supply = s.supply ∧
      s.noticeGone.seq.orders = s.seq.orders ∧ s.noticeGone.faults = s.faults ∧ s.noticeGone.operator = s.operator :=
  closeRank_rest _

/-- Settles O19. -/
theorem transmitterChoosesAtABoundary : Obligations.TransmitterChoosesAtABoundary := by
  refine ⟨fun r s hrun hstandby htx => ?_, fun r s hrun hstandby htx henters => ?_, fun f r rest s hrun hstandby htx hreplies => ?_,
    fun f s hrun hstandby htx hreplies hstop => ?_, fun f s hrun hstandby htx hreplies hstop hfault => ?_,
    fun f s hrun hstandby htx hreplies hstop hfault horder => ?_⟩
  · obtain ⟨t, he, ht⟩ := runEvent_next frameGone hrun
    have hgone : frameGone s = s.modLink (Link.afterReply r) :=
      (frameGone_of_reply htx).trans (if_neg (by simp [hstandby]))
    rw [hgone] at ht
    obtain ⟨-, -, -, -, -, -, hplaces, houtgoing⟩ := State.quiet_link ht
    obtain ⟨-, hsupply, -, -, -, -, -, -, -, -, hfaults, -⟩ := State.quiet_blocks ht
    exact ⟨t, he, houtgoing, hplaces, hsupply, (State.quiet_seq ht).1, hfaults⟩
  · have hgone : frameGone s =
        { s.modLink (Link.afterReply r) with supply := { s.supply with standby := .replied } } :=
      (frameGone_of_reply htx).trans (if_pos ⟨henters, hstandby⟩)
    have hexec : exec .frameSent s = event frameGone s := if_pos hrun
    obtain ⟨hlink, hsupply, -, -, -⟩ := closeRank_rest (frameGone s)
    have hkick : finish s (frameGone s) = closeRank (frameGone s) := by
      rw [finish_of_faults (by simp), kick, if_neg]
      rw [hsupply, hgone]
      simp
    refine ⟨_, hexec, ?_, ?_⟩
    · rw [hkick, hsupply, hgone]
    · rw [hkick, hlink, hgone]
      rfl
  all_goals
    obtain ⟨hlink, hsupply, horders, hfaults, hoperator⟩ := s.noticeGone_rest
    refine ⟨_, exec_frameSent_notice hrun htx, ?_⟩
  · rw [kick_reply (hsupply ▸ hrun) (by rw [hlink]) (by rw [hsupply, hstandby]; simp) (by rw [hlink]; exact hreplies)]
    simp only [transmit, State.modLink, hlink]
  · rw [kick_notice (hsupply ▸ hrun) (by rw [hlink]) (by rw [hsupply, hstandby]; simp) (by rw [hlink]; exact hreplies),
      sendNotice, if_pos (by rw [hlink]; exact hstop)]
    simp only [transmit, State.modLink, hlink, stopNotice, hoperator]
  · rw [kick_notice (hsupply ▸ hrun) (by rw [hlink]) (by rw [hsupply, hstandby]; simp) (by rw [hlink]; exact hreplies),
      sendNotice, if_neg (by rw [hlink]; simp [hstop]), if_pos (by rw [hlink]; exact hfault)]
    simp only [transmit, State.modLink, hlink, faultNoticeFrame, hfaults]
  · rw [kick_notice (hsupply ▸ hrun) (by rw [hlink]) (by rw [hsupply, hstandby]; simp) (by rw [hlink]; exact hreplies),
      sendNotice, if_neg (by rw [hlink]; simp [hstop]), if_neg (by rw [hlink]; simp [hfault]),
      if_pos (by rw [hlink]; exact horder)]
    dsimp only
    rw [horders]
    cases hnumbers : unnoticed s.seq.orders with
    | nil => exact ⟨rfl, fun _ => ⟨by simp only [State.modLink, hlink], horders⟩, fun h => absurd rfl h⟩
    | cons n ns =>
      refine ⟨rfl, fun h => (by cases h), fun _ => ⟨rfl, ?_⟩⟩
      simp only [transmit, State.modLink, markNoticed, horders]

end Sys2Proof.Machine
end


section
/-! PROOFS. The resets and the supply states (O11, O12, O13). -/

namespace Sys2Proof.Machine

/-! ### Reports with nothing at work -/

/-- R165: flags reported with no active order and nothing waiting reach the Beacon Engine alone. -/
theorem reportFlags_of_idle {s : State} (h : s.noActive) (hwait : s.flow.waiting = []) (old : Inhibits) :
    reportFlags old s = if s.faults.flags = old then s else reportFaultScene s := by
  have hgrant : grantNow s = s := by rw [grantNow, tryGrant_eq_of_waiting_nil hwait]; rfl
  rw [reportFlags_of_noActive h]
  unfold reportCleared
  rw [hgrant]
  simp

/-- No lamp line is cut. -/
def State.noCut (s : State) : Prop := ∀ l, (s.lamp l).cut = false

theorem liftCut_of_uncut {l : Lamp} {s : State} (h : (s.lamp l).cut = false) : liftCut l s = s := if_neg (by simp [h])

/-- R157: with no line cut a re-derivation leaves the lamps as they are. -/
theorem rederive_lamps {s : State} (h : s.noCut) (b : Bool) (p : LampPair) :
    (rederive b p s).beacon.lamps = s.beacon.lamps := by
  have hstart (sel : Selection) : (startChanged p sel s).beacon.lamps = s.beacon.lamps := by
    have ha : liftCut (.a p) (s.setPlayer p (s.startedPlayer sel)) = s.setPlayer p (s.startedPlayer sel) :=
      liftCut_of_uncut (h _)
    have hb : liftCut (.b p) (s.setPlayer p (s.startedPlayer sel)) = s.setPlayer p (s.startedPlayer sel) :=
      liftCut_of_uncut (h _)
    unfold startChanged
    dsimp only
    rw [ha, hb]
    split <;> rfl
  unfold rederive
  dsimp only
  split
  · rfl
  · split
    · exact hstart _
    · rfl

theorem State.noCut_congr {s t : State} (h : t.beacon.lamps = s.beacon.lamps) (hs : s.noCut) : t.noCut := fun l => by
  rw [State.lamp, h]
  exact hs l

theorem rederiveAll_lamps {s : State} (h : s.noCut) (b : Bool) : (rederiveAll b s).beacon.lamps = s.beacon.lamps := by
  unfold rederiveAll
  split
  · have h1 := rederive_lamps h b .rear
    have h2 := rederive_lamps (State.noCut_congr h1 h) b .side
    have h3 := rederive_lamps (State.noCut_congr (h2.trans h1) h) b .flag
    exact h3.trans (h2.trans h1)
  · rfl

theorem reportScene_lamps {s : State} (h : s.noCut) (i : Fin 8) (v : Bool) :
    (reportScene i v s).beacon.lamps = s.beacon.lamps := by
  unfold reportScene
  split
  · rfl
  · exact rederiveAll_lamps (s := { s with beacon := { s.beacon with active := s.beacon.active.set i v } }) h _

/-- R155, R159: a report of a scene leaves the overrides and the discrete latches as they are. -/
theorem reportScene_beacon (i : Fin 8) (v : Bool) (s : State) :
    (reportScene i v s).beacon.overrides = s.beacon.overrides ∧ (reportScene i v s).beacon.latches = s.beacon.latches := by
  unfold reportScene
  split
  · exact ⟨rfl, rfl⟩
  · unfold rederiveAll
    split
    · simp [LampPair.all]
    · exact ⟨rfl, rfl⟩

/-! ### What a reset clears -/

/-- What every warm reset and every entry to HELD clears of s, the stability timers standing at x (R36, R42, R68, R91, R132, R135,
R161, R192). -/
structure State.WorkCleared (x : Timer) (s t : State) : Prop where
  seq : t.seq = Sequencer.reset
  vehicle : t.vehicle = Vehicle.reset
  flow : t.flow.pump = .off ∧ t.flow.waiting = [] ∧ t.flow.granted = []
  runs : ∀ g, t.run? g = none
  chans : ∀ c, t.chan c = Chan.reset
  lamps : t.beacon.lamps = Vector.replicate 6 ⟨.untested, false⟩
  overrides : t.beacon.overrides = Vector.replicate 3 none
  latches : t.beacon.latches = s.beacon.latches
  places : t.link.places = []
  outgoing : t.link.outgoing = []
  rx : t.link.rx = .hunt
  hands : t.operator.hands = Vector.replicate 2 TwoHand.reset
  lines : t.operator.lines = mapTable (fun l => { l with level := false, timer := x }) s.operator.lines

namespace State.WorkCleared

variable {x : Timer} {s t u : State}

/-- What the rest of a reset leaves as it was. -/
theorem congr (h : s.WorkCleared x t) (hseq : u.seq = t.seq) (hvehicle : u.vehicle = t.vehicle) (hflow : u.flow = t.flow)
    (hruns : u.runs = t.runs) (hdrive : u.drive = t.drive) (hlamps : u.beacon.lamps = t.beacon.lamps)
    (hbeacon : u.beacon.overrides = t.beacon.overrides ∧ u.beacon.latches = t.beacon.latches)
    (hlink : u.link.places = t.link.places ∧ u.link.outgoing = t.link.outgoing ∧ u.link.rx = t.link.rx)
    (hoperator : u.operator.hands = t.operator.hands ∧ u.operator.lines = t.operator.lines) : s.WorkCleared x u where
  seq := hseq.trans h.seq
  vehicle := hvehicle.trans h.vehicle
  flow := hflow ▸ h.flow
  runs g := by rw [State.run?, hruns]; exact h.runs g
  chans c := by rw [State.chan, hdrive]; exact h.chans c
  lamps := hlamps.trans h.lamps
  overrides := hbeacon.1.trans h.overrides
  latches := hbeacon.2.trans h.latches
  places := hlink.1.trans h.places
  outgoing := hlink.2.1.trans h.outgoing
  rx := hlink.2.2.trans h.rx
  hands := hoperator.1.trans h.hands
  lines := hoperator.2.trans h.lines

theorem noCut (h : s.WorkCleared x t) : t.noCut := fun l => by
  rw [State.lamp, h.lamps]
  simp

theorem noActive (h : s.WorkCleared x t) : t.noActive := fun g =>
  State.active_none_of_allEnded (by simp [State.allEnded, h.seq, Sequencer.reset]) g

theorem lamp (h : s.WorkCleared x t) (l : Lamp) : t.lamp l = ⟨.untested, false⟩ := by
  rw [State.lamp, h.lamps]
  simp

theorem override (h : s.WorkCleared x t) (p : LampPair) : t.override? p = none := by
  rw [State.override?, h.overrides]
  simp

theorem latch (h : s.WorkCleared x t) (p : LampPair) : t.latch p = s.latch p := by rw [State.latch, State.latch, h.latches]

theorem hand (h : s.WorkCleared x t) (i : Fin 2) : t.hand i = TwoHand.reset := by
  rw [State.hand, h.hands]
  simp

theorem line (h : s.WorkCleared x t) (l : Line) : t.line l = { s.line l with level := false, timer := x } := by
  rw [State.line, h.lines, mapTable_get]
  rfl

end State.WorkCleared

/-! ### The common part of the resets -/

/-- R36, R91: every run ends. -/
theorem emptyOrders_run (s : State) (g : Group) : (emptyOrders s).run? g = none := by
  have hends : (emptyOrders s).runs = (endRun .road (endRun .kerb (endRun .lift s))).runs := rfl
  rw [State.run?, hends, ← State.run?]
  cases g with
  | lift => rw [endRun_run_ne (by decide), endRun_run_ne (by decide), endRun_run_self]
  | kerb => rw [endRun_run_ne (by decide), endRun_run_self]
  | road => rw [endRun_run_self]

theorem emptyOrders_seq (s : State) : (emptyOrders s).seq = Sequencer.reset := rfl

theorem resetFlow_flow (s : State) :
    (resetFlow s).flow.pump = .off ∧ (resetFlow s).flow.waiting = [] ∧ (resetFlow s).flow.granted = [] := by
  unfold resetFlow
  dsimp only
  split <;> exact ⟨rfl, rfl, rfl⟩

/-- R132: every channel is released. -/
theorem releaseDrive_chan (c : Channel) (s : State) : (releaseDrive s).chan c = Chan.reset := by
  rw [releaseDrive, releaseAll_chan, if_pos (mem_allChannels c)]

/-- The inputs before the stop states follow. -/
def State.inputsReset (s : State) (x : Timer) : State :=
  { s with operator :=
      { s.operator with
        lines := mapTable (fun l => { l with level := false, timer := x }) s.operator.lines
        hands := Vector.replicate 2 TwoHand.reset } }

theorem resetInputs_eq {s : State} (h : s.noActive) (x : Timer) : resetInputs x s = (s.inputsReset x).withStops :=
  refreshStops_of_noActive (s := s.inputsReset x) h

/-- R36, R91, R132, R192: the state once orders, drives and requests are gone. -/
def State.workStopped (s : State) : State :=
  { resetFlow (releaseDrive (emptyOrders (s.modLink Link.emptied))) with vehicle := Vehicle.reset }

theorem State.workStopped_noActive (s : State) : s.workStopped.noActive := fun g =>
  State.active_none_of_allEnded (by simp [State.allEnded, State.workStopped, emptyOrders_seq, Sequencer.reset]) g

/-- R135, R137, R139, R161, R172: the inputs, the Fault Table and the beacons after a reset. -/
def State.panelCleared (s : State) (x : Timer) : State := darken (resetFaults (s.inputsReset x).withStops)

theorem clearWork_eq (x : Timer) (s : State) : clearWork x s = s.workStopped.panelCleared x := by
  rw [State.panelCleared, ← resetInputs_eq s.workStopped_noActive]
  rfl

theorem State.panelCleared_rest (s : State) (x : Timer) :
    (s.panelCleared x).seq = s.seq ∧ (s.panelCleared x).vehicle = s.vehicle ∧ (s.panelCleared x).flow = s.flow ∧
      (s.panelCleared x).runs = s.runs ∧ (s.panelCleared x).drive = s.drive ∧ (s.panelCleared x).link = s.link := by
  exact ⟨rfl, rfl, rfl, rfl, rfl, rfl⟩

theorem State.panelCleared_operator (s : State) (x : Timer) :
    (s.panelCleared x).operator =
      { s.operator with
        lines := mapTable (fun l => { l with level := false, timer := x }) s.operator.lines
        hands := Vector.replicate 2 TwoHand.reset
        obstructed := (s.inputsReset x).stopsTaken } := rfl

theorem State.panelCleared_beacon (s : State) (x : Timer) :
    (s.panelCleared x).beacon =
      { s.beacon with
        players := Vector.replicate 3 Player.reset
        overrides := Vector.replicate 3 none
        lamps := Vector.replicate 6 ⟨.untested, false⟩ } := rfl

theorem State.workStopped_rest (s : State) :
    s.workStopped.link = s.link.emptied ∧ s.workStopped.operator = s.operator ∧ s.workStopped.beacon = s.beacon ∧
      s.workStopped.seq = Sequencer.reset ∧ s.workStopped.vehicle = Vehicle.reset ∧
      s.workStopped.runs = (emptyOrders (s.modLink Link.emptied)).runs ∧
      s.workStopped.drive = (releaseDrive (emptyOrders (s.modLink Link.emptied))).drive := by
  simp [State.workStopped, State.modLink, emptyOrders_seq]

theorem State.workStopped_flow (s : State) :
    s.workStopped.flow.pump = .off ∧ s.workStopped.flow.waiting = [] ∧ s.workStopped.flow.granted = [] := by
  simp only [State.workStopped, resetFlow_flow, and_self]

theorem clearWork_cleared (x : Timer) (s : State) : s.WorkCleared x (clearWork x s) := by
  obtain ⟨hlink, hoperator, hbeacon, hseq, hvehicle, hruns, hdrive⟩ := s.workStopped_rest
  obtain ⟨pseq, pvehicle, pflow, pruns, pdrive, plink⟩ := s.workStopped.panelCleared_rest x
  have poperator := s.workStopped.panelCleared_operator x
  have pbeacon := s.workStopped.panelCleared_beacon x
  rw [clearWork_eq]
  generalize s.workStopped.panelCleared x = t at *
  refine ⟨pseq.trans hseq, pvehicle.trans hvehicle, ?_, fun g => ?_, fun c => ?_, by rw [pbeacon], by rw [pbeacon],
    by rw [pbeacon, hbeacon], by rw [plink, hlink]; rfl, by rw [plink, hlink]; rfl, by rw [plink, hlink]; rfl,
    by rw [poperator], by rw [poperator, hoperator]⟩
  · rw [pflow]
    exact s.workStopped_flow
  · rw [State.run?, pruns, hruns]
    exact emptyOrders_run _ g
  · rw [State.chan, pdrive, hdrive]
    exact releaseDrive_chan c _

/-- What else it leaves: the emergency stop machine, the transmitter idle, the break's mark, and no player playing. -/
theorem clearWork_rest (x : Timer) (s : State) :
    (clearWork x s).operator.estop = s.operator.estop ∧ (clearWork x s).operator.loopLine = s.operator.loopLine ∧
      (clearWork x s).link.tx = none ∧ (clearWork x s).link.breakReported = s.link.breakReported ∧
      ∀ p, (clearWork x s).player p = Player.reset := by
  obtain ⟨hlink, hoperator, -, -, -, -, -⟩ := s.workStopped_rest
  obtain ⟨-, -, -, -, -, plink⟩ := s.workStopped.panelCleared_rest x
  have poperator := s.workStopped.panelCleared_operator x
  have pbeacon := s.workStopped.panelCleared_beacon x
  rw [clearWork_eq]
  generalize s.workStopped.panelCleared x = t at *
  refine ⟨by rw [poperator, hoperator], by rw [poperator, hoperator], by rw [plink, hlink]; rfl, by rw [plink, hlink]; rfl,
    fun p => ?_⟩
  simp [State.player, pbeacon]

/-! ### Entry to HELD -/

theorem parkAll_tracker (a : Axis) (s : State) : (parkAll s).tracker a = (s.tracker a).park := by
  rw [parkAll, recordParked_fold_tracker, if_pos (by cases a <;> decide)]

theorem heldEntry_cleared (s : State) : s.WorkCleared none (heldEntry s) :=
  (clearWork_cleared none s).congr (by simp [heldEntry, State.modSupply]) (by simp [heldEntry, State.modSupply])
    (by simp [heldEntry, State.modSupply]) (by simp [heldEntry, State.modSupply]) (by simp [heldEntry, State.modSupply])
    (by simp [heldEntry, State.modSupply, takeConditions]) (by simp [heldEntry, State.modSupply, takeConditions])
    (by simp [heldEntry, State.modSupply]) (by simp [heldEntry, State.modSupply])

theorem heldEntry_rest (s : State) :
    (heldEntry s).supply = { s.supply with mode := .held, standby := .none } ∧
      (heldEntry s).operator.estop = s.operator.estop ∧ (heldEntry s).link.tx = none ∧
      (heldEntry s).link.breakReported = s.link.breakReported ∧ (∀ p, (heldEntry s).player p = Player.reset) ∧
      ∀ a, (heldEntry s).tracker a = (s.tracker a).park := by
  obtain ⟨hestop, -, htx, hbreak, hplayer⟩ := clearWork_rest none s
  refine ⟨by simp [heldEntry, State.modSupply], ?_, ?_, ?_, fun p => ?_, fun a => ?_⟩
  · rw [← hestop]; simp [heldEntry, State.modSupply]
  · rw [← htx]; simp [heldEntry, State.modSupply]
  · rw [← hbreak]; simp [heldEntry, State.modSupply]
  · rw [← hplayer p]; simp [heldEntry, State.modSupply, takeConditions, State.player]
  · have htracker : (heldEntry s).tracker a = (parkAll (clearWork none s)).tracker a := by
      simp [heldEntry, State.modSupply, State.tracker]
    rw [htracker, parkAll_tracker]
    simp [State.tracker]

/-- R192: outside RUN nothing is sent. -/
theorem finish_tx {b a : State} (h : a.supply.mode ≠ .run) : (finish b a).link.tx = a.link.tx := by
  have hnotice : (faultNotice b a).link.tx = a.link.tx ∧ (faultNotice b a).supply = a.supply := by
    unfold faultNotice
    split <;> exact ⟨rfl, rfl⟩
  obtain ⟨hlink, hsupply, -, -, -⟩ := closeRank_rest (faultNotice b a)
  rw [finish, kick, if_neg (by rw [hsupply, hnotice.2]; exact fun h' => h h'.1), hlink, hnotice.1]

/-- The cleared records of a state that an event ends. -/
theorem State.Matches.orders_nil {t u : State} (h : t.Matches u) (hu : u.seq.orders = []) : t.seq.orders = [] := by
  have hrecords := h.records
  simpa [State.records, hu] using hrecords

/-- What the end of an event leaves of its effect, with the link but for its notices and its transmitter. -/
theorem finish_effect (b a : State) :
    (finish b a).Matches a ∧ (finish b a).link.outgoing = a.link.outgoing ∧ (finish b a).link.places = a.link.places ∧
      (finish b a).link.rx = a.link.rx ∧ (finish b a).link.breakReported = a.link.breakReported := by
  have hq := quiet_finish b a
  obtain ⟨hrx, -, -, -, -, hbreak, hplaces, hout⟩ := State.quiet_link hq
  exact ⟨State.matches_of_quiet hq, hout, hplaces, hrx, hbreak⟩

/-- Settles O12, from what every entry to HELD clears and keeps. -/
theorem enableLowHoldsThePart : Obligations.EnableLowHoldsThePart := by
  intro s hrun
  let v := s.modSupply fun x => { x with enable := false, awaitFirst := false }
  have hlow : enableLow s = heldEntry v := by simp only [enableLow, hrun, v]
  obtain ⟨ht, hout, hplaces, hrx, -⟩ := finish_effect s (heldEntry v)
  have hc := heldEntry_cleared v
  obtain ⟨hsupply, hestop, htx, -, hplayer, htracker⟩ := heldEntry_rest v
  refine ⟨finish s (heldEntry v), congrArg (fun u => Host.Outcome.next (finish s u)) hlow, ?_, ?_, ?_, ?_, ?_, ?_, ?_, ?_, ?_,
    fun g => ?_, fun c => ?_, fun a => ?_, fun l => ?_, ?_, fun p => ⟨?_, ?_, ?_⟩, fun l => ?_, ?_, ?_, ?_, ?_⟩
  · simp [v, State.modSupply]
  · rw [ht.supply, hsupply]; rfl
  · simp [v, State.modSupply]
  · exact ht.orders_nil (by rw [hc.seq]; rfl)
  · rw [ht.nextNumber, hc.seq]; rfl
  · rw [ht.vehicle, hc.vehicle]
  · rw [ht.flow, hc.flow.1]
  · rw [ht.flow, hc.flow.2.1]
  · rw [ht.flow, hc.flow.2.2]
  · rw [ht.run, hc.runs]
  · rw [ht.chan, hc.chans]
  · rw [ht.tracker, htracker]; rfl
  · rw [ht.line, hc.line]; rfl
  · rw [ht.operator, hestop]; rfl
  · rw [ht.player, hplayer]
  · rw [ht.override, hc.override]
  · rw [ht.latch, hc.latch]; rfl
  · rw [ht.lamp, hc.lamp]
  · rw [hplaces, hc.places]
  · rw [hout, hc.outgoing]
  · rw [finish_tx (by rw [hsupply]; simp), htx]
  · rw [hrx, hc.rx]

/-! ### The warm reset -/

/-- R78: what a snap of an axis leaves as it was, with nothing at work. -/
theorem snapIfActive_cleared {x : Timer} {s t : State} (h : s.WorkCleared x t) (a : Axis) :
    s.WorkCleared x (snapIfActive a t) := by
  have hraise : s.WorkCleared x (raiseFaultOnce .referenceMismatch (.axis a) t) := by
    have hr : s.WorkCleared x (raiseOnce .referenceMismatch (.axis a) t) := by
      refine h.congr (by simp) (by simp) (by simp) (by simp) (by simp) (by simp) (by simp) ?_ (by simp)
      unfold raiseOnce raise
      dsimp only
      split <;> exact ⟨rfl, rfl, rfl⟩
    rw [raiseFaultOnce, reportFlags_of_idle hr.noActive hr.flow.2.1]
    split
    · exact hr
    · exact hr.congr (by simp) (by simp) (by simp) (by simp) (by simp) (reportScene_lamps hr.noCut _ _)
        (reportScene_beacon _ _ _) (by simp) (by simp)
  have hmod {u : State} (hu : s.WorkCleared x u) (f : Tracker → Tracker) : s.WorkCleared x (u.modTracker a f) :=
    hu.congr rfl rfl rfl rfl rfl rfl ⟨rfl, rfl⟩ ⟨rfl, rfl, rfl⟩ ⟨rfl, rfl⟩
  unfold snapIfActive
  split
  · cases hr : t.axisRec? a with
    | none =>
      unfold snap
      rw [hr]
      exact h
    | some r =>
      rw [snap_eq hr]
      split
      · exact hmod hraise _
      · exact hmod h _
  · exact h

theorem snapAll_cleared {x : Timer} {s t : State} (h : s.WorkCleared x t) : s.WorkCleared x (snapAll t) := by
  unfold snapAll
  simp only [Axis.all, List.foldl_cons, List.foldl_nil]
  exact snapIfActive_cleared (snapIfActive_cleared (snapIfActive_cleared (snapIfActive_cleared
    (snapIfActive_cleared h .lk) .lr) .tl) .sk) .sr

theorem warmTrackers_cleared {x : Timer} {s t : State} (h : s.WorkCleared x t) (c : ResetCause) :
    s.WorkCleared x (warmTrackers c t) := by
  have hpark {u : State} (hu : s.WorkCleared x u) : s.WorkCleared x (parkAll u) :=
    hu.congr (by simp) (by simp) (by simp) (by simp) (by simp) (by simp) (by simp) (by simp) (by simp)
  unfold warmTrackers
  split
  · exact h.congr (by simp) (by simp) (by simp) (by simp) (by simp) (by simp) (by simp) (by simp) (by simp)
  · split
    · exact hpark (snapAll_cleared h)
    · exact hpark h

/-- R143: the restart of the stop machine reads the loop and touches the notices alone beside it. -/
theorem restartEstop_rest (s : State) :
    (restartEstop s).operator =
        { s.operator with
          estop := if s.operator.loopLine then .active else .clear
          loopOpen := s.operator.loopLine
          release := none } ∧
      (restartEstop s).link.places = s.link.places ∧ (restartEstop s).link.outgoing = s.link.outgoing ∧
      (restartEstop s).link.rx = s.link.rx ∧ (restartEstop s).link.breakReported = s.link.breakReported := by
  have hraise (u : State) : (raise .estop .none u).link.places = u.link.places ∧
      (raise .estop .none u).link.outgoing = u.link.outgoing ∧ (raise .estop .none u).link.rx = u.link.rx ∧
      (raise .estop .none u).link.breakReported = u.link.breakReported := by
    unfold raise
    dsimp only
    split <;> exact ⟨rfl, rfl, rfl, rfl⟩
  have hremove (u : State) (p : Entry → Bool) : (removeFaults p u).link.places = u.link.places ∧
      (removeFaults p u).link.outgoing = u.link.outgoing ∧ (removeFaults p u).link.rx = u.link.rx ∧
      (removeFaults p u).link.breakReported = u.link.breakReported := by
    unfold removeFaults
    dsimp only
    split <;> exact ⟨rfl, rfl, rfl, rfl⟩
  have hnotice (u : State) : u.noticeStop.link.places = u.link.places ∧ u.noticeStop.link.outgoing = u.link.outgoing ∧
      u.noticeStop.link.rx = u.link.rx ∧ u.noticeStop.link.breakReported = u.link.breakReported := ⟨rfl, rfl, rfl, rfl⟩
  cases hline : s.operator.loopLine with
  | true =>
    rw [restartEstop_of_open hline]
    obtain ⟨h1, h2, h3, h4⟩ := hraise { s with operator := { s.operator with estop := .active, loopOpen := true, release := none } }
    exact ⟨by simp [hline], h1, h2, h3, h4⟩
  | false =>
    rw [restartEstop_of_closed hline]
    obtain ⟨h1, h2, h3, h4⟩ := hremove
      { s with operator := { s.operator with estop := .clear, loopOpen := false, release := none } } (·.is .estop .none)
    dsimp only
    split
    · exact ⟨by simp [hline], h1, h2, h3, h4⟩
    · exact ⟨by simp [hline], h1, h2, h3, h4⟩

/-- The state in which a warm reset clears the work, its notices forgotten. -/
def State.noticesDropped (s : State) : State :=
  s.modLink fun l => { l with pendStop := false, pendFault := false, pendOrder := false }

/-- R78, R86, R87, R143: the state once the work is cleared, the stop machine restarted and the trackers brought up. -/
def State.broughtUp (s : State) (c : ResetCause) : State :=
  warmTrackers c (restartEstop (clearWork (some s.debounceTime) s.noticesDropped))

theorem State.broughtUp_cleared (s : State) (c : ResetCause) : s.WorkCleared (some s.debounceTime) (s.broughtUp c) := by
  have h : s.WorkCleared (some s.debounceTime) (clearWork (some s.debounceTime) s.noticesDropped) :=
    let h := clearWork_cleared (some s.debounceTime) s.noticesDropped
    ⟨h.seq, h.vehicle, h.flow, h.runs, h.chans, h.lamps, h.overrides, h.latches, h.places, h.outgoing, h.rx, h.hands, h.lines⟩
  obtain ⟨hoperator, hplaces, hout, hrx, -⟩ := restartEstop_rest (clearWork (some s.debounceTime) s.noticesDropped)
  exact warmTrackers_cleared (h.congr (by simp) (by simp) (by simp) (by simp) (by simp) (by simp) (by simp)
    ⟨hplaces, hout, hrx⟩ ⟨by rw [hoperator], by rw [hoperator]⟩) c

theorem warmReset_eq (c : ResetCause) (s : State) :
    warmReset c s = startPlayers (takeConditions ((s.broughtUp c).modSupply fun x =>
      { x with mode := .run, standby := .none, lastReset := c, awaitFirst := false })) := rfl

theorem startPlayers_beacon (s : State) :
    (startPlayers s).beacon.lamps = s.beacon.lamps ∧ (startPlayers s).beacon.overrides = s.beacon.overrides ∧
      (startPlayers s).beacon.latches = s.beacon.latches := by
  simp [startPlayers, LampPair.all]

theorem warmReset_cleared (c : ResetCause) (s : State) : s.WorkCleared (some s.debounceTime) (warmReset c s) := by
  rw [warmReset_eq]
  obtain ⟨hlamps, hoverrides, hlatches⟩ := startPlayers_beacon (takeConditions ((s.broughtUp c).modSupply fun x =>
      { x with mode := .run, standby := .none, lastReset := c, awaitFirst := false }))
  exact (s.broughtUp_cleared c).congr (by simp [State.modSupply]) (by simp [State.modSupply]) (by simp [State.modSupply])
    (by simp [State.modSupply]) (by simp [State.modSupply]) hlamps ⟨hoverrides, hlatches⟩ (by simp [State.modSupply])
    (by simp [State.modSupply])

theorem raiseFaultOnce_breakReported (code : FaultCode) (y : Subject) {x : Timer} {s t : State} (h : s.WorkCleared x t) :
    (raiseFaultOnce code y t).link.breakReported = t.link.breakReported := by
  have hno : (raiseOnce code y t).noActive := fun g => (State.active_congr (s := t) (by simp) g).trans (h.noActive g)
  obtain ⟨-, hlink, -, -⟩ := reportFlags_plant_of_noActive hno t.faults.flags
  rw [raiseFaultOnce, hlink]
  unfold raiseOnce raise
  dsimp only
  split <;> rfl

theorem snapIfActive_breakReported {x : Timer} {s t : State} (h : s.WorkCleared x t) (a : Axis) :
    (snapIfActive a t).link.breakReported = t.link.breakReported := by
  unfold snapIfActive
  split
  · cases hr : t.axisRec? a with
    | none =>
      unfold snap
      rw [hr]
    | some r =>
      rw [snap_eq hr, State.modTracker_link]
      split
      · exact raiseFaultOnce_breakReported _ _ h
      · rfl
  · rfl

theorem snapAll_breakReported {x : Timer} {s t : State} (h : s.WorkCleared x t) :
    (snapAll t).link.breakReported = t.link.breakReported := by
  have h1 := snapIfActive_cleared h .lk
  have h2 := snapIfActive_cleared h1 .lr
  have h3 := snapIfActive_cleared h2 .tl
  have h4 := snapIfActive_cleared h3 .sk
  unfold snapAll
  simp only [Axis.all, List.foldl_cons, List.foldl_nil]
  rw [snapIfActive_breakReported h4, snapIfActive_breakReported h3, snapIfActive_breakReported h2,
    snapIfActive_breakReported h1, snapIfActive_breakReported h]

/-- What else a warm reset leaves: the break's mark, and the stop machine as the loop has it. -/
theorem warmReset_rest (c : ResetCause) (s : State) :
    (warmReset c s).supply = { s.supply with mode := .run, standby := .none, lastReset := c, awaitFirst := false } ∧
      (warmReset c s).operator.estop = (if s.operator.loopLine then .active else .clear) ∧
      (warmReset c s).link.breakReported = s.link.breakReported := by
  obtain ⟨-, hline, -, hbreak, -⟩ := clearWork_rest (some s.debounceTime) s.noticesDropped
  have hc := clearWork_cleared (some s.debounceTime) s.noticesDropped
  obtain ⟨hoperator, hplaces, hout, hrx, hbreak'⟩ := restartEstop_rest (clearWork (some s.debounceTime) s.noticesDropped)
  have hc' : s.noticesDropped.WorkCleared (some s.debounceTime)
      (restartEstop (clearWork (some s.debounceTime) s.noticesDropped)) :=
    hc.congr (by simp) (by simp) (by simp) (by simp) (by simp) (by simp) (by simp) ⟨hplaces, hout, hrx⟩
      ⟨by rw [hoperator], by rw [hoperator]⟩
  have hmark : (s.broughtUp c).link.breakReported = s.link.breakReported := by
    have hfinal : (s.broughtUp c).link.breakReported =
        (restartEstop (clearWork (some s.debounceTime) s.noticesDropped)).link.breakReported := by
      unfold State.broughtUp warmTrackers
      split
      · simp
      · split
        · exact (congrArg Link.breakReported (by simp)).trans (snapAll_breakReported hc')
        · simp
    rw [hfinal, hbreak', hbreak]
    rfl
  rw [warmReset_eq]
  refine ⟨?_, ?_, ?_⟩
  · simp [State.modSupply, State.broughtUp, State.noticesDropped, State.modLink]
  · have hloop : s.noticesDropped.operator.loopLine = s.operator.loopLine := rfl
    simp only [startPlayers_frame, takeConditions_frame, State.modSupply, State.broughtUp, warmTrackers_frame, hoperator, hline,
      hloop]
  · simpa [State.modSupply] using hmark

/-- R87: a tracker at the warm reset of standby exit, a stability timer lasting d. -/
def Tracker.restarted (t : Tracker) (d : Nat) : Tracker :=
  { t with net := 0, windowLeft := 50, home := false, homeTimer := some d }

theorem restartTrackers_tracker (s : State) (a : Axis) :
    (restartTrackers s).tracker a = (s.tracker a).restarted s.debounceTime := by
  simp only [State.tracker, restartTrackers, mapTable_get]
  rfl

theorem warmReset_standbyExit_tracker (s : State) (a : Axis) :
    (warmReset .standbyExit s).tracker a = (s.tracker a).restarted s.debounceTime := by
  have htrackers : (warmReset .standbyExit s).trackers =
      (restartTrackers (restartEstop (clearWork (some s.debounceTime) s.noticesDropped))).trackers := by
    rw [warmReset_eq]
    simp [State.modSupply, State.broughtUp, warmTrackers]
  have hfit : (restartEstop (clearWork (some s.debounceTime) s.noticesDropped)).fitment = s.fitment := by
    simp [State.noticesDropped, State.modLink]
  have hold : (restartEstop (clearWork (some s.debounceTime) s.noticesDropped)).trackers = s.trackers := by
    simp [State.noticesDropped, State.modLink]
  generalize restartEstop (clearWork (some s.debounceTime) s.noticesDropped) = u at *
  have htracker := restartTrackers_tracker u a
  rw [State.tracker, htrackers, ← State.tracker, htracker, State.tracker, hold, State.debounceTime, hfit, State.tracker,
    State.debounceTime]

/-- R178: a warm reset in the words of the statements, from what a state t before it keeps of s. -/
theorem warmReset_to {b s t : State} (c : ResetCause) (ht : t.Matches (warmReset c s))
    (hlink : t.link.places = (warmReset c s).link.places ∧ t.link.outgoing = (warmReset c s).link.outgoing ∧
      t.link.rx = (warmReset c s).link.rx)
    (hb : b.pending = s.pending ∧ b.fitment = s.fitment ∧ b.supply.time = s.supply.time ∧
      b.operator.loopLine = s.operator.loopLine ∧ b.beacon = s.beacon) : b.warmResetTo c t := by
  obtain ⟨hpending, hfitment, htime, hloop, hbeacon⟩ := hb
  obtain ⟨hplaces, hout, hrx⟩ := hlink
  have hc := warmReset_cleared c s
  obtain ⟨hsupply, hestop, -⟩ := warmReset_rest c s
  refine ⟨?_, ?_, ?_, ?_, ?_, ?_, ht.orders_nil (by rw [hc.seq]; rfl), ?_, fun g => ?_, ?_, ?_, ?_, ?_, fun c' => ?_,
    fun l => ?_, fun h => ?_, fun l => ?_, fun p => ?_, fun p => ?_, ?_, ?_, ?_, ?_⟩
  · rw [ht.pending, hpending]; simp
  · rw [ht.fitment, hfitment]; simp
  · rw [ht.supply, hsupply]
  · rw [ht.supply, hsupply, htime]
  · rw [ht.supply, hsupply]
  · rw [ht.supply, hsupply]
  · rw [ht.nextNumber, hc.seq]; rfl
  · rw [ht.run, hc.runs]
  · rw [ht.vehicle, hc.vehicle]
  · rw [ht.flow, hc.flow.1]
  · rw [ht.flow, hc.flow.2.1]
  · rw [ht.flow, hc.flow.2.2]
  · rw [ht.chan, hc.chans]
  · rw [ht.line, hc.line, State.debounceTime, State.debounceTime, hfitment]
    exact ⟨rfl, rfl⟩
  · rw [ht.hand, hc.hand]
  · rw [ht.lamp, hc.lamp]
  · rw [ht.override, hc.override]
  · rw [ht.latch, hc.latch, State.latch, State.latch, hbeacon]
  · rw [hplaces, hc.places]
  · rw [hout, hc.outgoing]
  · rw [hrx, hc.rx]
  · rw [ht.operator, hestop, hloop]

/-- What the end of an event that took a warm reset holds. -/
theorem finish_warmReset {b s : State} (c : ResetCause)
    (hb : b.pending = s.pending ∧ b.fitment = s.fitment ∧ b.supply.time = s.supply.time ∧
      b.operator.loopLine = s.operator.loopLine ∧ b.beacon = s.beacon) :
    b.warmResetTo c (finish b (warmReset c s)) ∧ (finish b (warmReset c s)).supply.enable = s.supply.enable ∧
      (finish b (warmReset c s)).link.breakReported = s.link.breakReported ∧
      ∀ a, (finish b (warmReset c s)).tracker a = (warmReset c s).tracker a := by
  obtain ⟨ht, hout, hplaces, hrx, hbreak⟩ := finish_effect b (warmReset c s)
  obtain ⟨hsupply, -, hmark⟩ := warmReset_rest c s
  exact ⟨warmReset_to c ht ⟨hplaces, hout, hrx⟩ hb, by rw [ht.supply, hsupply], hbreak.trans hmark, ht.tracker⟩

/-- R177, R178: ENABLE taken high in HELD after an earlier taking. -/
theorem enableTakenHigh_held {s : State} (hmode : s.supply.mode = .held) (hfirst : s.supply.awaitFirst = false) :
    ∃ t, exec .enableTakenHigh s = .next t ∧ s.warmResetTo .enable t ∧ t.supply.enable = true := by
  let v := s.modSupply fun x => { x with enable := true, awaitFirst := false }
  have hhigh : enableHigh s = warmReset .enable v := by simp [enableHigh, hmode, hfirst, v]
  obtain ⟨hto, hen, -, -⟩ := finish_warmReset (b := s) (s := v) .enable ⟨rfl, rfl, rfl, rfl, rfl⟩
  exact ⟨_, congrArg (fun u => Host.Outcome.next (finish s u)) hhigh, hto, hen⟩

/-- R179: the first taking of ENABLE after a power-on reset. -/
theorem enableTakenHigh_first {s : State} (hmode : s.supply.mode = .held) (hfirst : s.supply.awaitFirst = true) :
    ∃ t, exec .enableTakenHigh s = .next t ∧
      t.supply = { s.supply with mode := .run, enable := true, awaitFirst := false } ∧ t.fitment = s.fitment ∧
      t.records = s.records ∧ t.trackers = s.trackers ∧ t.drive = s.drive ∧ t.operator = s.operator ∧ t.faults = s.faults ∧
      t.flow = s.flow ∧ t.vehicle = s.vehicle := by
  let v := s.modSupply fun x => { x with mode := .run, enable := true, awaitFirst := false }
  have hhigh : enableHigh s = startPlayers (takeConditions v) := by
    simp [enableHigh, hmode, hfirst, v, State.inMode, State.modSupply]
  obtain ⟨t, hexec, hq⟩ := event_next enableHigh s
  rw [hhigh] at hq
  obtain ⟨-, hsupply, hfit, hvehicle, hflow, htrackers, -, hdrive, hoperator, -, hfaults, -⟩ := State.quiet_blocks hq
  refine ⟨t, hexec, ?_, ?_, ?_, ?_, ?_, ?_, ?_, ?_, ?_⟩
  · rw [hsupply]; simp [v, State.modSupply]
  · rw [hfit]; simp [v, State.modSupply]
  · rw [(State.matches_of_quiet hq).records]; simp [v, State.modSupply, State.records]
  · rw [htrackers]; simp [v, State.modSupply]
  · rw [hdrive]; simp [v, State.modSupply]
  · rw [hoperator]; simp [v, State.modSupply]
  · rw [hfaults]; simp [v, State.modSupply]
  · rw [hflow]; simp [v, State.modSupply]
  · rw [hvehicle]; simp [v, State.modSupply]

/-- The state with its line break reported. -/
def State.breakMarked (s : State) : State := s.modLink fun l => { l with breakReported := true }

theorem lineBreak_of_unreported {s : State} (h : s.link.breakReported = false) :
    lineBreak s = match s.supply.mode with
      | .run => warmReset .lineBreak s.breakMarked
      | .held => s.breakMarked
      | .standby => leaveStandby s.breakMarked := by
  unfold lineBreak
  rw [if_neg (by simp [h])]
  rfl

theorem leaveStandby_of_enabled {s : State} (h : s.supply.enable = true) : leaveStandby s = warmReset .standbyExit s := by
  unfold leaveStandby
  dsimp only
  rw [(warmReset_rest .standbyExit s).1]
  exact if_pos h

theorem leaveStandby_of_disabled {s : State} (h : s.supply.enable = false) :
    leaveStandby s = heldEntry (warmReset .standbyExit s) := by
  unfold leaveStandby
  dsimp only
  rw [(warmReset_rest .standbyExit s).1]
  exact if_neg (by simp [h])

/-- R180: a break in STANDBY with ENABLE low leads through standby exit into HELD. -/
theorem lineBreak_standby_disabled {s : State} (hmode : s.supply.mode = .standby) (hnew : s.link.breakReported = false)
    (hlow : s.supply.enable = false) (href : ∀ a, (s.tracker a).referenced = false) :
    ∃ t, exec .lineBreak s = .next t ∧ t.pending = s.pending ∧ t.fitment = s.fitment ∧
      t.supply = { s.supply with mode := .held, standby := .none, lastReset := .standbyExit, awaitFirst := false } ∧
      t.seq.orders = [] ∧ t.seq.nextNumber = 1 ∧ (∀ c, t.chan c = Chan.reset) ∧ t.flow.pump = .off ∧
      (∀ l, (t.line l).level = false ∧ (t.line l).timer = none) ∧ t.link.breakReported = true ∧ t.link.places = [] ∧
      t.link.outgoing = [] ∧ (∀ p, t.player p = Player.reset) ∧
      ∀ a, t.tracker a = (s.tracker a).restarted s.debounceTime := by
  have heffect : lineBreak s = heldEntry (warmReset .standbyExit s.breakMarked) := by
    rw [lineBreak_of_unreported hnew, hmode]
    exact leaveStandby_of_disabled (s := s.breakMarked) hlow
  obtain ⟨ht, hout, hplaces, -, hbreak⟩ := finish_effect s (heldEntry (warmReset .standbyExit s.breakMarked))
  have hc := heldEntry_cleared (warmReset .standbyExit s.breakMarked)
  obtain ⟨hsupply, -, -, hmark, hplayer, htracker⟩ := heldEntry_rest (warmReset .standbyExit s.breakMarked)
  obtain ⟨hwarm, -, hmark'⟩ := warmReset_rest .standbyExit s.breakMarked
  have hfit : (warmReset .standbyExit s.breakMarked).fitment = s.fitment := by simp [State.breakMarked, State.modLink]
  refine ⟨_, congrArg (fun u => Host.Outcome.next (finish s u)) heffect, ?_, ?_, ?_, ?_, ?_, fun c => ?_, ?_, fun l => ?_, ?_,
    ?_, ?_, fun p => ?_, fun a => ?_⟩
  · rw [ht.pending]; simp [State.breakMarked, State.modLink]
  · rw [ht.fitment]; simp [State.breakMarked, State.modLink]
  · rw [ht.supply, hsupply, hwarm]; rfl
  · exact ht.orders_nil (by rw [hc.seq]; rfl)
  · rw [ht.nextNumber, hc.seq]; rfl
  · rw [ht.chan, hc.chans]
  · rw [ht.flow, hc.flow.1]
  · rw [ht.line, hc.line]
    exact ⟨rfl, rfl⟩
  · rw [hbreak, hmark, hmark']; rfl
  · rw [hplaces, hc.places]
  · rw [hout, hc.outgoing]
  · rw [ht.player, hplayer]
  · have hwas : (s.breakMarked.tracker a).restarted s.breakMarked.debounceTime = (s.tracker a).restarted s.debounceTime := rfl
    rw [ht.tracker, htracker, warmReset_standbyExit_tracker, hwas]
    exact if_neg (by simp [Tracker.restarted, href a])

/-- Settles O13, each cause of a warm reset by the supply state. -/
theorem warmResetsAndTheirCauses : Obligations.WarmResetsAndTheirCauses := by
  refine ⟨fun s => enableTakenHigh_held, fun s => enableTakenHigh_first, fun s hrun hnew => ?_, fun s hheld hnew => ?_,
    fun s hold => ?_, fun s hstandby => ⟨?_, fun hnew hen => ?_, fun hnew => lineBreak_standby_disabled hstandby hnew⟩,
    fun s => event_next (fun s => s.modLink fun l => { l with breakReported := false }) s⟩
  · have heffect : lineBreak s = warmReset .lineBreak s.breakMarked := by rw [lineBreak_of_unreported hnew, hrun]
    obtain ⟨hto, hen, hmark, -⟩ := finish_warmReset (b := s) (s := s.breakMarked) .lineBreak ⟨rfl, rfl, rfl, rfl, rfl⟩
    exact ⟨_, congrArg (fun u => Host.Outcome.next (finish s u)) heffect, hto, hmark, hen⟩
  · obtain ⟨t, hexec, hq⟩ := event_next lineBreak s
    rw [lineBreak_of_unreported hnew, hheld] at hq
    exact ⟨t, hexec, hq⟩
  · obtain ⟨t, hexec, hq⟩ := event_next lineBreak s
    rw [lineBreak, if_pos hold] at hq
    exact ⟨t, hexec, hq⟩
  · let v := s.modSupply fun x => { x with enable := true, awaitFirst := false }
    have heffect : enableHigh s = warmReset .standbyExit v := by
      rw [← leaveStandby_of_enabled (s := v) rfl]
      simp only [enableHigh, hstandby, v]
    obtain ⟨hto, hen, -, htracker⟩ := finish_warmReset (b := s) (s := v) .standbyExit ⟨rfl, rfl, rfl, rfl, rfl⟩
    exact ⟨_, congrArg (fun u => Host.Outcome.next (finish s u)) heffect, hto, hen,
      fun a => (htracker a).trans (warmReset_standbyExit_tracker v a)⟩
  · have heffect : lineBreak s = warmReset .standbyExit s.breakMarked := by
      rw [lineBreak_of_unreported hnew, hstandby]
      exact leaveStandby_of_enabled (s := s.breakMarked) hen
    obtain ⟨hto, hen', hmark, htracker⟩ :=
      finish_warmReset (b := s) (s := s.breakMarked) .standbyExit ⟨rfl, rfl, rfl, rfl, rfl⟩
    exact ⟨_, congrArg (fun u => Host.Outcome.next (finish s u)) heffect, hto, hen'.trans hen, hmark,
      fun a => (htracker a).trans (warmReset_standbyExit_tracker s.breakMarked a)⟩

/-! ### The power-on reset -/

theorem overLines_line (s : State) (l : Line) :
    (s.overLines State.reset).line l = { LineState.reset with raw := (s.line l).raw } := by
  rw [State.line, State.overLines, mapTable_get]
  rfl

theorem overLines_tracker (s : State) (a : Axis) :
    (s.overLines State.reset).tracker a = { Tracker.reset with rawHome := (s.tracker a).rawHome } := by
  rw [State.tracker, State.overLines, mapTable_get]
  rfl

/-- R143: the state that an open loop gives at power-on, its entry made, before the scenes follow. -/
def State.startedStopped (s : State) : State :=
  raise .estop .none (State.noticeStop
    { s.overLines State.reset with
      operator := { (s.overLines State.reset).operator with estop := .active, loopOpen := true } })

theorem startedStopped_conditions (s : State) : s.startedStopped.sceneConditions = Beacon.reset.active.set 7 true := by
  have htracker (a : Axis) : (s.startedStopped.tracker a).inside = false := by
    have h : s.startedStopped.tracker a = (s.overLines State.reset).tracker a := rfl
    rw [h, overLines_tracker]
    rfl
  unfold State.sceneConditions
  rw [htracker, htracker, htracker]
  rfl

theorem powerOn_of_open {s : State} (h : s.operator.loopLine = true) : powerOn s = takeConditions s.startedStopped := if_pos h

theorem powerOn_of_closed {s : State} (h : s.operator.loopLine = false) : powerOn s = s.overLines State.reset :=
  if_neg (by
    have hline : (s.overLines State.reset).operator.loopLine = s.operator.loopLine := rfl
    simp [hline, h])

/-- R179: the power-on values that do not depend on the loop. -/
theorem powerOn_values (s : State) :
    (powerOn s).pending = s.pending ∧ (powerOn s).free = s.free ∧ (powerOn s).fitment = Fitment.reset ∧
      (powerOn s).supply = SupplyState.reset ∧ (powerOn s).seq = Sequencer.reset ∧ (powerOn s).vehicle = Vehicle.reset ∧
      (powerOn s).flow = Flow.reset ∧ (powerOn s).runs = State.reset.runs ∧ (powerOn s).drive = Drive.reset ∧
      (powerOn s).trackers = (s.overLines State.reset).trackers ∧
      (powerOn s).operator.lines = (s.overLines State.reset).operator.lines := by
  cases hloop : s.operator.loopLine with
  | true =>
    rw [powerOn_of_open hloop]
    exact ⟨rfl, rfl, rfl, rfl, rfl, rfl, rfl, rfl, rfl, rfl, rfl⟩
  | false =>
    rw [powerOn_of_closed hloop]
    exact ⟨rfl, rfl, rfl, rfl, rfl, rfl, rfl, rfl, rfl, rfl, rfl⟩

/-- Settles O11, by the level of the loop. -/
theorem powerOnGivesPowerOnValues : Obligations.PowerOnGivesPowerOnValues := by
  intro s
  obtain ⟨hpending, hfree, hfit, hsupply, hseq, hvehicle, hflow, hruns, hdrive, htrackers, hlines⟩ := powerOn_values s
  refine ⟨powerOn s, rfl, hpending, hfree, hfit, hsupply, hseq, hvehicle, hflow, fun g => ?_, hdrive, fun a => ?_, fun l => ?_,
    fun hclosed => ?_, fun hopen => ?_⟩
  · rw [State.run?, hruns]
    cases g <;> rfl
  · rw [State.tracker, htrackers, ← State.tracker, overLines_tracker]
  · rw [State.line, hlines, ← State.line, overLines_line]
  · rw [powerOn_of_closed hclosed]
    refine ⟨?_, rfl, rfl, rfl⟩
    simp only [State.overLines, hclosed]
    rfl
  · rw [powerOn_of_open hopen]
    refine ⟨?_, rfl, rfl, ?_⟩
    · have hoperator : (takeConditions s.startedStopped).operator =
          { (s.overLines State.reset).operator with estop := .active, loopOpen := true } := rfl
      rw [hoperator]
      simp only [State.overLines, hopen]
      rfl
    · rw [takeConditions, startedStopped_conditions]
      rfl

end Sys2Proof.Machine
end


section
/-! PROOFS. The start of a proving test (O34), and the ends of all orders at a stop and at a group reset (O52, O33). -/

namespace Sys2Proof.Machine

theorem proveRequest_of_open {s : State} (h : s.fitment.locked = false) : proveRequest s = (s, .no .notLocked) :=
  if_pos (by simp [h])

/-- R126: what makes PROVE be refused BUSY. -/
def State.provesNot (s : State) : Prop :=
  s.drive.prove.overall = .running ∨ s.operator.estop ≠ .clear ∨ (∃ o ∈ s.seq.orders, o.state.isActive = true) ∨
    s.flow.pump ≠ .off

theorem State.provesNot_iff (s : State) :
    (s.proving || decide (s.operator.estop ≠ .clear) || s.anyActive || decide (s.flow.pump ≠ .off)) = true ↔ s.provesNot := by
  simp [State.proving, State.anyActive, State.provesNot, or_assoc]

theorem proveRequest_of_busy {s : State} (hlocked : s.fitment.locked = true) (h : s.provesNot) :
    proveRequest s = (s, .no .busy) := by
  rw [proveRequest, if_neg (by simp [hlocked]), if_pos (s.provesNot_iff.mpr h)]

theorem proveRequest_of_idle {s : State} (hlocked : s.fitment.locked = true) (h : ¬ s.provesNot) :
    proveRequest s = (startProve s, .ok) := by
  rw [proveRequest, if_neg (by simp [hlocked]), if_neg (fun h' => h (s.provesNot_iff.mp h'))]

/-- R127: some channel of every fitted group is visited. -/
theorem nextVisit_zero_of_fitted {s : State} {g : Group} (h : s.fitted g = true) : (s.nextVisit 0).isSome = true := by
  have hmember : ∃ c : Channel, channelGroup c = g := by
    cases g with
    | lift => exact ⟨0, rfl⟩
    | kerb => exact ⟨Side.kerb.latch, rfl⟩
    | road => exact ⟨Side.road.latch, rfl⟩
  obtain ⟨c, hc⟩ := hmember
  rw [State.nextVisit, List.find?_isSome]
  exact ⟨c, mem_allChannels c, by simp [hc, h]⟩

/-- R126: an accepted PROVE with a group fitted. -/
theorem startProve_of_fitted {s : State} {g : Group} (h : s.fitted g = true) :
    startProve s = latch .provingFailed .none (s.modProve fun _ => Prove.start s.supply.time) := by
  have hvisit : (latch .provingFailed .none (s.modProve fun _ => Prove.start s.supply.time)).nextVisit 0 = s.nextVisit 0 := rfl
  refine if_neg ?_
  rw [hvisit, Option.isNone_iff_eq_none]
  intro hnone
  simpa [hnone] using nextVisit_zero_of_fitted h

/-- Settles O34, check by check. -/
theorem proveStartsTheTest : Obligations.ProveStartsTheTest := by
  refine fun tag s h => ⟨fun hopen => request_refused .prove tag proveRequest h (proveRequest_of_open hopen),
    fun hlocked hbusy => request_refused .prove tag proveRequest h (proveRequest_of_busy hlocked hbusy),
    fun hlocked hrun hclear hidle hoff hfit => ?_⟩
  obtain ⟨g, hg⟩ := hfit
  have hfree : ¬ s.provesNot := by
    rintro (h' | h' | ⟨o, ho, h'⟩ | h')
    · exact hrun h'
    · exact h' hclear
    · simp [hidle o ho] at h'
    · exact h' hoff
  have hok := proveRequest_of_idle hlocked hfree
  rw [startProve_of_fitted hg] at hok
  exact request_ok .prove tag proveRequest h hok

/-! ### Orders aborted together -/

/-- The ends of several orders, one after another, their claims withdrawn first. -/
def abortThese (why : Reason) (xs : List Order) (s : State) : State :=
  xs.foldl (fun s o => markEnded o.number .aborted (some why) (withdraw o.number s)) s

/-- The record o ends ABORTED in state s. -/
def State.aborts (s : State) (why : Reason) (o : Order) : Order :=
  o.atEnd .aborted (some why) s.supply.time s.skew s.seq.endRank

theorem markEnded_aborted_rest (n : Nat) (why : Option Reason) (s : State) :
    (markEnded n .aborted why s).seq.endRank = s.seq.endRank ∧ (markEnded n .aborted why s).link.outgoing = s.link.outgoing ∧
      (markEnded n .aborted why s).faults.resetting = s.faults.resetting := by
  have hrun (g : Group) (u : State) : (endRun g u).faults.resetting = u.faults.resetting := by
    unfold endRun
    split
    · rfl
    · dsimp only
      split <;> rfl
  cases ho : s.order? n with
  | none => rw [markEnded, ho]; exact ⟨rfl, rfl, rfl⟩
  | some o =>
    rw [markEnded_eq ho, if_neg (by decide)]
    have hstop : (s.stopped o).seq.endRank = s.seq.endRank ∧ (s.stopped o).link = s.link ∧
        (s.stopped o).faults.resetting = s.faults.resetting := by
      unfold State.stopped
      split
      · exact ⟨by simp [stopTimers], by simp, by simp [hrun]⟩
      · exact ⟨rfl, rfl, rfl⟩
    obtain ⟨hrank, hlink, hresetting⟩ := hstop
    refine ⟨?_, ?_, ?_⟩
    · rw [← hrank]; simp [State.reachesEnd, State.modOrder]
    · rw [← hlink]; simp [State.reachesEnd, State.noticeOrder, Link.outgoing]
    · rw [← hresetting]; simp [State.reachesEnd]

/-- What an end with nothing waiting leaves as it was. -/
theorem abortOne_rest {s : State} (h : s.flow.waiting = []) (n : Nat) (why : Option Reason) :
    let t := markEnded n .aborted why (withdraw n s)
    t.flow.waiting = [] ∧ t.seq.endRank = s.seq.endRank ∧ t.supply = s.supply ∧ t.trackers = s.trackers ∧
      t.link.outgoing = s.link.outgoing ∧ t.faults.resetting = s.faults.resetting ∧
      t.faults.entries.length = s.faults.entries.length ∧ t.faults.flags = s.faults.flags ∧
      t.seq.orders = s.seq.orders.map fun o =>
        if o.number = n then o.atEnd .aborted why s.supply.time s.skew s.seq.endRank else o := by
  obtain ⟨hwaiting, -⟩ := withdraw_flow h n
  obtain ⟨hseq, -, -⟩ := withdraw_rest h n
  obtain ⟨hflow, horders⟩ := markEnded_aborted (n := n) (res := .aborted) (by decide) why (withdraw n s)
  obtain ⟨hrank, hout, hresetting⟩ := markEnded_aborted_rest n why (withdraw n s)
  obtain ⟨hlength, hflags⟩ := markEnded_faults (res := .aborted) (by decide) n why (withdraw n s)
  have hskew : (withdraw n s).skew = s.skew := by simp [State.skew, State.tracker]
  refine ⟨by rw [hflow, hwaiting], by rw [hrank, hseq], by simp, by simp, by rw [hout]; simp, by rw [hresetting]; simp,
    by rw [hlength]; simp, by rw [hflags]; simp, ?_⟩
  rw [horders, hseq, hskew]
  simp

/-- What several ends leave as it was. -/
theorem abortThese_rest (why : Reason) (xs : List Order) : ∀ {s : State}, s.flow.waiting = [] →
    (abortThese why xs s).flow.waiting = [] ∧ (abortThese why xs s).link.outgoing = s.link.outgoing ∧
      (abortThese why xs s).faults.resetting = s.faults.resetting ∧
      (abortThese why xs s).faults.entries.length = s.faults.entries.length ∧
      (abortThese why xs s).faults.flags = s.faults.flags := by
  induction xs with
  | nil => exact fun h => ⟨h, rfl, rfl, rfl, rfl⟩
  | cons x xs ih =>
    intro s h
    obtain ⟨hwaiting, -, -, -, hout, hresetting, hlength, hflags, -⟩ := abortOne_rest h x.number (some why)
    obtain ⟨h1, h2, h3, h4, h5⟩ := ih hwaiting
    exact ⟨h1, h2.trans hout, h3.trans hresetting, h4.trans hlength, h5.trans hflags⟩

/-- R34, R35: the records after several ends. -/
theorem abortThese_orders (why : Reason) (xs : List Order) : ∀ {s : State}, s.flow.waiting = [] →
    (xs.map (·.number)).Nodup →
    (abortThese why xs s).seq.orders =
      s.seq.orders.map fun o => if o.number ∈ xs.map (·.number) then s.aborts why o else o := by
  induction xs with
  | nil => intro s _ _; simp [abortThese]
  | cons x xs ih =>
    intro s h hnodup
    obtain ⟨hwaiting, hrank, hsupply, htrackers, -, -, -, -, horders⟩ := abortOne_rest h x.number (some why)
    obtain ⟨hx, hnodup'⟩ := List.nodup_cons.1 (by simpa using hnodup : ((x.number :: xs.map (·.number)).Nodup))
    have hcons : abortThese why (x :: xs) s =
        abortThese why xs (markEnded x.number .aborted (some why) (withdraw x.number s)) := rfl
    rw [hcons, ih hwaiting hnodup', horders, List.map_map]
    generalize markEnded x.number .aborted (some why) (withdraw x.number s) = u at *
    have hsame (o : Order) : u.aborts why o = s.aborts why o := by
      simp only [State.aborts, hsupply, hrank, State.skew, State.tracker, htrackers]
    refine List.map_congr_left fun o _ => ?_
    simp only [Function.comp, List.map_cons, List.mem_cons, hsame]
    by_cases ho : o.number = x.number
    · have hnot : (s.aborts why o).number ∉ xs.map (·.number) := by
        have hnumber : (s.aborts why o).number = o.number := rfl
        rw [hnumber, ho]
        exact hx
      rw [if_pos ho]
      exact (if_neg hnot).trans (if_pos (.inl ho)).symm
    · simp [ho]

theorem abortOrders_eq (p : Order → Bool) (why : Reason) (s : State) :
    abortOrders p why s = abortThese why (s.seq.orders.filter fun o => p o && decide (o.state ≠ .ended)) s := rfl

/-- R34, R35: every order that the test picks and that has not ended ends ABORTED, and no other record changes. -/
theorem abortOrders_orders {p : Order → Bool} {s : State} (why : Reason) (h : s.flow.waiting = [])
    (hnodup : (s.seq.orders.map (·.number)).Nodup) :
    (abortOrders p why s).seq.orders =
      s.seq.orders.map fun o => if p o = true ∧ o.state ≠ .ended then s.aborts why o else o := by
  rw [abortOrders_eq, abortThese_orders why _ h (hnodup.sublist (List.filter_sublist.map _))]
  refine List.map_congr_left fun o ho => ?_
  have hiff : o.number ∈ (s.seq.orders.filter fun o => p o && decide (o.state ≠ .ended)).map (·.number) ↔
      p o = true ∧ o.state ≠ .ended := by
    constructor
    · intro hmem
      obtain ⟨x, hx, hnumber⟩ := List.mem_map.1 hmem
      obtain ⟨hxmem, hpick⟩ := List.mem_filter.1 hx
      obtain rfl := List.inj_on_of_nodup_map hnodup hxmem ho hnumber
      simpa using hpick
    · intro hpick
      exact List.mem_map_of_mem (List.mem_filter.2 ⟨ho, by simpa using hpick⟩)
  simp only [hiff]

/-- The aborted record in the words of the statements, its noticed field left out. -/
theorem State.aborts_unmarked (s : State) (why : Reason) (o : Order) :
    (s.aborts why o).unmarked =
      ({ o with state := .ended, endedAt := some s.supply.time, result := some .aborted, reason := some why,
                residual := if o.group = .lift then some s.skew else none, outcome := none, pendResult := none,
                pendReason := none, endRank := s.seq.endRank } : Order).unmarked := rfl

/-! ### The pairs at a release -/

theorem startDead_resumable (p q : PairNo) (m : Option Member) (s : State) :
    ((startDead p m s).pair q).resumable = if p = q then m else (s.pair q).resumable := by
  have hmod (f : Pair → Pair) (u : State) (hu : ∀ r, u.pair r = s.pair r) (hf : ∀ x, (f x).resumable = m) :
      ((u.modPair p f).pair q).resumable = if p = q then m else (s.pair q).resumable := by
    split
    · rename_i h
      subst h
      rw [State.modPair_pair_self]
      exact hf _
    · rename_i h
      rw [State.modPair_pair_ne _ h, hu]
  unfold startDead
  split
  · exact hmod _ s (fun _ => rfl) fun _ => rfl
  · exact hmod (fun x => { x with dead := some (Config.absentDeadTime s.free).val, resumable := m }) s (fun _ => rfl)
      fun _ => rfl

theorem release_resumable (c : Channel) (q : PairNo) (s : State) :
    ((release c s).pair q).resumable = if channelPair c = some q then none else (s.pair q).resumable := by
  have hclear (p : PairNo) (u : State) : ((clearWaiting p (channelMember c) u).pair q).resumable = (u.pair q).resumable := by
    by_cases hpq : p = q
    · subst hpq
      rw [clearWaiting, State.modPair_pair_self]
      split <;> rfl
    · rw [clearWaiting, State.modPair_pair_ne _ hpq]
  unfold release
  dsimp only
  split
  · rename_i p hp
    rw [startDead_resumable, hclear]
    simp only [hp, Option.some.injEq]
    rfl
  · rename_i hp
    simp only [hp]
    rfl

/-- R117: after a release of every channel no pair holds a resumable member. -/
theorem releaseAll_resumable (cs : List Channel) (q : PairNo) : ∀ s : State,
    ((releaseAll cs s).pair q).resumable =
      if ∃ c ∈ cs, channelPair c = some q then none else (s.pair q).resumable := by
  induction cs with
  | nil => intro s; simp [releaseAll]
  | cons c cs ih =>
    intro s
    have hcons : releaseAll (c :: cs) s = releaseAll cs (release c s) := rfl
    rw [hcons, ih, release_resumable]
    by_cases hc : channelPair c = some q
    · simp [hc]
    · simp [hc]

theorem releaseAll_pair (q : PairNo) (s : State) :
    ((releaseAll allChannels s).pair q).waiting = none ∧ ((releaseAll allChannels s).pair q).resumable = none := by
  refine ⟨(releaseAll_driveOff s).2 q, ?_⟩
  rw [releaseAll_resumable, if_pos ⟨memberChannel q .even, mem_allChannels _, (channelPair_memberChannel q .even).1⟩]

theorem releaseAll_length (cs : List Channel) : ∀ s : State,
    (releaseAll cs s).faults.entries.length = s.faults.entries.length := by
  induction cs with
  | nil => exact fun s => rfl
  | cons c cs ih =>
    intro s
    have hcons : releaseAll (c :: cs) s = releaseAll cs (release c s) := rfl
    rw [hcons, ih, release_faults, FaultTable.latch_length]

/-! ### The opening of the loop -/

/-- R165: the ESTOP entry sets no flag. -/
theorem FaultTable.raise_estop_flags {t : FaultTable} (now : U32) (hsound : t.sound) (hroom : t.entries.length < 16) :
    (t.raise .estop .none now).flags = t.flags := by
  rw [FaultTable.raise_flags now hsound hroom]
  split
  · rfl
  · have hnone : (Entry.fresh .estop .none now).inhibit = Inhibits.none :=
      ite_self _
    simp [hnone, Inhibits.union, Inhibits.none]

/-- R119, R129: the state once every channel is released and a running test abandoned. -/
def State.driveStopped (s : State) : State := abandonProve (releaseAll allChannels (setEstop .active none s))

theorem State.driveStopped_rest (s : State) :
    s.driveStopped.seq = s.seq ∧ s.driveStopped.supply = s.supply ∧ s.driveStopped.trackers = s.trackers ∧
      s.driveStopped.fitment = s.fitment ∧ s.driveStopped.operator = { s.operator with estop := .active, release := none } ∧
      (∀ c, s.driveStopped.chan c = Chan.reset) ∧
      (∀ p, (s.driveStopped.pair p).waiting = none ∧ (s.driveStopped.pair p).resumable = none) ∧
      s.driveStopped.drive.prove.overall = (if s.drive.prove.overall = .running then .abandoned else s.drive.prove.overall) ∧
      s.driveStopped.drive.prove.results = s.drive.prove.results ∧ (s.faults.sound → s.driveStopped.faults.sound) ∧
      s.driveStopped.faults.entries.length = s.faults.entries.length ∧ s.driveStopped.faults.flags = s.faults.flags := by
  have hchan (c : Channel) : (releaseAll allChannels (setEstop .active none s)).chan c = Chan.reset := by
    rw [releaseAll_chan, if_pos (mem_allChannels c)]
  have hpair (p : PairNo) := releaseAll_pair p (setEstop .active none s)
  have hprove : (releaseAll allChannels (setEstop .active none s)).drive.prove = s.drive.prove := releaseAll_prove _ _
  have hsound (h : s.faults.sound) : (releaseAll allChannels (setEstop .active none s)).faults.sound :=
    releaseAll_sound _ h
  have hlength : (releaseAll allChannels (setEstop .active none s)).faults.entries.length = s.faults.entries.length :=
    releaseAll_length _ _
  have hflags : (releaseAll allChannels (setEstop .active none s)).faults.flags = s.faults.flags :=
    (releaseAll_flags allChannels (setEstop .active none s)).1
  refine ⟨by simp [State.driveStopped, setEstop, State.noticeStop], by simp [State.driveStopped, setEstop, State.noticeStop],
    by simp [State.driveStopped, setEstop, State.noticeStop], by simp [State.driveStopped, setEstop, State.noticeStop],
    by simp [State.driveStopped, setEstop, State.noticeStop], ?_⟩
  unfold State.driveStopped
  generalize releaseAll allChannels (setEstop .active none s) = u at *
  unfold abandonProve
  rw [hprove]
  split
  · exact ⟨hchan, hpair, rfl, (congrArg Prove.results hprove : u.drive.prove.results = _), hsound, hlength, hflags⟩
  · exact ⟨hchan, hpair, by rw [hprove], by rw [hprove], hsound, hlength, hflags⟩

/-- R34, R67: the state once the flow is empty and every order has ended. -/
def State.workAborted (s : State) : State := abortOrders (fun _ => true) .estop (emptyFlow s.driveStopped)

theorem State.workAborted_rest (s : State) :
    s.workAborted.supply = s.supply ∧ s.workAborted.fitment = s.fitment ∧
      s.workAborted.drive = s.driveStopped.drive ∧ s.workAborted.operator = s.driveStopped.operator ∧ s.workAborted.flowOff ∧
      s.workAborted.allEnded ∧ s.workAborted.faults.entries.length = s.faults.entries.length ∧
      s.workAborted.faults.flags = s.faults.flags ∧ (s.faults.sound → s.workAborted.faults.sound) ∧
      ((s.seq.orders.map (·.number)).Nodup →
        s.workAborted.seq.orders =
          s.seq.orders.map fun o => if o.state ≠ .ended then s.aborts .estop o else o) := by
  obtain ⟨hseq, hsupply, htrackers, hfit, -, -, -, -, -, hsound, hlength, hflags⟩ := s.driveStopped_rest
  have hflow := emptyFlow_flowOff s.driveStopped
  rw [State.workAborted]
  generalize s.driveStopped = d at *
  obtain ⟨hended, hoff⟩ := abortOrders_ended .estop hflow
  obtain ⟨-, -, -, hlength', hflags'⟩ := abortThese_rest .estop
    ((emptyFlow d).seq.orders.filter fun o => true && decide (o.state ≠ .ended)) hflow.2.1
  rw [← abortOrders_eq (fun _ => true)] at hlength' hflags'
  have hemptied : (emptyFlow d).faults = d.faults := by simp
  have hsame (o : Order) : (emptyFlow d).aborts .estop o = s.aborts .estop o := by
    simp [State.aborts, State.skew, State.tracker, hseq, hsupply, htrackers]
  have hseq' : (emptyFlow d).seq = s.seq := by simp [hseq]
  refine ⟨by simp [hsupply], by simp [hfit], by simp, by simp, hoff, hended, hlength'.trans (by rw [hemptied, hlength]),
    hflags'.trans (by rw [hemptied, hflags]), fun h => abortOrders_sound _ _ (by rw [hemptied]; exact hsound h),
    fun hnodup => ?_⟩
  rw [abortOrders_orders .estop hflow.2.1 (by rw [hseq']; exact hnodup), hseq']
  simp [hsame]

/-- R141: the machine's entry to ACTIVE from CLEAR, with its entry made. -/
theorem estopFromClear_of_room {s : State} (hsound : s.faults.sound) (hroom : s.faults.entries.length < 16) :
    estopFromClear s = reportStopScene (raise .estop .none (idleAfter s s.workAborted)) := by
  obtain ⟨-, -, -, -, -, -, hlength, -, hsound', -⟩ := s.workAborted_rest
  have hfaults : (idleAfter s s.workAborted).faults = s.workAborted.faults := by simp
  have hraise : raiseFault .estop .none (idleAfter s s.workAborted) = raise .estop .none (idleAfter s s.workAborted) := by
    refine reportFlags_of_eq ?_
    rw [raise_faults, hfaults]
    exact FaultTable.raise_estop_flags _ (hsound' hsound) (by rw [hlength]; exact hroom)
  rw [estopFromClear_eq, ← hraise]
  rfl

/-- The state whose machine has taken the opening of the loop. -/
def State.loopOpened (s : State) : State := takeLoop true (setLoopLine true s)

theorem loopOpens_of_clear {s : State} (hrun : s.supply.mode = .run) (hclear : s.operator.estop = .clear) :
    loopOpens s = estopFromClear s.loopOpened := by
  have hmode : (setLoopLine true s).supply.mode = .run := hrun
  have hestop : (takeLoop true (setLoopLine true s)).operator.estop = .clear := hclear
  unfold loopOpens estopOpening
  dsimp only
  rw [if_pos hmode, hestop]
  rfl

/-- Settles O52, by the state of the machine. -/
theorem loopOpeningStopsEverything : Obligations.LoopOpeningStopsEverything := by
  refine ⟨fun s hrun hclear hsound hroom hnodup => ?_, fun s hrun hestop => ?_, fun s hrun => ?_⟩
  · obtain ⟨t, hexec, hq⟩ := event_next loopOpens s
    rw [loopOpens_of_clear hrun hclear, estopFromClear_of_room (s := s.loopOpened) hsound hroom] at hq
    have ht := State.matches_of_quiet hq
    obtain ⟨hsupply, hfit, hdrive, hoperator, ⟨hpump, hwaiting, hgranted⟩, -, hlength, hflags, hsound', horders⟩ :=
      s.loopOpened.workAborted_rest
    obtain ⟨-, -, -, -, hoperator', hchan, hpair, hoverall, hresults, -, -, -⟩ := s.loopOpened.driveStopped_rest
    have hscene : t.beacon.active[7] = decide (t.operator.estop ≠ .clear) := by
      rw [ht.beacon, ht.operator, reportStopScene, reportScene_active]
      simp
    generalize hu : s.loopOpened.workAborted = u at *
    have hdone : t.operator = { s.loopOpened.operator with estop := .active, release := none } := by
      rw [ht.operator, ← hoperator', ← hoperator]; simp
    have hdrive' : t.drive = s.loopOpened.driveStopped.drive := by rw [ht.drive, ← hdrive]; simp
    have hfaults : t.faults = u.faults.raise .estop .none u.supply.time := by rw [ht.faults]; simp
    have hflow : t.flow = u.flow := by rw [ht.flow]; simp
    refine ⟨t, hexec, by rw [hdone], by rw [hdone]; rfl, by rw [hdone]; rfl, by rw [hdone], fun c => ?_, fun p => ?_,
      by rw [hflow, hpump], by rw [hflow, hwaiting], by rw [hflow, hgranted], ?_, ?_, ?_, ?_, ?_, ?_, ?_⟩
    · rw [State.chan, hdrive']; exact hchan c
    · rw [State.pair, hdrive']; exact hpair p
    · have hrecords : t.records = u.seq.orders.map Order.unmarked := by
        rw [ht.records]
        exact records_congr (by simp)
      rw [hrecords, horders hnodup, List.map_map, List.map_map]
      refine List.map_congr_left fun o _ => ?_
      simp only [Function.comp]
      split <;> rfl
    · rw [hdrive', hoverall]; rfl
    · rw [hdrive', hresults]; rfl
    · rw [hfaults]
      exact FaultTable.raise_active _ _ _ (by rw [hlength]; exact hroom)
    · rw [hfaults, FaultTable.raise_estop_flags _ (hsound' hsound) (by rw [hlength]; exact hroom), hflags]
      rfl
    · rw [hscene, hdone]; rfl
    · rw [ht.fitment, show s.fitment = s.loopOpened.fitment from rfl, ← hfit]; simp
  · obtain ⟨t, hexec, hq⟩ := event_next loopOpens s
    refine ⟨t, hexec, hq.trans ?_⟩
    have hmode : (setLoopLine true s).supply.mode = .run := hrun
    have hsame : (takeLoop true (setLoopLine true s)).operator.estop = s.operator.estop := rfl
    unfold loopOpens estopOpening
    dsimp only
    rw [if_pos hmode, hsame]
    rcases hestop with h | h <;> rw [h] <;> rfl
  · obtain ⟨t, hexec, hq⟩ := event_next loopOpens s
    exact ⟨t, hexec, hq.trans (congrArg State.quiet (if_neg hrun))⟩

/-! ### The group reset -/

theorem coded_group {b : Byte} {g : Group} (h : b.toNat = g.idx.val) : coded Group.all b = some g := by
  unfold coded; rw [h]; cases g <;> rfl

theorem groupResetRequest_of_idle {code : Byte} {g : Group} {s : State} (hcode : code.toNat = g.idx.val)
    (hlocked : s.fitment.locked = true) (hfitted : s.fitted g = true) (hnone : s.faults.resetting[g.idx] = none) :
    groupResetRequest code s = (resetGroup g s, .done (1 :: b16 (s.resetInterval g))) := by
  unfold groupResetRequest
  rw [coded_group hcode]
  simp only [hlocked, hfitted, hnone, Bool.not_true, Bool.false_eq_true, if_false]

theorem groupResetRequest_of_resetting {code : Byte} {g : Group} {s : State} {left : Nat} (hcode : code.toNat = g.idx.val)
    (hlocked : s.fitment.locked = true) (hfitted : s.fitted g = true) (hleft : s.faults.resetting[g.idx] = some left) :
    groupResetRequest code s = (s, .done (1 :: b16 left)) := by
  unfold groupResetRequest
  rw [coded_group hcode]
  simp only [hlocked, hfitted, hleft, Bool.not_true, Bool.false_eq_true, if_false]

/-- R35: what the aborts of a group reset leave of the rest. -/
theorem abortGroup_rest {g : Group} {s : State} (h : s.flow.waiting = []) (hnodup : (s.seq.orders.map (·.number)).Nodup) :
    (abortGroup g s).drive = s.drive ∧ (abortGroup g s).operator = s.operator ∧ (abortGroup g s).fitment = s.fitment ∧
      (abortGroup g s).link.outgoing = s.link.outgoing ∧ (abortGroup g s).faults.resetting = s.faults.resetting ∧
      (abortGroup g s).seq.orders =
        s.seq.orders.map fun o => if o.group = g ∧ o.state ≠ .ended then s.aborts .groupReset o else o := by
  obtain ⟨-, hout, hresetting, -, -⟩ := abortThese_rest .groupReset
    (s.seq.orders.filter fun o => decide (o.group = g) && decide (o.state ≠ .ended)) h
  have horders := abortOrders_orders (p := fun o => decide (o.group = g)) .groupReset h hnodup
  simp only [decide_eq_true_eq] at horders
  rw [← abortOrders_eq (fun o => decide (o.group = g))] at hout hresetting
  unfold abortGroup
  dsimp only
  split
  · exact ⟨by simp, by simp, by simp, hout, hresetting, horders⟩
  · refine ⟨by simp, by simp, by simp, ?_, ?_, ?_⟩
    · rw [← hout]; simp
    · rw [← hresetting]; simp
    · rw [← horders]; simp

/-- Settles O33, by the RESETTING timer of the group. -/
theorem groupResetAbortsAndReleases : Obligations.GroupResetAbortsAndReleases := by
  refine fun tag code g s h hcode hlocked hfitted => ⟨fun hnone hwaiting hnodup => ?_, fun left hleft => ?_⟩
  · obtain ⟨hdrive, hoperator, hfit, hout, hresetting, horders⟩ := abortGroup_rest (g := g) hwaiting hnodup
    have heq := groupResetRequest_of_idle hcode hlocked hfitted hnone
    obtain ⟨t, hexec, hq⟩ := request_done .groupReset tag (groupResetRequest code) h heq
    obtain ⟨-, -, -, -, -, -, -, houtgoing⟩ := State.quiet_link hq
    have ht := State.matches_of_quiet hq
    have hreset : resetGroup g s =
        setResetting g (some (s.resetInterval g)) (releaseGroup g (abortGroup g s)) := by
      have hinterval : (releaseGroup g (abortGroup g s)).resetInterval g = s.resetInterval g := by
        have hfit' : (releaseGroup g (abortGroup g s)).fitment = s.fitment := (by simp [releaseGroup] : _ = (abortGroup g s).fitment).trans hfit
        cases g <;>
          simp only [State.resetInterval, State.deadTime, State.chanRec?, State.profileField, State.profile?, hfit']
      rw [← hinterval]
      rfl
    have hchan (c : Channel) : t.chan c =
        if channelGroup c = g ∧ s.drive.prove.driving ≠ some c then Chan.reset else s.chan c := by
      have hrel : t.chan c = (releaseGroup g (abortGroup g s)).chan c := by rw [ht.chan, hreset]; rfl
      rw [hrel, releaseGroup, releaseAll_chan, State.chan, hdrive]
      simp only [List.mem_filter, Group.mem_channels, decide_eq_true_eq]
      rfl
    refine ⟨t, hexec, ?_, fun c hc hdriving => ?_, fun c hc => ?_, ?_, ?_, ?_, ?_, ?_⟩
    · have hrecords : t.records = (abortGroup g s).seq.orders.map Order.unmarked := by
        rw [ht.records, hreset]
        exact records_congr (by simp [setResetting, releaseGroup, State.doneReply, State.withReply])
      rw [hrecords, horders, List.map_map, List.map_map]
      refine List.map_congr_left fun o _ => ?_
      simp only [Function.comp]
      split <;> rfl
    · rw [hchan, if_pos ⟨hc, hdriving⟩]
    · rw [hchan, if_neg fun h' => hc h'.1]
    · have hres : t.faults.resetting =
          (releaseGroup g (abortGroup g s)).faults.resetting.set g.idx (some (s.resetInterval g)) := by
        rw [ht.faults, hreset]; rfl
      rw [hres, releaseGroup, (releaseAll_flags _ _).2, hresetting]
    · rw [houtgoing]
      refine State.doneReply_outgoing_of_outgoing ?_ _ _ _
      rw [hreset, ← hout]
      exact congrArg Link.outgoing (show (setResetting _ _ (releaseGroup g (abortGroup g s))).link = _ by
        simp [setResetting, releaseGroup])
    · have hprove : t.drive.prove = (releaseGroup g (abortGroup g s)).drive.prove := by rw [ht.drive, hreset]; rfl
      rw [hprove, releaseGroup, releaseAll_prove, hdrive]
    · rw [ht.operator, hreset, ← hoperator]
      simp [setResetting, releaseGroup, State.doneReply, State.withReply]
    · rw [ht.fitment, hreset, ← hfit]
      simp [setResetting, releaseGroup, State.doneReply, State.withReply]
  · exact request_done .groupReset tag (groupResetRequest code) h
      (groupResetRequest_of_resetting hcode hlocked hfitted hleft)

end Sys2Proof.Machine
end


section
/-! PROOFS. Coil faults (O57), and what every immediate end leaves. -/

namespace Sys2Proof.Machine

/-! ### Flags reported after an immediate end -/

theorem meetInhibit_of_settling {s : State} {g : Group} {o : Order} (hactive : s.active? g = some o)
    (hstate : o.state = .settling) (old : Inhibits) : meetInhibit old g s = s := by
  unfold meetInhibit applyInhibit
  rw [hactive]
  simp [hstate]

/-- R16: no active order is reached by the flags as they stand against these. -/
def State.unreached (s : State) (old : Inhibits) : Prop := ∀ g, meetInhibit old g s = s

/-- R165: flags that reach no order, with PUMPED as it was, reach the Beacon Engine alone. -/
theorem reportFlags_of_unreached {s : State} {old : Inhibits} (h : s.unreached old)
    (hpumped : s.faults.flags.pumped = old.pumped) :
    reportFlags old s = if s.faults.flags = old then s else reportFaultScene s := by
  unfold reportFlags
  split
  · rfl
  · simp only [Group.all, List.foldl_cons, List.foldl_nil, h _, reportCleared, hpumped]
    simp

theorem reportFlags_rest_of_unreached {s : State} {old : Inhibits} (h : s.unreached old)
    (hpumped : s.faults.flags.pumped = old.pumped) :
    (reportFlags old s).seq = s.seq ∧ (reportFlags old s).faults = s.faults ∧ (reportFlags old s).flow = s.flow ∧
      (reportFlags old s).drive = s.drive ∧ (reportFlags old s).trackers = s.trackers ∧
      (reportFlags old s).runs = s.runs := by
  rw [reportFlags_of_unreached h hpumped]
  split <;> simp [reportFaultScene]

/-! ### Entries of a code that releases and latches leave standing -/

/-- The table holds an entry of this code and subject. -/
def FaultTable.holds (t : FaultTable) (code : FaultCode) (x : Subject) : Prop :=
  ∃ e ∈ t.entries, e.code = code ∧ e.subject = x

/-- The table holds one that is LATCHED. -/
def FaultTable.holdsLatched (t : FaultTable) (code : FaultCode) (x : Subject) : Prop :=
  ∃ e ∈ t.entries, e.code = code ∧ e.subject = x ∧ e.active = false

section Latched

variable {t : FaultTable} {code : FaultCode} {x : Subject}

/-- R163: the end of a condition leaves a LATCHED entry LATCHED. -/
theorem FaultTable.holdsLatched.latch (h : t.holdsLatched code x) (c : FaultCode) (y : Subject) :
    (t.latch c y).holdsLatched code x := by
  obtain ⟨e, hmem, hcode, hsubject, hactive⟩ := h
  refine ⟨_, List.mem_map.2 ⟨e, hmem, rfl⟩, ?_, ?_, ?_⟩
  all_goals
    split
    · simp [hcode, hsubject]
    · assumption

theorem FaultTable.holds.latch (h : t.holds code x) (c : FaultCode) (y : Subject) : (t.latch c y).holds code x := by
  obtain ⟨e, hmem, hcode, hsubject⟩ := h
  refine ⟨_, List.mem_map.2 ⟨e, hmem, rfl⟩, ?_, ?_⟩
  all_goals
    split
    · simp [hcode, hsubject]
    · assumption

theorem FaultTable.holds.latch_self (h : t.holds code x) : (t.latch code x).holdsLatched code x := by
  obtain ⟨e, hmem, hcode, hsubject⟩ := h
  exact FaultTable.latch_of_mem hmem hcode hsubject

end Latched

/-- R117: releases leave a LATCHED entry LATCHED. -/
theorem releaseAll_holdsLatched {code : FaultCode} {x : Subject} (cs : List Channel) : ∀ {s : State},
    s.faults.holdsLatched code x → (releaseAll cs s).faults.holdsLatched code x := by
  induction cs with
  | nil => exact fun h => h
  | cons c cs ih =>
    intro s h
    refine ih (s := release c s) ?_
    rw [release_faults]
    exact h.latch _ _

/-- R117, R163: the release of a channel latches its COIL_OPEN entry. -/
theorem releaseAll_coilOpen {c : Channel} (cs : List Channel) (hc : c ∈ cs) : ∀ {s : State},
    s.faults.holds .coilOpen (.channel c) → (releaseAll cs s).faults.holdsLatched .coilOpen (.channel c) := by
  induction cs with
  | nil => cases hc
  | cons d cs ih =>
    intro s h
    obtain rfl | hmem := List.mem_cons.1 hc
    · refine releaseAll_holdsLatched cs (s := release c s) ?_
      rw [release_faults]
      exact h.latch_self
    · refine ih hmem (s := release d s) ?_
      rw [release_faults]
      exact h.latch _ _

theorem endRun_holdsLatched {code : FaultCode} {x : Subject} (g : Group) {s : State} (h : s.faults.holdsLatched code x) :
    (endRun g s).faults.holdsLatched code x := by
  unfold endRun
  split
  · exact h
  · dsimp only
    split
    · exact h.latch _ _
    · exact h

/-! ### What else an immediate end leaves -/

/-- The active order of a group after a change of its record that leaves it active: a record that has changed. -/
theorem setOrder_active {s : State} {g : Group} {o : Order} {f : Order → Order} (hactive : s.active? g = some o)
    (hgroup : ∀ x, (f x).group = x.group) (hf : (f o).state.isActive = true) :
    ∃ y, (setOrder o.number f s).active? g = some y ∧ ∃ x, x.number = o.number ∧ y = f x := by
  obtain ⟨-, hog, -⟩ := State.mem_of_active hactive
  obtain ⟨-, before, rest, hsplit, hbefore⟩ := List.find?_eq_some_iff_append.1 hactive
  rw [State.active?, setOrder_orders, hsplit, List.find?_map, List.find?_append]
  cases hfind : before.find? ((fun o => decide (o.group = g) && o.state.isActive) ∘
      fun x => if x.number = o.number then f x else x) with
  | none =>
    refine ⟨f o, ?_, o, rfl, rfl⟩
    rw [Option.none_or, List.find?_cons_of_pos (by simp [hgroup, hog, hf])]
    simp
  | some x =>
    have hmem := List.mem_of_find?_eq_some hfind
    have hpred := List.find?_some hfind
    by_cases hx : x.number = o.number
    · exact ⟨f x, by simp [hx], x, hx, rfl⟩
    · have hnot := hbefore x hmem
      simp only [Function.comp, hx, if_false] at hpred
      simp [hpred] at hnot

section End

variable {g : Group} {o : Order} {s : State} (hactive : s.active? g = some o) (hstate : o.state = .moving ∨ o.state = .stopping)
  (why : Reason)

include hactive hstate

theorem immediateEnd_faults : (immediateEnd g why s).faults = (endRun g (withdraw o.number (releaseAll g.channels s))).faults := by
  rw [immediateEnd_eq hactive hstate]
  simp

theorem immediateEnd_flags :
    (immediateEnd g why s).faults.flags = s.faults.flags ∧
      (immediateEnd g why s).faults.entries.length = s.faults.entries.length := by
  have hreleased := releaseAll_flags g.channels s
  have hlength := releaseAll_length g.channels s
  rw [immediateEnd_faults hactive hstate]
  obtain ⟨h1, h2⟩ := endRun_faults g (withdraw o.number (releaseAll g.channels s))
  exact ⟨h2.trans (by simp [hreleased.1]), h1.trans (by simp [hlength])⟩

theorem immediateEnd_holdsLatched {code : FaultCode} {x : Subject} (h : s.faults.holdsLatched code x) :
    (immediateEnd g why s).faults.holdsLatched code x := by
  rw [immediateEnd_faults hactive hstate]
  refine endRun_holdsLatched g ?_
  have hwithdrawn : (withdraw o.number (releaseAll g.channels s)).faults = (releaseAll g.channels s).faults := by simp
  rw [hwithdrawn]
  exact releaseAll_holdsLatched _ h

theorem immediateEnd_coilOpen {c : Channel} (hc : channelGroup c = g) (h : s.faults.holds .coilOpen (.channel c)) :
    (immediateEnd g why s).faults.holdsLatched .coilOpen (.channel c) := by
  rw [immediateEnd_faults hactive hstate]
  refine endRun_holdsLatched g ?_
  have hwithdrawn : (withdraw o.number (releaseAll g.channels s)).faults = (releaseAll g.channels s).faults := by simp
  rw [hwithdrawn]
  exact releaseAll_coilOpen _ ((Group.mem_channels g c).2 hc) h

/-- R28: its settle timer runs from the settle time of its profile. -/
theorem immediateEnd_settle :
    ((immediateEnd g why s).ctl g).settle = some (s.profileField o.settleProfile (·.settle)) := by
  obtain ⟨-, hgroup, -⟩ := State.mem_of_active hactive
  have hfit : (endRun g (withdraw o.number (releaseAll g.channels s))).fitment = s.fitment := by simp
  rw [immediateEnd_eq hactive hstate, enterSettling, setOrder_ctl, hgroup, State.modCtl_ctl_self]
  simp only [State.profileField, State.profile?, hfit]

theorem immediateEnd_run_ne {h : Group} (hne : h ≠ g) (hwait : s.flow.waiting = []) :
    (immediateEnd g why s).run? h = s.run? h := by
  have hrun : (immediateEnd g why s).run? h = (endRun g (withdraw o.number (releaseAll g.channels s))).run? h := by
    rw [immediateEnd_eq hactive hstate]
    simp only [State.run?, enterSettling_frame]
  have hruns := (withdraw_rest (s := releaseAll g.channels s) (by simpa using hwait) o.number).2.1
  rw [hrun, endRun_run_ne hne, State.run?, hruns]
  simp [State.run?]

/-- R28: the active order of the group is settling then. -/
theorem immediateEnd_active (hwait : s.flow.waiting = []) :
    ∃ y, (immediateEnd g why s).active? g = some y ∧ y.state = .settling := by
  have hseq : (endRun g (withdraw o.number (releaseAll g.channels s))).seq = s.seq := by
    have hrest := (withdraw_rest (s := releaseAll g.channels s) (by simpa using hwait) o.number).1
    simp [hrest]
  have hactive' : ((endRun g (withdraw o.number (releaseAll g.channels s))).modCtl o.group fun c =>
      { c with settle := some ((endRun g (withdraw o.number (releaseAll g.channels s))).profileField o.settleProfile (·.settle)),
               latchCheck := none }).active? g = some o :=
    (State.active_congr (by rw [State.modCtl_seq_orders, hseq]) g).trans hactive
  obtain ⟨y, hy, x, -, rfl⟩ := setOrder_active hactive' (f := fun o => { o.settleFailed why with state := .settling })
    (fun _ => rfl) rfl
  exact ⟨_, by rw [immediateEnd_eq hactive hstate]; exact hy, rfl⟩

/-- R16, R28: a newly set flag of the group alone reaches no order. -/
theorem immediateEnd_unreached (hwait : s.flow.waiting = []) {old : Inhibits} {u : State}
    (hu : u.seq.orders = (immediateEnd g why s).seq.orders) (hothers : ∀ h, h ≠ g → u.faults.flags.group h = old.group h)
    (hpumped : u.faults.flags.pumped = old.pumped) : u.unreached old := by
  intro h
  by_cases hh : h = g
  · subst hh
    obtain ⟨y, hy, hsettling⟩ := immediateEnd_active hactive hstate why hwait
    exact meetInhibit_of_settling ((State.active_congr hu h).trans hy) hsettling old
  · exact meetInhibit_of_calm (fun _ _ hset => (hothers h hh) ▸ hset) fun hset => hpumped ▸ hset

end End

/-! ### Coil faults -/

/-- Table 9-2: the codes of a coil's faults. -/
def FaultCode.coil (code : FaultCode) : Prop := code = .coilOpen ∨ code = .coilShort

theorem FaultCode.coil.inhibitOf {code : FaultCode} (h : code.coil) (c : Channel) :
    Machine.inhibitOf code (.channel c) = Inhibits.ofGroup (channelGroup c) ∧ code.isStop = true := by
  rcases h with rfl | rfl <;> exact ⟨rfl, rfl⟩

/-- R125: u is the state s in which a coil fault of the channel c has just been entered, the channel perhaps released. -/
structure State.CoilEntered (s u : State) (c : Channel) : Prop where
  seq : u.seq = s.seq
  flow : u.flow = s.flow
  trackers : u.trackers = s.trackers
  operator : u.operator = s.operator
  chan : ∀ d, d ≠ c → u.chan d = s.chan d
  set : u.faults.flags.group (channelGroup c) = true
  others : ∀ h, h ≠ channelGroup c → u.faults.flags.group h = s.faults.flags.group h
  pumped : u.faults.flags.pumped = s.faults.flags.pumped

/-- R165: a raise of a coil fault in a table with room. -/
theorem coilRaise_flags {t : FaultTable} {code : FaultCode} (hcode : code.coil) (c : Channel) (now : U32) (hsound : t.sound)
    (hroom : t.entries.length < 16) :
    (t.raise code (.channel c) now).flags.group (channelGroup c) = true ∧
      (∀ h, h ≠ channelGroup c → (t.raise code (.channel c) now).flags.group h = t.flags.group h) ∧
      (t.raise code (.channel c) now).flags.pumped = t.flags.pumped := by
  obtain ⟨hinhibit, hstop⟩ := hcode.inhibitOf c
  obtain ⟨hpumped, hothers⟩ := FaultTable.raise_ofGroup now hsound hroom hstop hinhibit
  exact ⟨FaultTable.raise_sets now hsound hroom hstop (by simp [hinhibit, Inhibits.ofGroup_group]), hothers, hpumped⟩

/-- What the finding of a coil fault in the phase that drives the channel leaves, in the words of the statement. -/
def State.phaseEndedByCoil (s t : State) (o : Order) (g : Group) : Prop :=
  s.settlesFailed t o .coil ∧ (∀ c, channelGroup c = g → t.chan c = Chan.reset) ∧
    (∀ c, channelGroup c ≠ g → t.chan c = s.chan c) ∧ t.run? g = none ∧ claimed o.number t.flow.granted = false ∧
    t.trackers = s.trackers ∧ t.operator = s.operator

section Driven

variable {s t u : State} {c : Channel} {o : Order} (hu : s.CoilEntered u c) (hactive : s.active? (channelGroup c) = some o)
  (hstate : o.state = .moving ∨ o.state = .stopping) (hdrives : c ∈ o.drives) (hwait : s.flow.waiting = [])

include hu hactive hstate hdrives hwait

/-- R125: the phase that drives the channel ends at once, and the flags of its group reach no further. -/
theorem coilReport_of_driven :
    coilReport s.faults.flags c u = reportFlags s.faults.flags (immediateEnd (channelGroup c) .coil u) ∧
      (immediateEnd (channelGroup c) .coil u).unreached s.faults.flags := by
  have hact : u.active? (channelGroup c) = some o := (State.active_congr (by rw [hu.seq]) _).trans hactive
  have hwait' : u.flow.waiting = [] := by rw [hu.flow, hwait]
  obtain ⟨hflags, -⟩ := immediateEnd_flags hact hstate .coil
  constructor
  · unfold coilReport
    rw [hact]
    dsimp only
    rw [if_pos (List.contains_iff_mem.2 hdrives)]
  · exact immediateEnd_unreached hact hstate .coil hwait' rfl (fun h hne => by rw [hflags]; exact hu.others h hne)
      (by rw [hflags]; exact hu.pumped)

/-- What that leaves. -/
theorem coilReport_phaseEnded (ht : t.Matches (coilReport s.faults.flags c u)) :
    s.phaseEndedByCoil t o (channelGroup c) ∧ t.faults = (immediateEnd (channelGroup c) .coil u).faults ∧
      t.faults.flags.group (channelGroup c) = true := by
  obtain ⟨heq, hunreached⟩ := coilReport_of_driven hu hactive hstate hdrives hwait
  have hact : u.active? (channelGroup c) = some o := (State.active_congr (by rw [hu.seq]) _).trans hactive
  have hwait' : u.flow.waiting = [] := by rw [hu.flow, hwait]
  obtain ⟨hflags, -⟩ := immediateEnd_flags hact hstate .coil
  obtain ⟨hseq, hfaults, hflow, hdrive, htrackers, hruns⟩ := reportFlags_rest_of_unreached hunreached (by rw [hflags]; exact hu.pumped)
  rw [heq] at ht
  have hchan (d : Channel) : t.chan d = if channelGroup d = channelGroup c then Chan.reset else u.chan d := by
    rw [ht.chan, State.chan, hdrive, ← State.chan, immediateEnd_chan hact hstate]
  refine ⟨⟨?_, fun d hd => ?_, fun d hd => ?_, ?_, ?_, ?_, ?_⟩, ht.faults.trans hfaults, ?_⟩
  · have hrecords := immediateEnd_records (s := u) hact hstate .coil hwait'
    rw [State.settlesFailed, hu.seq] at hrecords
    exact (ht.records.trans (records_congr (by rw [hseq]))).trans hrecords
  · rw [hchan, if_pos hd]
  · rw [hchan, if_neg hd]
    exact hu.chan d fun h => hd (by rw [h])
  · rw [ht.run, State.run?, hruns]
    exact immediateEnd_run hact hstate .coil
  · rw [ht.flow, hflow, (immediateEnd_flow hact hstate .coil hwait').2, claimed_filter]
  · rw [ht.trackers, htrackers, ← hu.trackers]; simp
  · rw [ht.operator, ← hu.operator]; simp
  · rw [ht.faults, hfaults, hflags, hu.set]

end Driven

/-- R125: with no active order the flags reach the Beacon Engine alone. -/
theorem coilReport_of_noActive {s u : State} {c : Channel} (hu : s.CoilEntered u c) (hidle : s.noActive) :
    (coilReport s.faults.flags c u).faults = u.faults ∧ (coilReport s.faults.flags c u).seq = u.seq ∧
      (coilReport s.faults.flags c u).drive = u.drive := by
  have hidle' : u.noActive := fun g => (State.active_congr (by rw [hu.seq]) g).trans (hidle g)
  have heq : coilReport s.faults.flags c u = reportFlags s.faults.flags u := by
    unfold coilReport
    rw [hidle' (channelGroup c)]
  obtain ⟨hfaults, -, hseq, -, hdrive, -⟩ := reportFlags_rest_of_noActive hidle' (old := s.faults.flags) (by
    rw [hu.pumped]
    exact (Bool.eq_false_or_eq_true _).imp id id)
  rw [heq]
  exact ⟨hfaults, hseq, hdrive⟩

/-- R122, R123: a COIL_OPEN entry just made. -/
theorem coilEntered_open {s v : State} {c : Channel} (hsound : s.faults.sound) (hroom : s.faults.entries.length < 16)
    (hseq : v.seq = s.seq) (hflow : v.flow = s.flow) (htrackers : v.trackers = s.trackers) (hoperator : v.operator = s.operator)
    (hfaults : v.faults = s.faults) (hchan : ∀ d, d ≠ c → v.chan d = s.chan d) :
    s.CoilEntered (raise .coilOpen (.channel c) v) c := by
  obtain ⟨hset, hothers, hpumped⟩ := coilRaise_flags (.inl rfl) c v.supply.time hsound hroom
  refine ⟨by simp [hseq], by simp [hflow], by simp [htrackers], by simp [hoperator], fun d hd => ?_, ?_, ?_, ?_⟩
  · rw [State.chan, (raise_frame _ _ _).2.2.2.2.2.2.2.2.1, ← State.chan, hchan d hd]
  · rw [raise_faults, hfaults]; exact hset
  · rw [raise_faults, hfaults]; exact hothers
  · rw [raise_faults, hfaults]; exact hpumped

/-- R124: a COIL_SHORT entry just made, its channel released. -/
theorem coilEntered_short {s : State} {c : Channel} (hsound : s.faults.sound) (hroom : s.faults.entries.length < 16) :
    s.CoilEntered (raiseOnce .coilShort (.channel c) (release c s)) c := by
  obtain ⟨hflags, -⟩ := releaseAll_flags [c] s
  have hflags' : (release c s).faults.flags = s.faults.flags := hflags
  obtain ⟨hset, hothers, hpumped⟩ := coilRaise_flags (.inr rfl) c (release c s).supply.time (release_sound c hsound)
    (by rw [release_faults, FaultTable.latch_length]; exact hroom)
  refine ⟨by simp, by simp, by simp, by simp, fun d hd => ?_, ?_, fun h hne => ?_, ?_⟩
  · have hdrive : (raiseOnce .coilShort (.channel c) (release c s)).drive = (release c s).drive := by simp
    rw [State.chan, hdrive, ← State.chan, release_chan, if_neg (Ne.symm hd)]
  · rw [raiseOnce_faults]; exact hset
  · rw [raiseOnce_faults, ← hflags']; exact hothers h hne
  · rw [raiseOnce_faults, ← hflags']; exact hpumped

theorem State.openThr_of_chanRec {s : State} {c : Channel} {r : ChannelRec} (h : s.chanRec? c = some r) : s.openThr c = r.openThr := by
  rw [State.openThr, h]
  rfl

section Measurement

variable {s : State} {c : Channel} {r : ChannelRec} {current : Nat}

/-- R122: a measurement of a driven proportional channel, by the current and the count of low ones. -/
theorem measure_of_driven (hr : s.chanRec? c = some r) (hdriven : (s.chan c).state ≠ .idle) (hon : 100 ≤ (s.chan c).onTime) :
    (r.openThr ≤ current → measure c current s = s.modChan c fun x => { x with low := 0 }) ∧
      (current < r.openThr → (s.chan c).low + 1 < 3 → measure c current s = s.modChan c fun x => { x with low := x.low + 1 }) ∧
      (current < r.openThr → 2 ≤ (s.chan c).low →
        measure c current s = coilReport s.faults.flags c (raise .coilOpen (.channel c) (s.modChan c fun x => { x with low := 0 }))) := by
  have hmeasured : ¬ ((s.chan c).state = .idle ∨ (s.chan c).onTime < Config.minMeasuredOn) := by
    rintro (h | h)
    · exact hdriven h
    · exact absurd h (Nat.not_lt.2 hon)
  have hthr := State.openThr_of_chanRec hr
  unfold measure
  dsimp only
  rw [if_neg hmeasured, hthr]
  refine ⟨fun h => if_neg (by omega), fun h hlow => ?_, fun h hlow => ?_⟩
  · rw [if_pos h]; exact if_pos hlow
  · rw [if_pos h]; exact if_neg (Nat.not_lt.2 (Nat.succ_le_succ hlow))

theorem measure_of_undriven (h : (s.chan c).state = .idle ∨ (s.chan c).onTime < 100) : measure c current s = s := if_pos h

/-- R123: the check of a running latch pulse. -/
theorem pulseCheck_of_running {d : Side} (hrunning : (s.chan d.latch).state = .running) (hr : s.chanRec? d.latch = some r) :
    (r.openThr ≤ current → pulseCheck d current s = s) ∧
      (current < r.openThr →
        pulseCheck d current s = coilReport s.faults.flags d.latch (raise .coilOpen (.channel d.latch) s)) := by
  have hthr := State.openThr_of_chanRec hr
  unfold pulseCheck
  rw [hthr]
  exact ⟨fun h => if_neg (by omega), fun h => if_pos ⟨hrunning, h⟩⟩

/-- R124: a short on a channel whose output is on, no proving drive of it running. -/
theorem coilShort_of_on (hdriving : s.drive.prove.driving ≠ some c) (hdriven : (s.chan c).state ≠ .idle)
    (hon : 10 ≤ c.val ∨ 0 < (s.chan c).onTime) :
    coilShort c s = coilReport s.faults.flags c (raiseOnce .coilShort (.channel c) (release c s)) := by
  rw [coilShort, if_neg hdriving, if_pos]
  simpa [State.outputOn, hdriving, hdriven] using hon

theorem coilShort_of_off (hoff : s.outputOn c = false) : coilShort c s = s := by
  have hdriving : s.drive.prove.driving ≠ some c := fun h => by simp [State.outputOn, h] at hoff
  rw [coilShort, if_neg hdriving, if_neg (by simp [hoff])]

end Measurement

/-- R30: a PULSE phase drives the latch channel of its side. -/
theorem Order.drives_of_pulse {o : Order} {d : Side} (hgroup : o.group = d.group) (hpulse : o.phaseIs .pulse = true) :
    d.latch ∈ o.drives := by
  unfold Order.phaseIs at hpulse
  unfold Order.drives
  cases hp : o.phase? with
  | none => simp [hp] at hpulse
  | some p =>
    have hkind : p.kind = .pulse := by simpa [hp] using hpulse
    have hside : d.group.side? = some d := by cases d <;> rfl
    simp [hkind, hgroup, hside]

theorem channelGroup_latch (d : Side) : channelGroup d.latch = d.group := by cases d <;> rfl

/-- Settles O57, finding by finding; the phase that a fault ends is coilReport_phaseEnded's. -/
theorem coilFaultsAreFound : Obligations.CoilFaultsAreFound := by
  intro s hrun
  refine ⟨fun c ch r current hch hr hdriven hon => ?_, fun c ch current hch hundriven => ?_, fun d current hnot => ?_,
    fun d r current hrunning hr => ?_, fun c hdriving hdriven hon => ⟨fun hroom hidle => ?_, fun o hroom hdrives => ?_⟩,
    fun c hoff => ?_⟩
  · obtain rfl : ch = c.castLE (by decide) := Fin.ext hch
    generalize hc : (c.castLE (by decide) : Channel) = ch at *
    have hexec : ∀ u, measure ch current s = u → ∃ t, exec (.coilMeasurement c current) s = .next t ∧ t.quiet = u.quiet := by
      rintro u rfl
      obtain ⟨t, he, hq⟩ := runEvent_next (measure (c.castLE (by decide)) current) hrun
      exact ⟨t, he, hc ▸ hq⟩
    obtain ⟨hhigh, hlow, hopen⟩ := measure_of_driven (current := current) hr hdriven hon
    refine ⟨fun h => hexec _ (hhigh h), fun h hcount => hexec _ (hlow h hcount), fun h hcount hroom hidle => ?_,
      fun o h hcount hroom hdrives => ?_⟩
    · obtain ⟨t, he, hq⟩ := hexec _ (hopen h hcount)
      have ht := State.matches_of_quiet hq
      have hentered := coilEntered_open (v := s.modChan ch fun x => { x with low := 0 }) hroom.1 hroom.2 rfl rfl rfl rfl rfl
        fun d hd => State.modChan_chan_ne _ (Ne.symm hd) _
      obtain ⟨hfaults, hseq, hdrive⟩ := coilReport_of_noActive hentered hidle
      refine ⟨t, he, ⟨?_, ?_⟩, ?_, ?_⟩
      · rw [ht.faults, hfaults, raise_faults]
        exact FaultTable.raise_active _ _ _ hroom.2
      · rw [ht.faults, hfaults, hentered.set]
      · rw [ht.drive, hdrive]; simp
      · rw [ht.records]
        exact records_congr (by rw [hseq, hentered.seq])
    · obtain ⟨hactive, hstate, hmem, hwait⟩ := hdrives
      obtain ⟨t, he, hq⟩ := hexec _ (hopen h hcount)
      have hentered := coilEntered_open (v := s.modChan ch fun x => { x with low := 0 }) hroom.1 hroom.2 rfl rfl rfl rfl rfl
        fun d hd => State.modChan_chan_ne _ (Ne.symm hd) _
      obtain ⟨hended, hfaults, hset⟩ := coilReport_phaseEnded hentered hactive hstate hmem hwait (State.matches_of_quiet hq)
      refine ⟨t, he, ⟨?_, hset⟩, hended⟩
      rw [hfaults]
      refine immediateEnd_coilOpen ((State.active_congr (by rw [hentered.seq]) _).trans hactive) hstate .coil rfl ?_
      rw [raise_faults]
      obtain ⟨e, hmem, hcode, hsubject, -⟩ := FaultTable.raise_active s.supply.time .coilOpen (.channel ch) hroom.2
      exact ⟨e, hmem, hcode, hsubject⟩
  · obtain rfl : ch = c.castLE (by decide) := Fin.ext hch
    obtain ⟨t, he, hq⟩ := runEvent_next (measure (c.castLE (by decide)) current) hrun
    rw [measure_of_undriven hundriven] at hq
    exact ⟨t, he, hq⟩
  · obtain ⟨t, he, hq⟩ := runEvent_next (pulseCheck d current) hrun
    exact ⟨t, he, hq.trans (congrArg State.quiet (if_neg fun h => hnot h.1))⟩
  · obtain ⟨hhigh, hlow⟩ := pulseCheck_of_running (current := current) hrunning hr
    obtain ⟨t, he, hq⟩ := runEvent_next (pulseCheck d current) hrun
    refine ⟨fun h => ⟨t, he, hq.trans (congrArg State.quiet (hhigh h))⟩, fun o h hroom hactive hmoving hpulse hwait => ?_⟩
    rw [hlow h] at hq
    obtain ⟨-, hgroup, -⟩ := State.mem_of_active hactive
    have hactive' : s.active? (channelGroup d.latch) = some o := by rw [channelGroup_latch]; exact hactive
    have hentered := coilEntered_open (v := s) (c := d.latch) hroom.1 hroom.2 rfl rfl rfl rfl rfl fun _ _ => rfl
    obtain ⟨hended, hfaults, hset⟩ := coilReport_phaseEnded hentered hactive' (.inl hmoving)
      (Order.drives_of_pulse hgroup hpulse) hwait (State.matches_of_quiet hq)
    rw [← channelGroup_latch]
    refine ⟨t, he, ⟨?_, hset⟩, hended⟩
    rw [hfaults]
    refine immediateEnd_coilOpen ((State.active_congr (by rw [hentered.seq]) _).trans hactive') (.inl hmoving) .coil rfl ?_
    rw [raise_faults]
    obtain ⟨e, hmem, hcode, hsubject, -⟩ := FaultTable.raise_active s.supply.time .coilOpen (.channel d.latch) hroom.2
    exact ⟨e, hmem, hcode, hsubject⟩
  · obtain ⟨t, he, ht⟩ := runEvent_effect (coilShort c) hrun
    rw [coilShort_of_on hdriving hdriven hon] at ht
    have hentered := coilEntered_short (c := c) hroom.1 hroom.2
    obtain ⟨hfaults, hseq, hdrive⟩ := coilReport_of_noActive hentered hidle
    have hchan (d : Channel) : t.chan d = if c = d then Chan.reset else s.chan d := by
      have hdrive' : t.drive = (release c s).drive := by rw [ht.drive, hdrive]; simp
      rw [State.chan, hdrive', ← State.chan, release_chan]
    refine ⟨t, he, ⟨?_, ?_⟩, ?_, fun d hd => ?_, ?_⟩
    · rw [ht.faults, hfaults, raiseOnce_faults]
      exact FaultTable.raiseOnce_latched _ _ _ (by rw [release_faults, FaultTable.latch_length]; exact hroom.2)
    · rw [ht.faults, hfaults, hentered.set]
    · rw [hchan, if_pos rfl]
    · rw [hchan, if_neg (Ne.symm hd)]
    · rw [ht.records]
      exact records_congr (by rw [hseq, hentered.seq])
  · obtain ⟨hactive, hstate, hmem, hwait⟩ := hdrives
    obtain ⟨t, he, ht⟩ := runEvent_effect (coilShort c) hrun
    rw [coilShort_of_on hdriving hdriven hon] at ht
    have hentered := coilEntered_short (c := c) hroom.1 hroom.2
    obtain ⟨hended, hfaults, hset⟩ := coilReport_phaseEnded hentered hactive hstate hmem hwait ht
    refine ⟨t, he, ⟨?_, hset⟩, hended⟩
    rw [hfaults]
    refine immediateEnd_holdsLatched ((State.active_congr (by rw [hentered.seq]) _).trans hactive) hstate .coil ?_
    rw [raiseOnce_faults]
    exact FaultTable.raiseOnce_latched _ _ _ (by rw [release_faults, FaultTable.latch_length]; exact hroom.2)
  · obtain ⟨t, he, hq⟩ := runEvent_next (coilShort c) hrun
    rw [coilShort_of_off hoff] at hq
    exact ⟨t, he, hq⟩

end Sys2Proof.Machine
end


section
/-! PROOFS. The control interval of a moving group (O37, O39). -/

namespace Sys2Proof.Machine

/-! ### Demands sent to the Drive Unit -/

theorem memberChannel_of_pair {c : Channel} {p : PairNo} (h : channelPair c = some p) : memberChannel p (channelMember c) = c := by
  revert p
  fin_cases c <;> decide

/-- R110: what a demand command makes of the Drive Unit depends on it, the fitment, the stop machine and the supply alone. -/
theorem demandCommand_drive_congr {s t : State} (hdrive : t.drive = s.drive) (hfit : t.fitment = s.fitment)
    (hoperator : t.operator = s.operator) (hsupply : t.supply = s.supply) (c : Channel) (f : Nat) :
    (demandCommand c f t).drive = (demandCommand c f s).drive := by
  have htakes : t.driveTakes = s.driveTakes := by rw [State.driveTakes, State.driveTakes, hoperator, hsupply]
  have hrec (d : Channel) : t.chanRec? d = s.chanRec? d := by rw [State.chanRec?, State.chanRec?, hfit]
  unfold demandCommand
  rw [htakes, hrec]
  split
  next r p _ hr hp =>
    have hmember := memberChannel_of_pair hp
    have htaken : commandTaken p (channelMember c) r (opening r f) t = commandTaken p (channelMember c) r (opening r f) s := by
      simp only [commandTaken, idleTaken, State.chan, State.pair, hdrive]
      rfl
    rw [command_eq (by rw [hmember, hrec]; exact hr), command_eq (by rw [hmember]; exact hr), htaken]
    simp only [State.modPair, State.modChan, hdrive]
  next => exact hdrive

/-- R105: the same of several demands. -/
theorem sendDemands_drive_congr (ds : List (Channel × Nat)) : ∀ {s t : State}, t.drive = s.drive → t.fitment = s.fitment →
    t.operator = s.operator → t.supply = s.supply → (sendDemands ds t).drive = (sendDemands ds s).drive := by
  induction ds with
  | nil => exact fun h _ _ _ => h
  | cons d ds ih =>
    intro s t hdrive hfit hoperator hsupply
    exact ih (demandCommand_drive_congr hdrive hfit hoperator hsupply d.1 d.2) (by simpa using hfit)
      (by simpa using hoperator) (by simpa using hsupply)

theorem demandCommand_chan_ne {c d : Channel} (h : d ≠ c) (f : Nat) (s : State) : (demandCommand c f s).chan d = s.chan d := by
  unfold demandCommand
  split
  next r p _ hr hp =>
    have hmember := memberChannel_of_pair hp
    rw [command_eq (by rw [hmember]; exact hr), modPair_chan, hmember, State.modChan_chan_ne _ (Ne.symm h)]
  next => rfl

theorem sendDemands_chan (ds : List (Channel × Nat)) {d : Channel} : ∀ {s : State}, d ∉ ds.map (·.1) →
    (sendDemands ds s).chan d = s.chan d := by
  induction ds with
  | nil => exact fun _ => rfl
  | cons x ds ih =>
    intro s h
    obtain ⟨hx, hds⟩ : d ≠ x.1 ∧ d ∉ ds.map (·.1) := by simpa [not_or] using h
    exact (ih hds).trans (demandCommand_chan_ne hx x.2 s)

/-! ### States that differ in the run of a group -/

/-- The state v stands as s, but for the run of group g, which is y, for the interval timers and for the Fault Table. -/
structure State.RunsOn (s v : State) (g : Group) (y : Run) : Prop where
  supply : v.supply = s.supply
  fitment : v.fitment = s.fitment
  orders : v.seq.orders = s.seq.orders
  vehicle : v.vehicle = s.vehicle
  flow : v.flow = s.flow
  trackers : v.trackers = s.trackers
  drive : v.drive = s.drive
  operator : v.operator = s.operator
  beacon : v.beacon = s.beacon
  run : v.run? g = some y
  others : ∀ h, h ≠ g → v.run? h = s.run? h

namespace State.RunsOn

variable {s v : State} {g : Group} {y : Run}

theorem setRun (h : s.RunsOn v g y) (z : Run) : s.RunsOn (v.setRun g (some z)) g z where
  supply := h.supply
  fitment := h.fitment
  orders := h.orders
  vehicle := h.vehicle
  flow := h.flow
  trackers := h.trackers
  drive := h.drive
  operator := h.operator
  beacon := h.beacon
  run := State.setRun_run_self ..
  others k hk := (State.setRun_run_ne v (Ne.symm hk) _).trans (h.others k hk)

theorem active (h : s.RunsOn v g y) (k : Group) : v.active? k = s.active? k := State.active_congr h.orders k

theorem tracker (h : s.RunsOn v g y) (a : Axis) : v.tracker a = s.tracker a := by rw [State.tracker, State.tracker, h.trackers]

theorem skew (h : s.RunsOn v g y) : v.skew = s.skew := by rw [State.skew, State.skew, h.tracker, h.tracker]

theorem isObstructed (h : s.RunsOn v g y) (k : Group) : v.isObstructed k = s.isObstructed k := by
  rw [State.isObstructed, State.isObstructed, h.operator]

theorem reference (h : s.RunsOn v g y) (c : MoveClass) : v.reference c = s.reference c := by
  simp only [State.reference, State.liftMean, h.tracker]

theorem remaining (h : s.RunsOn v g y) (o : Order) (p : Phase) (c : MoveClass) : v.remaining o p c = s.remaining o p c := by
  simp only [State.remaining, h.reference]

theorem arrived (h : s.RunsOn v g y) (o : Order) (p : Phase) (c : MoveClass) : v.arrived o p c = s.arrived o p c := by
  simp only [State.arrived, h.remaining, h.reference, h.tracker, State.arrivalWindow, State.axisRec?, h.fitment]
  rfl

theorem stallingAxes (h : s.RunsOn v g y) (c : MoveClass) : v.stallingAxes c = s.stallingAxes c := by
  simp only [State.stallingAxes, h.tracker]

theorem stallCondition (h : s.RunsOn v g y) (r : ProfileRec) (c : MoveClass) (f : Nat) :
    v.stallCondition r c f = s.stallCondition r c f := by
  simp only [State.stallCondition, h.stallingAxes, h.tracker]

theorem phaseDemands (h : s.RunsOn v g y) (r : ProfileRec) (p : Phase) (c : MoveClass) (f : Nat) :
    v.phaseDemands r p c f = s.phaseDemands r p c f := by
  simp only [State.phaseDemands, State.liftDemands, h.tracker, h.skew]

/-- R49: the interlock questions read nothing of the runs and of the Fault Table. -/
theorem askInterlock (h : s.RunsOn v g y) (o : Order) : v.askInterlock o = s.askInterlock o := by
  have hsees : State.SeesAs { v with faults := s.faults } s o.number :=
    { fitment := h.fitment
      vehicle := h.vehicle
      operator := h.operator
      health := fun l => by rw [State.lamp, State.lamp, h.beacon]
      referenced := fun a => congrArg Tracker.referenced (h.tracker a)
      pos := fun a => congrArg Tracker.pos (h.tracker a)
      proven := by rw [h.drive]
      chan := fun c => by rw [State.chan, State.chan, h.drive]
      flags := rfl
      admits := fun _ _ => rfl
      others := fun k => by rw [State.idleBut, State.idleBut, h.orders] }
  exact hsees.askInterlock rfl

end State.RunsOn

/-! ### The steps before the demand -/

/-- R102: the skew supervision state after its judgement at an interval. -/
def Run.judged (x : Run) (r : ProfileRec) (p : Phase) (e : Nat) : SkewState :=
  if p.sync = true ∧ x.skewState = .normal ∧ r.skewWarn < e then .warned
  else if p.sync = true ∧ x.skewState = .warned ∧ e ≤ r.skewWarn then .normal
  else x.skewState

/-- R92, R102: the state once the interval's timer is restarted and the skew judged. -/
def State.supervised (s : State) (g : Group) (r : ProfileRec) (p : Phase) (x : Run) : State :=
  let v := s.modCtl g fun c => { c with interval := 10 }
  if p.sync then superviseSkew r x v else v

/-- What the judgement of the skew does to the Fault Table. -/
def State.skewJudged (s v : State) (x : Run) (j : SkewState) : Prop :=
  (j = x.skewState → v.faults = s.faults) ∧
    (j = .warned → x.skewState = .normal →
      (∃ e ∈ v.faults.entries, e.code = .skewWarn ∧ e.subject = .group .lift ∧ e.active = true) ∧
        v.faults.flags = s.faults.flags) ∧
    (j = .normal → x.skewState = .warned → v.faults = s.faults.latch .skewWarn (.group .lift))

section Interval

variable {g : Group} {o : Order} {p : Phase} {c : MoveClass} {r : ProfileRec} {x : Run} {s : State}

theorem modCtl_runsOn (hx : s.run? g = some x) (f : GroupCtl → GroupCtl) : s.RunsOn (s.modCtl g f) g x :=
  ⟨rfl, rfl, rfl, rfl, rfl, rfl, rfl, rfl, rfl, hx, fun _ _ => rfl⟩

/-- R102: the judgement of a skew that is not beyond the skew stop. -/
theorem supervised_runsOn (hx : s.run? g = some x)
    (hlift : p.sync = true → g = .lift ∨ x.skewState = .normal ∧ s.skew.natAbs ≤ r.skewWarn)
    (hwarns : p.sync = true → x.skewState = .normal → r.skewWarn < s.skew.natAbs →
      s.faults.sound ∧ s.faults.entries.length < 16) :
    s.RunsOn (s.supervised g r p x) g { x with skewState := x.judged r p s.skew.natAbs } ∧
      s.skewJudged (s.supervised g r p x) x (x.judged r p s.skew.natAbs) ∧
      (s.supervised g r p x).seq.ctl = (s.modCtl g fun c => { c with interval := 10 }).seq.ctl := by
  have hbase := modCtl_runsOn hx fun c => { c with interval := 10 }
  have hkept (h : x.judged r p s.skew.natAbs = x.skewState)
      (heq : s.supervised g r p x = s.modCtl g fun c => { c with interval := 10 }) :
      s.RunsOn (s.supervised g r p x) g { x with skewState := x.judged r p s.skew.natAbs } ∧
        s.skewJudged (s.supervised g r p x) x (x.judged r p s.skew.natAbs) ∧
        (s.supervised g r p x).seq.ctl = (s.modCtl g fun c => { c with interval := 10 }).seq.ctl := by
    rw [h, heq]
    refine ⟨hbase, ⟨fun _ => rfl, fun h1 h2 => ?_, fun h1 h2 => ?_⟩, rfl⟩
    · rw [h2] at h1; cases h1
    · rw [h2] at h1; cases h1
  cases hsync : p.sync with
  | false => exact hkept (by simp [Run.judged, hsync]) (by simp [State.supervised, hsync])
  | true =>
    obtain rfl | ⟨hwas, hle⟩ := hlift hsync
    case inr =>
      exact hkept (by simp [Run.judged, hwas, hle])
        (by rw [State.supervised, if_pos hsync, superviseSkew, hwas]; exact if_neg (Nat.not_lt.2 hle))
    have hskew : (s.modCtl .lift fun c => { c with interval := 10 }).skew = s.skew := rfl
    have hstate : s.supervised .lift r p x = superviseSkew r x (s.modCtl .lift fun c => { c with interval := 10 }) := by
      rw [State.supervised, if_pos hsync]
    cases hwas : x.skewState with
    | none => exact hkept (by simp [Run.judged, hwas]) (by rw [hstate, superviseSkew, hwas])
    | normal =>
      by_cases hwarn : r.skewWarn < s.skew.natAbs
      · obtain ⟨hsound, hroom⟩ := hwarns hsync hwas hwarn
        have hjudged : x.judged r p s.skew.natAbs = .warned := if_pos ⟨hsync, hwas, hwarn⟩
        have heq : s.supervised .lift r p x = raise .skewWarn (.group .lift)
            ((s.modCtl .lift fun c => { c with interval := 10 }).setRun .lift (some { x with skewState := .warned })) := by
          rw [hstate, superviseSkew, hwas, hskew]
          exact (if_pos hwarn).trans (raiseFault_of_warn (by exact hsound) (by exact hroom) rfl)
        have hset := hbase.setRun { x with skewState := .warned }
        rw [hjudged, heq]
        refine ⟨⟨by simp, by simp, by simp, by simp, by simp, by simp, by simp, by simp, by simp, ?_, fun k hk => ?_⟩,
          ⟨fun h => ?_, fun _ _ => ?_, fun h => ?_⟩, by simp⟩
        · rw [State.run?, (raise_frame _ _ _).2.2.2.2.2.2.2.1]; exact hset.run
        · rw [State.run?, (raise_frame _ _ _).2.2.2.2.2.2.2.1]; exact hset.others k hk
        · rw [hwas] at h; cases h
        · rw [raise_faults]
          exact ⟨FaultTable.raise_active _ _ _ hroom, FaultTable.raise_flags_of_warn _ hsound hroom rfl⟩
        · cases h
      · exact hkept (by simp [Run.judged, hwas, hwarn])
          (by rw [hstate, superviseSkew, hwas, hskew]; exact if_neg hwarn)
    | warned =>
      by_cases hcalm : s.skew.natAbs ≤ r.skewWarn
      · have hjudged : x.judged r p s.skew.natAbs = .normal := by simp [Run.judged, hsync, hwas, hcalm]
        have heq : s.supervised .lift r p x = latch .skewWarn (.group .lift)
            ((s.modCtl .lift fun c => { c with interval := 10 }).setRun .lift (some { x with skewState := .normal })) := by
          rw [hstate, superviseSkew, hwas, hskew]
          exact if_pos hcalm
        have hset := hbase.setRun { x with skewState := .normal }
        rw [hjudged, heq]
        refine ⟨⟨rfl, rfl, rfl, rfl, rfl, rfl, rfl, rfl, rfl, hset.run, hset.others⟩,
          ⟨fun h => ?_, fun h => ?_, fun _ _ => rfl⟩, rfl⟩
        · rw [hwas] at h; cases h
        · cases h
      · exact hkept (by simp [Run.judged, hwas, hcalm])
          (by rw [hstate, superviseSkew, hwas, hskew]; exact if_neg hcalm)

/-- R93, R95 to R97, R99: the run of a moving group after steps 1 to 5 of its interval. -/
def State.ranOn (s : State) (o : Order) (p : Phase) (c : MoveClass) (r : ProfileRec) (x : Run) : Run :=
  { x with
    skewState := x.judged r p s.skew.natAbs
    remaining := s.remaining o p c
    skew := if o.group = .lift then s.skew else 0 : Run }.demandStep r o c s

/-- The state once the run is so. -/
def State.demanded (s : State) (g : Group) (o : Order) (p : Phase) (c : MoveClass) (r : ProfileRec) (x : Run) : State :=
  (readPositions o p c (s.supervised g r p x)).setRun g (some (s.ranOn o p c r x))

/-- R92: the interval of an order with a run. -/
theorem interval_of_run (hactive : s.active? g = some o) (hstate : o.state = .moving ∨ o.state = .stopping)
    (hp : o.phase? = some p) (hc : p.cls = some c) (hx : s.run? g = some x) (hr : s.profile? c.profile = some r) :
    interval g s = motionInterval o p c r x (s.modCtl g fun c => { c with interval := 10 }) := by
  have hcls : o.cls? = some c := by rw [Order.cls?, hp]; exact hc
  have hactive' : (s.modCtl g fun c => { c with interval := Config.controlInterval }).active? g = some o := hactive
  have hx' : (s.modCtl g fun c => { c with interval := Config.controlInterval }).run? g = some x := hx
  have hr' : (s.modCtl g fun c => { c with interval := Config.controlInterval }).profile? c.profile = some r := hr
  unfold interval
  dsimp only
  rw [hactive']
  rcases hstate with h | h
  all_goals
    simp only [h, hp, hcls, hx', hr']
    rfl

variable (hactive : s.active? g = some o) (hmoving : o.state = .moving) (hp : o.phase? = some p) (hc : p.cls = some c)
  (hx : s.run? g = some x) (hr : s.profile? c.profile = some r) (hask : s.askInterlock o = none)
  (hfree : s.isObstructed g = false) (hgoing : s.arrived o p c = false)
  (hskew : p.sync = true → s.skew.natAbs ≤ r.skewStop)
  (hlift : p.sync = true → g = .lift ∨ x.skewState = .normal ∧ s.skew.natAbs ≤ r.skewWarn)
  (hwarns : p.sync = true → x.skewState = .normal → r.skewWarn < s.skew.natAbs →
    s.faults.sound ∧ s.faults.entries.length < 16)

include hactive hx hlift hwarns

theorem demanded_runsOn :
    s.RunsOn (s.demanded g o p c r x) g (s.ranOn o p c r x) ∧
      s.skewJudged (s.demanded g o p c r x) x (x.judged r p s.skew.natAbs) ∧
      (s.demanded g o p c r x).seq.ctl = (s.modCtl g fun c => { c with interval := 10 }).seq.ctl := by
  obtain ⟨hruns, hjudged, hctl⟩ := supervised_runsOn hx hlift hwarns
  obtain ⟨-, hgroup, -⟩ := State.mem_of_active hactive
  have hread : readPositions o p c (s.supervised g r p x) = (s.supervised g r p x).setRun g
      (some { x with
        skewState := x.judged r p s.skew.natAbs
        remaining := s.remaining o p c
        skew := if o.group = .lift then s.skew else 0 }) := by
    unfold readPositions modRun
    rw [hgroup, hruns.run, hruns.remaining, hruns.skew]
  unfold State.demanded
  rw [hread]
  exact ⟨(hruns.setRun _).setRun _, hjudged, hctl⟩

include hmoving hp hc hr hask hfree hgoing hskew

/-- R92: the interval of a MOVING order whose phase goes on, up to step 5. -/
theorem interval_moving :
    interval g s =
      if (s.ranOn o p c r x).stall ≠ 0 ∧ r.stallTime ≤ (s.ranOn o p c r x).stall then
        stallEnd g c (s.demanded g o p c r x)
      else finishInterval r p c g (s.demanded g o p c r x) := by
  obtain ⟨hruns, -, -⟩ := supervised_runsOn hx hlift hwarns
  obtain ⟨-, hgroup, -⟩ := State.mem_of_active hactive
  have hstop : ¬ (p.sync = true ∧ r.skewStop < s.skew.natAbs) := fun ⟨hsync, hlt⟩ => absurd (hskew hsync) (Nat.not_le.2 hlt)
  have hmotion : interval g s = intervalBody r p c g (readPositions o p c (s.supervised g r p x)) := by
    rw [interval_of_run hactive (.inl hmoving) hp hc hx hr]
    refine (if_neg hstop).trans ?_
    rw [hgroup]
    rfl
  have hread : readPositions o p c (s.supervised g r p x) = (s.supervised g r p x).setRun g
      (some { x with
        skewState := x.judged r p s.skew.natAbs
        remaining := s.remaining o p c
        skew := if o.group = .lift then s.skew else 0 }) := by
    unfold readPositions modRun
    rw [hgroup, hruns.run, hruns.remaining, hruns.skew]
  have hu := hruns.setRun { x with
    skewState := x.judged r p s.skew.natAbs
    remaining := s.remaining o p c
    skew := if o.group = .lift then s.skew else 0 }
  rw [← hread] at hu
  have hstep := hu.stallCondition r c
  unfold State.demanded
  rw [hmotion]
  generalize readPositions o p c (s.supervised g r p x) = u at *
  have hexamined : examineMoving o u = u := by
    unfold examineMoving
    dsimp only
    rw [hu.askInterlock, hask]
    dsimp only
    rw [hgroup, hu.isObstructed, hfree]
    exact if_neg (by simp)
  have hran : { x with
      skewState := x.judged r p s.skew.natAbs
      remaining := s.remaining o p c
      skew := if o.group = .lift then s.skew else 0 : Run }.demandStep r o c u = s.ranOn o p c r x := by
    simp only [State.ranOn, Run.demandStep, hstep]
  have hmove : moveOn r p c o u =
      if (s.ranOn o p c r x).stall ≠ 0 ∧ r.stallTime ≤ (s.ranOn o p c r x).stall then
        (stallEnd g c (u.setRun g (some (s.ranOn o p c r x))), false)
      else (u.setRun g (some (s.ranOn o p c r x)), true) := by
    unfold moveOn
    rw [hu.arrived, hgoing, if_neg (by simp), hgroup, hu.run]
    dsimp only
    rw [hran]
  unfold intervalBody
  rw [hu.active, hactive]
  dsimp only
  rw [if_pos hmoving, hexamined, hu.active, hactive]
  dsimp only
  rw [hmoving]
  dsimp only
  rw [hmove]
  split <;> rfl

end Interval

/-! ### The last steps of an interval -/

/-- R105: the run and the demands of a moving group at the end of its interval. -/
theorem finishInterval_of_moving {g : Group} {o : Order} {p : Phase} {c : MoveClass} {r : ProfileRec} {y : Run} {s v : State}
    (hv : s.RunsOn v g y) (hactive : s.active? g = some o) (hmoving : o.state = .moving) :
    finishInterval r p c g v =
      sendDemands (s.phaseDemands r p c y.fCmd).1
        (v.setRun g
          (some { y with correction := (s.phaseDemands r p c y.fCmd).2, demands := (s.phaseDemands r p c y.fCmd).1 })) := by
  unfold finishInterval
  rw [hv.active, hactive, hv.run]
  simp [hmoving, hv.phaseDemands]

/-- R100, R101, R104, R105: the demands in the words of the statement. -/
theorem phaseDemands_cases (s : State) (r : ProfileRec) (p : Phase) (c : MoveClass) (cmd : Nat) :
    let hold := if s.skew.natAbs ≤ r.deadband then 0 else min r.cMax (s.skew.natAbs * r.kSync / 1000)
    let d := s.phaseDemands r p c cmd
    d.1.map (·.1) = c.driven ∧ (c.profile ≠ .lift → d.1 = c.driven.map fun ch => (ch, cmd)) ∧
      (c = .liftUp → p.sync = true →
        d.1 = [(0, if 0 < s.skew then cmd - hold else cmd), (2, if s.skew < 0 then cmd - hold else cmd)] ∧ d.2 = hold) ∧
      (c = .liftDown → p.sync = true → (s.tracker .lk).home = false → (s.tracker .lr).home = false →
        d.1 = [(1, if s.skew < 0 then cmd - hold else cmd), (3, if 0 < s.skew then cmd - hold else cmd)] ∧ d.2 = hold) ∧
      (c = .liftDown → p.sync = false ∨ (s.tracker .lk).home = true ∨ (s.tracker .lr).home = true →
        d.1 = [(1, if (s.tracker .lk).home then 0 else cmd), (3, if (s.tracker .lr).home then 0 else cmd)] ∧ d.2 = 0) := by
  have hsign : s.skew = 0 ∨ 0 < s.skew ∨ s.skew < 0 := by omega
  refine ⟨by cases c <;> rfl, fun h => ?_, ?_, ?_, ?_⟩
  · cases c <;> first | rfl | exact absurd rfl h
  · rintro rfl hsync
    rcases hsign with h | h | h
    · simp [State.phaseDemands, State.liftDemands, correctionFor, hsync, h]
    · have hne : s.skew ≠ 0 := by omega
      have hnot : ¬ s.skew < 0 := by omega
      simp [State.phaseDemands, State.liftDemands, correctionFor, hsync, h, hne, hnot]
    · have hne : s.skew ≠ 0 := by omega
      have hnot : ¬ 0 < s.skew := by omega
      simp [State.phaseDemands, State.liftDemands, correctionFor, hsync, h, hne, hnot]
  · rintro rfl hsync hk hl
    rcases hsign with h | h | h
    · simp [State.phaseDemands, State.liftDemands, correctionFor, hsync, h, hk, hl]
    · have hne : s.skew ≠ 0 := by omega
      have hnot : ¬ s.skew < 0 := by omega
      simp [State.phaseDemands, State.liftDemands, correctionFor, hsync, h, hne, hnot, hk, hl]
    · have hne : s.skew ≠ 0 := by omega
      have hnot : ¬ 0 < s.skew := by omega
      simp [State.phaseDemands, State.liftDemands, correctionFor, hsync, h, hne, hnot, hk, hl]
  · rintro rfl h
    rcases h with h | h | h <;> simp [State.phaseDemands, State.liftDemands, h]

/-- R99: what an interval adds to the stall accumulation. -/
theorem ranOn_stall (s : State) (o : Order) (p : Phase) (c : MoveClass) (r : ProfileRec) (x : Run) :
    (s.ranOn o p c r x).stall = if s.stallCondition r c (s.ranOn o p c r x).fCmd then x.stall + 10 else 0 := rfl

/-- R93, R95 to R97: the demands of the run. -/
theorem ranOn_demand (s : State) (o : Order) (p : Phase) (c : MoveClass) (r : ProfileRec) (x : Run) :
    let remaining := if o.kind = .home then 0 else (p.target - s.reference c).natAbs
    let cap := r.classDemand o.speed * x.share / 1000
    let base := if o.kind = .home then cap else max r.fMin (min cap (remaining * r.kApp / 1000))
    (s.ranOn o p c r x).fBase = base ∧
      (s.ranOn o p c r x).fCmd = (if x.fCmd < base then min base (x.fCmd + r.ramp) else max base (x.fCmd - r.ramp)) ∧
      (s.ranOn o p c r x).remaining = remaining := ⟨rfl, rfl, rfl⟩

theorem classDemand_eq (r : ProfileRec) (x : SpeedClass) :
    (match x with | .creep => r.creep | .normal => r.normal | .fast => r.fast) = r.classDemand x := by
  cases x <;> rfl

/-- Settles O37, from interval_moving and finishInterval_of_moving. -/
theorem movingIntervalRampsTheDemand : Obligations.MovingIntervalRampsTheDemand := by
  intro g o p c r x s hrun hactive hmoving hp hc hx hr hask hfree hgoing hstall hskew hwarns judged hold remaining cap base cmd
  obtain ⟨hv, ⟨hsame, hwarned, hcalmed⟩, hctl⟩ := demanded_runsOn (o := o) (c := c) hactive hx
    (fun h => .inl (hskew h).1) hwarns
  obtain ⟨t, he, ht⟩ := runEvent_effect (interval g) hrun
  have hon : ¬ ((s.ranOn o p c r x).stall ≠ 0 ∧ r.stallTime ≤ (s.ranOn o p c r x).stall) := by
    rw [ranOn_stall]
    split <;> omega
  rw [interval_moving hactive hmoving hp hc hx hr hask hfree hgoing (fun h => (hskew h).2) (fun h => .inl (hskew h).1) hwarns,
    if_neg hon, finishInterval_of_moving hv hactive hmoving] at ht
  have hcap : r.classDemand o.speed * x.share / 1000 = cap :=
    congrArg (fun f => f * x.share / 1000) (classDemand_eq r o.speed).symm
  obtain ⟨hbase, hcmd, hremaining⟩ := ranOn_demand s o p c r x
  rw [hcap] at hbase hcmd
  change _ = base at hbase
  change _ = cmd at hcmd
  obtain ⟨hchannels, hother, hup, hdown, hhome⟩ := phaseDemands_cases s r p c (s.ranOn o p c r x).fCmd
  have hw := hv.setRun { s.ranOn o p c r x with
    correction := (s.phaseDemands r p c (s.ranOn o p c r x).fCmd).2
    demands := (s.phaseDemands r p c (s.ranOn o p c r x).fCmd).1 }
  have hfaults : t.faults = (s.demanded g o p c r x).faults := by rw [ht.faults]; simp
  have hseq : t.seq.ctl = (s.demanded g o p c r x).seq.ctl := by rw [ht.ctlTable]; simp
  have hdrive : t.drive = (sendDemands (s.phaseDemands r p c (s.ranOn o p c r x).fCmd).1 s).drive := by
    rw [ht.drive]
    exact sendDemands_drive_congr _ hw.drive hw.fitment hw.operator hw.supply
  have hruns (h : Group) : t.run? h = ((s.demanded g o p c r x).setRun g (some { s.ranOn o p c r x with
      correction := (s.phaseDemands r p c (s.ranOn o p c r x).fCmd).2
      demands := (s.phaseDemands r p c (s.ranOn o p c r x).fCmd).1 })).run? h := by
    rw [ht.run]
    simp [State.run?]
  refine ⟨t, _, he, (hruns g).trans hw.run, hbase, hcmd, hremaining, rfl, rfl, rfl, rfl, hchannels, fun h => ?_,
    fun h hsync => ?_, fun h hsync hk hl => ?_, fun h hor => ?_, hdrive, fun h => hfaults.trans (hsame h), fun h h' => ?_,
    fun h h' => hfaults.trans (hcalmed h h'), fun k hk => (hruns k).trans (hw.others k hk), ?_, ?_, ?_, fun d hd => ?_, ?_, ?_,
    ?_, ?_⟩
  · rw [← hcmd]; exact hother h
  · rw [← hcmd]; exact hup h hsync
  · rw [← hcmd]; exact hdown h hsync hk hl
  · rw [← hcmd]; exact hhome h hor
  · rw [hfaults]; exact hwarned h h'
  · rw [ht.records]
    exact records_congr (by simpa using hw.orders)
  · rw [ht.flow]; simpa using hw.flow
  · rw [State.ctl, hseq, hctl, ← State.ctl, State.modCtl_ctl_self]
  · rw [State.chan, hdrive, ← State.chan]
    exact sendDemands_chan _ (by rw [hchannels]; exact hd)
  · rw [ht.trackers]; simpa using hw.trackers
  · rw [ht.beacon]; simpa using hw.beacon
  · rw [ht.operator]; simpa using hw.operator
  · rw [ht.fitment]; simpa using hw.fitment

/-! ### The ends that an interval finds -/

/-- R103: what a skew beyond the skew stop leaves. -/
theorem skewEnd_effect {o : Order} {s : State} (hactive : s.active? .lift = some o)
    (hstate : o.state = .moving ∨ o.state = .stopping) (hwait : s.flow.waiting = []) (hsound : s.faults.sound)
    (hroom : s.faults.entries.length < 16) :
    (skewEnd s).seq = (immediateEnd .lift .skew s).seq ∧ (skewEnd s).flow = (immediateEnd .lift .skew s).flow ∧
      (skewEnd s).drive = (immediateEnd .lift .skew s).drive ∧ (skewEnd s).trackers = s.trackers ∧
      (skewEnd s).runs = (immediateEnd .lift .skew s).runs ∧ (skewEnd s).faults.holdsLatched .skew (.group .lift) ∧
      (skewEnd s).faults.flags.lift = true := by
  obtain ⟨hflags, hlength⟩ := immediateEnd_flags hactive hstate .skew
  have hsound' : (immediateEnd .lift .skew s).faults.sound := immediateEnd_sound _ _ hsound
  have hroom' : (immediateEnd .lift .skew s).faults.entries.length < 16 := by rw [hlength]; exact hroom
  obtain ⟨hpumped, hothers⟩ := FaultTable.raise_ofGroup (x := .group .lift) (code := .skew) (g := .lift) s.supply.time
    hsound' hroom' rfl rfl
  have hset := FaultTable.raise_sets (code := .skew) (x := .group .lift) (g := .lift) s.supply.time hsound' hroom' rfl rfl
  have hlatched := FaultTable.raiseOnce_latched s.supply.time .skew (.group .lift) hroom'
  have hfaults : (raiseOnce .skew (.group .lift) (immediateEnd .lift .skew s)).faults =
      ((immediateEnd .lift .skew s).faults.raise .skew (.group .lift) s.supply.time).latch .skew (.group .lift) := by
    rw [raiseOnce_faults]
    simp
  have hunreached : (raiseOnce .skew (.group .lift) (immediateEnd .lift .skew s)).unreached
      (immediateEnd .lift .skew s).faults.flags :=
    immediateEnd_unreached hactive hstate .skew hwait (by simp) (fun h hne => by rw [hfaults]; exact hothers h hne)
      (by rw [hfaults]; exact hpumped)
  obtain ⟨hseq, hfaults', hflow, hdrive, htrackers, hruns⟩ :=
    reportFlags_rest_of_unreached hunreached (by rw [hfaults]; exact hpumped)
  unfold skewEnd raiseFaultOnce
  refine ⟨hseq.trans (by simp), hflow.trans (by simp), hdrive.trans (by simp), htrackers.trans (by simp),
    hruns.trans (by simp), ?_, ?_⟩
  · rw [hfaults', hfaults]; exact hlatched
  · rw [hfaults', hfaults]; exact hset

/-- R162: a raise enters at most one entry. -/
theorem FaultTable.raise_length_le {t : FaultTable} (code : FaultCode) (x : Subject) (now : U32) (hroom : t.entries.length < 16) :
    (t.raise code x now).entries.length ≤ t.entries.length + 1 := by
  rw [FaultTable.raise_of_room now hroom]
  split
  · simp
  · simp [FaultTable.recompute]

/-- A raise that goes LATCHED at once leaves every LATCHED entry LATCHED. -/
theorem FaultTable.holdsLatched.raiseOnce {t : FaultTable} {code : FaultCode} {x : Subject} (h : t.holdsLatched code x) (y : Subject)
    (now : U32) (hroom : t.entries.length < 16) : ((t.raise code y now).latch code y).holdsLatched code x := by
  by_cases hxy : x = y
  · subst hxy
    exact FaultTable.raiseOnce_latched now code x hroom
  · obtain ⟨e, hmem, hcode, hsubject, hlatched⟩ := h
    have hother : e.is code y = false := by simp [Entry.is, hsubject, hxy]
    have hkept : (t.raise code y now).holdsLatched code x :=
      ⟨e, FaultTable.raise_others now hroom hmem hother, hcode, hsubject, hlatched⟩
    exact hkept.latch code y

/-- Raises of a WARN entry for several axes, each going LATCHED at once, in a table with room for them. -/
theorem foldRaise_of_warn {code : FaultCode} (hwarn : code.isStop = false) (as : List Axis) : ∀ {s : State},
    s.faults.sound → s.faults.entries.length + as.length ≤ 16 →
    let t := as.foldl (fun s a => raiseFaultOnce code (.axis a) s) s
    t.seq = s.seq ∧ t.flow = s.flow ∧ t.drive = s.drive ∧ t.trackers = s.trackers ∧ t.runs = s.runs ∧
      t.faults.flags = s.faults.flags ∧ (∀ a ∈ as, t.faults.holdsLatched code (.axis a)) ∧
      ∀ x, s.faults.holdsLatched code x → t.faults.holdsLatched code x := by
  induction as with
  | nil => exact fun _ _ => ⟨rfl, rfl, rfl, rfl, rfl, rfl, fun _ ha => absurd ha List.not_mem_nil, fun _ h => h⟩
  | cons a as ih =>
    intro s hsound hroom
    have hroom' : s.faults.entries.length < 16 := by
      rw [List.length_cons] at hroom
      omega
    have hfaults : (raiseOnce code (.axis a) s).faults = (s.faults.raise code (.axis a) s.supply.time).latch code (.axis a) :=
      raiseOnce_faults ..
    have hlength := FaultTable.raise_length_le code (.axis a) s.supply.time hroom'
    obtain ⟨h1, h2, h3, h4, h5, h6, h7, h8⟩ := ih (s := raiseOnce code (.axis a) s)
      (raiseOnce_sound _ _ hsound)
      (by rw [hfaults, FaultTable.latch_length]; rw [List.length_cons] at hroom; omega)
    have hnew : (raiseOnce code (.axis a) s).faults.holdsLatched code (.axis a) := by
      rw [hfaults]
      exact FaultTable.raiseOnce_latched _ _ _ hroom'
    rw [List.foldl_cons, raiseFaultOnce_of_warn hsound hroom' hwarn]
    refine ⟨h1.trans (by simp), h2.trans (by simp), h3.trans (by simp), h4.trans (by simp), h5.trans (by simp), h6.trans ?_,
      fun b hb => ?_, fun x hx => h8 x ?_⟩
    · rw [hfaults, FaultTable.latch_flags, FaultTable.raise_flags_of_warn _ hsound hroom' hwarn]
    · obtain rfl | hmem := List.mem_cons.1 hb
      · exact h8 _ hnew
      · exact h7 b hmem
    · rw [hfaults]
      exact hx.raiseOnce _ _ hroom'

/-- R99: the supervised axes that a stall is judged by, in the words of the statement. -/
theorem stallingAxes_eq (s : State) (c : MoveClass) :
    s.stallingAxes c = c.axes.filter fun a => !(decide (c = .liftDown) && (s.tracker a).home) := by
  cases c <;> simp [State.stallingAxes, MoveClass.axes]

theorem stallingAxes_length (s : State) (c : MoveClass) : (s.stallingAxes c).length ≤ 2 := by
  rw [stallingAxes_eq]
  exact (List.length_filter_le _ _).trans (by cases c <;> decide)

theorem channelGroup_lift (ch : Channel) : channelGroup ch = .lift ↔ ch.val ≤ 5 := by revert ch; decide

/-- R27: the settle time of a movement phase is that of its class's profile. -/
theorem settleProfile_of_class {o : Order} {p : Phase} {c : MoveClass} (hp : o.phase? = some p) (hc : p.cls = some c) :
    o.settleProfile = c.profile := by
  have hcls : o.cls? = some c := by rw [Order.cls?, hp]; exact hc
  unfold Order.settleProfile
  rw [hcls]
  cases c <;> rfl

/-- Settles O39: the skew by skewEnd_effect, the stall by interval_moving. -/
theorem skewStopEndsThePhase : Obligations.SkewStopEndsThePhase := by
  refine ⟨fun o p c r x s hrun hactive hstate hp hc hx hr hsync hskew hsound hroom hwait => ?_,
    fun g o p c r x s hrun hactive hmoving hp hc hx hr hskew hask hfree hgoing => ?_⟩
  · obtain ⟨t, he, ht⟩ := runEvent_effect (interval .lift) hrun
    rw [interval_of_run hactive hstate hp hc hx hr] at ht
    let v := s.modCtl .lift fun c => { c with interval := 10 }
    have heq : motionInterval o p c r x v = skewEnd v := if_pos ⟨hsync, hskew⟩
    rw [heq] at ht
    have hactive' : v.active? .lift = some o := hactive
    obtain ⟨hseq, hflow, hdrive, htrackers, hruns, hlatched, hset⟩ := skewEnd_effect hactive' hstate hwait hsound hroom
    have hchan (ch : Channel) : t.chan ch = if channelGroup ch = .lift then Chan.reset else s.chan ch := by
      rw [ht.chan, State.chan, hdrive, ← State.chan, immediateEnd_chan hactive' hstate]
      rfl
    refine ⟨t, he, ?_, ?_, fun ch hch => ?_, fun ch hch => ?_, ?_, ?_, ?_, ?_⟩
    · exact (ht.records.trans (records_congr (by rw [hseq]))).trans (immediateEnd_records (s := v) hactive' hstate .skew hwait)
    · rw [ht.run, State.run?, hruns]
      exact immediateEnd_run hactive' hstate .skew
    · rw [hchan, if_pos ((channelGroup_lift ch).2 hch)]
    · rw [hchan, if_neg fun h => absurd ((channelGroup_lift ch).1 h) (Nat.not_le.2 hch)]
    · rw [ht.faults]; exact hlatched
    · rw [ht.faults]; exact hset
    · rw [ht.flow, hflow, (immediateEnd_flow hactive' hstate .skew hwait).2, claimed_filter]
    · rw [ht.trackers, htrackers]; rfl
  · intro cap base cmd stalling hmin hne hslow hstall hwait hsound hroom
    have hlift (h : p.sync = true) : g = .lift ∨ x.skewState = .normal ∧ s.skew.natAbs ≤ r.skewWarn :=
      .inr ⟨(hskew h).1, (hskew h).2.trans (min_le_left ..)⟩
    have hwarns (h : p.sync = true) (_ : x.skewState = .normal) (hlt : r.skewWarn < s.skew.natAbs) :
        s.faults.sound ∧ s.faults.entries.length < 16 :=
      absurd ((hskew h).2.trans (min_le_left ..)) (Nat.not_le.2 hlt)
    obtain ⟨hv, ⟨hsame, -, -⟩, hctl⟩ := demanded_runsOn (o := o) (c := c) hactive hx hlift hwarns
    have hjudged : x.judged r p s.skew.natAbs = x.skewState := by
      cases hsync : p.sync with
      | false => simp [Run.judged, hsync]
      | true => simp [Run.judged, (hskew hsync).1, (hskew hsync).2.trans (min_le_left ..)]
    have hfaults := hsame hjudged
    have hcap : r.classDemand o.speed * x.share / 1000 = cap :=
      congrArg (fun f => f * x.share / 1000) (classDemand_eq r o.speed).symm
    have hbase : (if o.kind = .home then cap else max r.fMin (min cap
        ((if o.kind = .home then 0 else (p.target - s.reference c).natAbs) * r.kApp / 1000))) = base := by
      by_cases hhome : o.kind = .home
      · exact (if_pos hhome).trans (if_pos hhome).symm
      · rw [if_neg hhome, if_neg hhome]
        exact (if_neg hhome).symm
    have hcmd : (s.ranOn o p c r x).fCmd = cmd := by
      have hdemand := (ranOn_demand s o p c r x).2.1
      rw [hcap, hbase] at hdemand
      exact hdemand
    have hstalls : (s.ranOn o p c r x).stall = x.stall + 10 := by
      rw [ranOn_stall, hcmd, if_pos]
      unfold State.stallCondition
      rw [stallingAxes_eq]
      simp only [Bool.and_eq_true, decide_eq_true_eq, Bool.not_eq_true', List.isEmpty_eq_false_iff, List.all_eq_true]
      exact ⟨⟨hmin, hne⟩, hslow⟩
    obtain ⟨t, he, ht⟩ := runEvent_effect (interval g) hrun
    rw [interval_moving hactive hmoving hp hc hx hr hask hfree hgoing (fun h => (hskew h).2.trans (min_le_right ..)) hlift hwarns,
      if_pos ⟨by omega, by omega⟩] at ht
    have hprofile : (s.demanded g o p c r x).profileField o.settleProfile (·.settle) = r.settle := by
      rw [State.profileField, settleProfile_of_class hp hc, State.profile?, hv.fitment, ← State.profile?, hr]
      rfl
    have haxes := hv.stallingAxes c
    generalize s.demanded g o p c r x = v at *
    have hactive' : v.active? g = some o := (hv.active g).trans hactive
    have hwait' : v.flow.waiting = [] := by rw [hv.flow, hwait]
    obtain ⟨hflags, hlength⟩ := immediateEnd_flags hactive' (.inl hmoving) .stall
    obtain ⟨hseq, hflow, hdrive, htrackers, hruns, hflags', hraised, -⟩ := foldRaise_of_warn (code := .stall) rfl
      (v.stallingAxes c) (immediateEnd_sound g .stall (hfaults ▸ hsound))
      (by have := stallingAxes_length v c; rw [hlength, hfaults]; omega)
    have hended : stallEnd g c v = (v.stallingAxes c).foldl (fun s a => raiseFaultOnce .stall (.axis a) s) (immediateEnd g .stall v) :=
      rfl
    have hoperator : ((v.stallingAxes c).foldl (fun s a => raiseFaultOnce .stall (.axis a) s)
        (immediateEnd g .stall v)).operator = s.operator := by
      simp [hv.operator]
    rw [hended] at ht
    generalize (v.stallingAxes c).foldl (fun s a => raiseFaultOnce .stall (.axis a) s) (immediateEnd g .stall v) = w at *
    have hchan (ch : Channel) : t.chan ch = if channelGroup ch = g then Chan.reset else s.chan ch := by
      rw [ht.chan, State.chan, hdrive, ← State.chan, immediateEnd_chan hactive' (.inl hmoving), State.chan, hv.drive]
      rfl
    have hrun' (h : Group) : t.run? h = (immediateEnd g .stall v).run? h := by
      rw [ht.run, State.run?, hruns]; rfl
    refine ⟨t, he, ?_, ?_, (hrun' g).trans (immediateEnd_run hactive' (.inl hmoving) .stall), fun h hne => ?_, fun ch hch => ?_,
      fun ch hch => ?_, fun a ha => ?_, ?_, ?_, ?_, ?_⟩
    · have hrecords := immediateEnd_records hactive' (.inl hmoving) .stall hwait'
      rw [State.settlesFailed, hv.orders] at hrecords
      exact (ht.records.trans (records_congr (by rw [hseq]))).trans hrecords
    · rw [ht.ctl, State.ctl, hseq, ← State.ctl, immediateEnd_settle hactive' (.inl hmoving), hprofile]
    · rw [hrun', immediateEnd_run_ne hactive' (.inl hmoving) .stall hne hwait', hv.others h hne]
    · rw [hchan, if_pos hch]
    · rw [hchan, if_neg hch]
    · rw [ht.faults]
      exact hraised a (by rw [haxes, stallingAxes_eq]; exact ha)
    · rw [ht.faults, hflags', hflags, hfaults]
    · rw [ht.flow, hflow, (immediateEnd_flow hactive' (.inl hmoving) .stall hwait').2, claimed_filter]
    · rw [ht.trackers, htrackers, ← hv.trackers]; simp
    · rw [ht.operator, hoperator]

end Sys2Proof.Machine
end


section
/-! PROOFS. CANCEL (O28). -/

namespace Sys2Proof.Machine

/-! ### A withdrawal before which no other claim waits -/

theorem unclaimed_waiting_of_own {n : Nat} {s : State} (h : ∀ q ∈ s.flow.waiting, q.order = n) :
    (s.unclaimed n).flow.waiting = [] := by
  have hnone : s.flow.waiting.filter (·.order != n) = [] :=
    List.filter_eq_nil_iff.2 fun q hq => by simp [h q hq]
  exact hnone

theorem waiting_nil_of_own {n : Nat} {cs : List Claim} (h : ∀ q ∈ cs, q.order = n) (hnot : claimed n cs = false) : cs = [] := by
  refine List.eq_nil_iff_forall_not_mem.2 fun q hq => ?_
  have hother : q.order ≠ n := by simpa using List.any_eq_false.1 hnot q hq
  exact hother (h q hq)

/-- R59: the withdrawal of the only claims waiting makes no claim ready. -/
theorem withdrawClaim_of_own {n : Nat} {s : State} (h : ∀ q ∈ s.flow.waiting, q.order = n) :
    (withdrawClaim n s).2 = [] ∧ (withdrawClaim n s).1.flow.waiting = [] ∧
      (withdrawClaim n s).1.flow.granted = s.flow.granted.filter (·.order != n) := by
  have hwaiting := unclaimed_waiting_of_own h
  have hgrant : tryGrant (s.unclaimed n) = (s.unclaimed n, []) := tryGrant_eq_of_waiting_nil hwaiting
  have hgranted : (s.unclaimed n).flow.granted = s.flow.granted.filter (·.order != n) := rfl
  rw [withdrawClaim_eq, hgrant]
  split
  · dsimp only
    split <;> simp [hwaiting, hgranted]
  · rename_i hno
    obtain ⟨hnotw, hnotg⟩ : claimed n s.flow.waiting = false ∧ claimed n s.flow.granted = false := by simpa using hno
    exact ⟨rfl, waiting_nil_of_own h hnotw, (filter_of_not_claimed hnotg).symm⟩

/-- What such a withdrawal leaves. -/
theorem withdraw_of_own {n : Nat} {s : State} (h : ∀ q ∈ s.flow.waiting, q.order = n) :
    (withdraw n s).flow.waiting = [] ∧ (withdraw n s).flow.granted = s.flow.granted.filter (·.order != n) ∧
      (withdraw n s).seq = s.seq ∧ (withdraw n s).runs = s.runs ∧ (withdraw n s).beacon = s.beacon := by
  obtain ⟨hready, hwaiting, hgranted⟩ := withdrawClaim_of_own h
  have heq : withdraw n s = (withdrawClaim n s).1 := by
    unfold withdraw reportReady
    rw [hready]
    rfl
  rw [heq]
  exact ⟨hwaiting, hgranted, by simp, by simp, by simp⟩

/-! ### The request -/

theorem cancelRequest_of_order {n : Nat} {s : State} {o : Order} (ho : s.order? n = some o) :
    cancelRequest n s = cancelOrder o s := by rw [cancelRequest, ho]

theorem cancelRequest_of_none {n : Nat} {s : State} (ho : s.order? n = none) : cancelRequest n s = (s, .no .noSuchOrder) := by
  rw [cancelRequest, ho]

/-- R33: what CANCEL does to a record, by its state. -/
theorem cancelOrder_cases (o : Order) (s : State) :
    (o.state = .queued → cancelOrder o s = (endOrder o .cancelled none s, .ok)) ∧
      (o.state = .blocked ∨ o.state = .holdWait ∨ o.state = .claiming ∨ o.state = .paused →
        cancelOrder o s = (endWaiting o .cancelled none s, .ok)) ∧
      (o.state = .moving → o.inMovement = true →
        cancelOrder o s = (toStopping o.number .finish (some .cancelled) none s, .ok)) ∧
      (o.state = .moving → o.inMovement = false → cancelOrder o s = (endPulse o .cancelled none s, .ok)) ∧
      (o.state = .stopping ∨ o.state = .settling → cancelOrder o s = (s.modOrder o.number Order.cancelStop, .ok)) ∧
      (o.state = .ended → cancelOrder o s = (s, .no .endedAlready)) := by
  unfold cancelOrder
  refine ⟨fun h => by rw [h], ?_, fun h h' => by rw [h]; exact if_pos h', fun h h' => by rw [h]; exact if_neg (by simp [h']), ?_,
    fun h => by rw [h]⟩
  · rintro (h | h | h | h) <;> rw [h]
  · rintro (h | h) <;> rw [h]

theorem Order.inMovement_of_phaseIs {o : Order} {k : PhaseKind} (hk : k = .pulse ∨ k = .check) (h : o.phaseIs k = true) :
    o.inMovement = false := by
  unfold Order.phaseIs at h
  cases hp : o.phase? with
  | none => simp [hp] at h
  | some p =>
    have hkind : p.kind = k := by simpa [hp] using h
    unfold Order.inMovement
    rw [hp]
    rcases hk with rfl | rfl <;> simp [Phase.isMovement, hkind]

/-- R33: the end of an order, in the words of the statement. -/
def State.endedCancelled (s t : State) (tag : Byte) (o : Order) : Prop :=
  s.endsAs t o .cancelled none ∧ t.active? o.group = none ∧ t.link.outgoing = (s.doneReply 0x11 tag []).link.outgoing ∧
    t.faults.flags = s.faults.flags ∧ t.operator = s.operator ∧ t.fitment = s.fitment

theorem markEnded_cancelled_outgoing (n : Nat) (s : State) :
    (markEnded n .cancelled none s).link.outgoing = s.link.outgoing := by
  cases ho : s.order? n with
  | none => rw [markEnded, ho]
  | some o =>
    have hlink : (s.stopped o).link = s.link := by
      unfold State.stopped
      split <;> simp [stopTimers]
    rw [markEnded_eq ho, if_neg (by decide), ← hlink]
    simp [State.reachesEnd, State.noticeOrder, Link.outgoing]

/-- Table 0-1: a record in work is its group's active order. -/
theorem State.active_of_order {s : State} {n : Nat} {o : Order} (ho : s.order? n = some o)
    (hnodup : (s.seq.orders.map (·.number)).Nodup) (hone : s.oneActiveEach) (hstate : o.state.isActive = true) :
    s.active? o.group = some o := by
  obtain ⟨hmem, -⟩ := State.mem_of_order ho
  obtain ⟨x, hx⟩ := State.exists_active hmem hstate
  have hnumber := State.number_eq_of_active hnodup hone hx hmem rfl hstate
  obtain ⟨hxmem, -, -⟩ := State.mem_of_active hx
  rw [hx, List.inj_on_of_nodup_map hnodup hmem hxmem hnumber]

/-! ### A QUEUED record -/

/-- R32: an end that is no completion, of a record that is not in work. -/
theorem markEnded_queued {n : Nat} {o : Order} {s : State} (ho : s.order? n = some o) (hstate : o.state = .queued) :
    markEnded n .cancelled none s =
      (setOrder n (fun x => x.atEnd .cancelled none s.supply.time s.skew s.seq.endRank) s).noticeOrder := by
  have hstopped : s.stopped o = s := by simp [State.stopped, hstate, OrderState.isActive]
  rw [markEnded_eq ho, if_neg (by decide), State.reachesEnd, hstopped]

/-- The active order of a group after ends of records that are not it. -/
theorem ended_active_other {s : State} {g : Group} {a : Order} {n : Nat} (hactive : s.active? g = some a) (hne : a.number ≠ n)
    (res : OrderResult) (why : Option Reason) (now : U32) (skew : Int) (rank : Nat) :
    ((setOrder n (fun x => x.atEnd res why now skew rank) s).noticeOrder).active? g = some a := by
  obtain ⟨hmem, before, rest, hsplit, hbefore⟩ := List.find?_eq_some_iff_append.1 hactive
  have horders : ((setOrder n (fun x => x.atEnd res why now skew rank) s).noticeOrder).seq.orders =
      s.seq.orders.map fun o => if o.number = n then o.atEnd res why now skew rank else o := setOrder_orders ..
  rw [State.active?, horders, hsplit]
  refine List.find?_eq_some_iff_append.2 ⟨hmem, before.map fun o => if o.number = n then o.atEnd res why now skew rank else o,
    rest.map fun o => if o.number = n then o.atEnd res why now skew rank else o, by simp [hne], fun x hx => ?_⟩
  obtain ⟨y, hy, rfl⟩ := List.mem_map.1 hx
  by_cases hn : y.number = n
  · simp [hn, Order.atEnd, OrderState.isActive]
  · rw [if_neg hn]
    exact hbefore y hy

theorem ended_active_none {s : State} {g : Group} {n : Nat} (hnone : s.active? g = none) (res : OrderResult)
    (why : Option Reason) (now : U32) (skew : Int) (rank : Nat) :
    ((setOrder n (fun x => x.atEnd res why now skew rank) s).noticeOrder).active? g = none := by
  have horders : ((setOrder n (fun x => x.atEnd res why now skew rank) s).noticeOrder).seq.orders =
      s.seq.orders.map fun o => if o.number = n then o.atEnd res why now skew rank else o := setOrder_orders ..
  refine List.find?_eq_none.2 fun x hx => ?_
  rw [horders] at hx
  obtain ⟨y, hy, rfl⟩ := List.mem_map.1 hx
  by_cases hn : y.number = n
  · simp [hn, Order.atEnd, OrderState.isActive]
  · rw [if_neg hn]
    exact List.find?_eq_none.1 hnone y hy

/-- R14: under a proving test no record starts. -/
theorem advanceGroup_stays {g : Group} {s : State} (hproving : s.proving = true) (hnone : s.active? g = none) :
    advanceGroup g s = s ∨ advanceGroup g s = becomeIdle g s := by
  unfold advanceGroup startQueued
  rw [if_neg (by simp [hnone])]
  split
  · exact .inr rfl
  · exact .inl (if_pos hproving)

/-- R33: the record leaves the queue. -/
theorem cancel_queued {tag : Byte} {n : U16} {o : Order} {s : State} (h : s.answers) (ho : s.order? n.toNat = some o)
    (hstate : o.state = .queued)
    (hnext : advanceGroup o.group (markEnded n.toNat .cancelled none s) = markEnded n.toNat .cancelled none s ∨
      advanceGroup o.group (markEnded n.toNat .cancelled none s) = becomeIdle o.group (markEnded n.toNat .cancelled none s)) :
    ∃ t, exec (.cancel tag n) s = .next t ∧ s.endsAs t o .cancelled none ∧
      t.link.outgoing = (s.doneReply 0x11 tag []).link.outgoing ∧ t.runs = s.runs ∧ t.drive = s.drive ∧ t.flow = s.flow ∧
      t.faults = s.faults ∧ t.seq.ctl = s.seq.ctl ∧
      (advanceGroup o.group (markEnded n.toNat .cancelled none s) = markEnded n.toNat .cancelled none s →
        t.trackers = s.trackers) := by
  obtain ⟨-, hnumber⟩ := State.mem_of_order ho
  have hmarked := markEnded_queued ho hstate
  have hout := markEnded_cancelled_outgoing n.toNat s
  have hf : cancelRequest n.toNat s = (advanceGroup o.group (markEnded n.toNat .cancelled none s), .ok) := by
    rw [cancelRequest_of_order ho, (cancelOrder_cases o s).1 hstate, endOrder, hnumber]
  have hend : ∀ u, u = markEnded n.toNat .cancelled none s ∨ u = becomeIdle o.group (markEnded n.toNat .cancelled none s) →
      u.link.outgoing = s.link.outgoing ∧ s.endsAs u o .cancelled none ∧ u.runs = s.runs ∧ u.drive = s.drive ∧
        u.flow = s.flow ∧ u.faults = s.faults ∧ u.seq.ctl = s.seq.ctl := by
    intro u hu
    have hkept : u.link = (markEnded n.toNat .cancelled none s).link ∧ u.seq = (markEnded n.toNat .cancelled none s).seq ∧
        u.runs = (markEnded n.toNat .cancelled none s).runs ∧ u.drive = (markEnded n.toNat .cancelled none s).drive ∧
        u.flow = (markEnded n.toNat .cancelled none s).flow ∧ u.faults = (markEnded n.toNat .cancelled none s).faults := by
      rcases hu with rfl | rfl
      · exact ⟨rfl, rfl, rfl, rfl, rfl, rfl⟩
      · simp
    obtain ⟨hlink, hseq, hruns, hdrive, hflow, hfaults⟩ := hkept
    refine ⟨by rw [hlink, hout], ?_, by rw [hruns, hmarked]; simp, by rw [hdrive, hmarked]; simp,
      by rw [hflow, hmarked]; simp, by rw [hfaults, hmarked]; simp, by rw [hseq, hmarked]; simp [State.modOrder]⟩
    rw [State.endsAs, records_congr (s := markEnded n.toNat .cancelled none s) (by rw [hseq]), hmarked]
    refine (setOrder_records ..).trans ?_
    rw [← hnumber, List.map_map, List.map_map]
    refine List.map_congr_left fun x _ => ?_
    simp only [Function.comp]
    split <;> rfl
  obtain ⟨hlink, hrecords, hruns, hdrive, hflow, hfaults, hctl⟩ := hend _ hnext
  obtain ⟨t, he, ht, hreply⟩ := request_effect .cancel tag (cancelRequest n.toNat) h hf hlink
  refine ⟨t, he, ht.records.trans hrecords, hreply, ht.runs.trans hruns, ht.drive.trans hdrive, ht.flow.trans hflow,
    ht.faults.trans hfaults, ht.ctlTable.trans hctl, fun hsame => ?_⟩
  rw [ht.trackers, hsame, hmarked]
  simp

section Ended

variable {tag : Byte} {n : U16} {o : Order} {s u : State}

/-- What the end of an active order with nothing queued behind it leaves, u being the state in which it ends. -/
theorem cancel_ended (h : s.answers) (hnodup : (s.seq.orders.map (·.number)).Nodup) (hone : s.oneActiveEach)
    (hactive : s.active? o.group = some o) (hqueued : s.oldestQueued? o.group = none) (hidle : s.run? o.group = none)
    (hseq : u.seq = s.seq) (hruns : u.runs = s.runs) (hlink : u.link = s.link) (hsupply : u.supply = s.supply)
    (htrackers : u.trackers = s.trackers) (hflags : u.faults.flags = s.faults.flags) (hoperator : u.operator = s.operator)
    (hfit : u.fitment = s.fitment) (hf : cancelRequest n.toNat s = (endOrder o .cancelled none u, .ok)) :
    ∃ t, exec (.cancel tag n) s = .next t ∧ s.endedCancelled t tag o ∧ t.flow = u.flow ∧ t.drive = u.drive ∧
      t.faults = u.faults := by
  have hnodup' : (u.seq.orders.map (·.number)).Nodup := by rw [hseq]; exact hnodup
  have hone' : u.oneActiveEach := by rw [State.oneActiveEach, hseq]; exact hone
  have hactive' : u.active? o.group = some o := (State.active_congr (by rw [hseq]) _).trans hactive
  have hqueued' : u.oldestQueued? o.group = none := by rw [State.oldestQueued?, hseq]; exact hqueued
  have hidle' : u.run? o.group = none := by rw [State.run?, hruns]; exact hidle
  obtain ⟨hfaults, hflow, hdrive, hfitment, -⟩ :=
    endOrder_rest (res := .cancelled) hnodup' hone' hactive' hqueued' (by decide) none hidle'
  have hrecords := endOrder_records (res := .cancelled) hnodup' hone' hactive' hqueued' (by decide) none
  have hout : (endOrder o .cancelled none u).link.outgoing = s.link.outgoing := by
    rw [endOrder_idle (res := .cancelled) hnodup' hone' hactive' hqueued' (by decide), ← hlink]
    have hidled : (becomeIdle o.group (u.afterEnd o .cancelled none)).link = (u.afterEnd o .cancelled none).link := by simp
    rw [hidled]
    simp [State.afterEnd, State.noticeOrder, Link.outgoing, stopTimers]
  obtain ⟨t, he, ht, ho⟩ := request_effect .cancel tag (cancelRequest n.toNat) h hf hout
  refine ⟨t, he, ⟨?_, ?_, ho, ?_, ?_, ?_⟩, ht.flow.trans hflow, ht.drive.trans hdrive, ht.faults.trans hfaults⟩
  · have hskew : u.skew = s.skew := by rw [State.skew, State.skew, State.tracker, State.tracker, htrackers]; rfl
    rw [State.endsAs, hseq, hsupply, hskew] at hrecords
    exact ht.records.trans hrecords
  · exact ht.active_none (endOrder_active (res := .cancelled) hnodup' hone' hactive' hqueued' (by decide) none)
  · rw [ht.faults, hfaults, hflags]
  · rw [ht.operator, ← hoperator]; simp
  · rw [ht.fitment, hfitment, hfit]

end Ended

/-- R33, R120: the state once the latch pulse of the order's PULSE phase is released, if it runs. -/
def State.pulseReleased (s : State) (o : Order) : State :=
  match o.group.side? with
  | some d => if o.phaseIs .pulse ∧ (s.chan d.latch).state ≠ .idle then release d.latch s else s
  | none => s

theorem endPulse_eq (o : Order) (res : OrderResult) (why : Option Reason) (s : State) :
    endPulse o res why s = endOrder o res why (s.pulseReleased o) := rfl

/-- R120: what that leaves. -/
theorem State.pulseReleased_rest (s : State) (o : Order) :
    (s.pulseReleased o).seq = s.seq ∧ (s.pulseReleased o).runs = s.runs ∧ (s.pulseReleased o).link = s.link ∧
      (s.pulseReleased o).supply = s.supply ∧ (s.pulseReleased o).trackers = s.trackers ∧
      (s.pulseReleased o).faults.flags = s.faults.flags ∧ (s.pulseReleased o).operator = s.operator ∧
      (s.pulseReleased o).fitment = s.fitment ∧ (s.pulseReleased o).flow = s.flow := by
  unfold State.pulseReleased
  split
  next d _ =>
    split
    · simp [release_faults]
    · simp
  next => simp

theorem State.pulseReleased_of_check {s : State} {o : Order} (h : o.phaseIs .pulse = false) : s.pulseReleased o = s := by
  unfold State.pulseReleased
  split
  · exact if_neg (by simp [h])
  · rfl

/-- R120: the latch channel of the order's side is IDLE then. -/
theorem State.pulseReleased_chan {s : State} {o : Order} {d : Side} (h : o.phaseIs .pulse = true) (hd : o.group = d.group) :
    ((s.pulseReleased o).chan d.latch).state = .idle ∧ ∀ c, c ≠ d.latch → (s.pulseReleased o).chan c = s.chan c := by
  have hside : o.group.side? = some d := by rw [hd]; cases d <;> rfl
  unfold State.pulseReleased
  rw [hside]
  dsimp only
  by_cases hidle : (s.chan d.latch).state = .idle
  · rw [if_neg fun h' => h'.2 hidle]
    exact ⟨hidle, fun _ _ => rfl⟩
  · rw [if_pos ⟨h, hidle⟩]
    exact ⟨by rw [release_chan, if_pos rfl]; rfl, fun c hc => by rw [release_chan, if_neg (Ne.symm hc)]⟩

theorem Order.phaseIs_pulse_of_check {o : Order} (h : o.phaseIs .check = true) : o.phaseIs .pulse = false := by
  unfold Order.phaseIs at h ⊢
  cases hp : o.phase? with
  | none => rfl
  | some p =>
    have hkind : p.kind = .check := by simpa [hp] using h
    simp [hkind]

/-- Settles O28, by the state of the record. -/
theorem cancelGoesByTheState : Obligations.CancelGoesByTheState := by
  intro tag n s h
  refine ⟨fun hnone => request_refused .cancel tag (cancelRequest n.toNat) h (cancelRequest_of_none hnone),
    fun o ho hended => ?_, fun o ho hmoving hmovement => ?_, fun o ho hstate => ?_,
    fun o ho hnodup hone hqueued hidle => ⟨fun hstate hown => ?_, fun hmoving hpulse => ?_, fun hmoving hcheck => ?_⟩,
    fun o ho hqueued hproving hnone => ?_, fun o a ho hqueued hactive hne => ?_⟩
  · have hf : cancelRequest n.toNat s = (s, .no .endedAlready) :=
      (cancelRequest_of_order ho).trans ((cancelOrder_cases o s).2.2.2.2.2 hended)
    exact request_refused .cancel tag (cancelRequest n.toNat) h hf
  · have hf : cancelRequest n.toNat s = (toStopping o.number .finish (some .cancelled) none s, .ok) :=
      (cancelRequest_of_order ho).trans ((cancelOrder_cases o s).2.2.1 hmoving hmovement)
    obtain ⟨t, he, ht, hreply⟩ := request_effect .cancel tag (cancelRequest n.toNat) h hf
      (congrArg Link.outgoing (show (toStopping o.number .finish (some .cancelled) none s).link = s.link by simp [toStopping]))
    refine ⟨t, he, ht.records.trans (toStopping_records ..), hreply, ?_, ?_, ?_, ?_, ?_, ?_⟩
    · rw [ht.runs]; simp [toStopping]
    · rw [ht.drive]; simp [toStopping]
    · rw [ht.flow]; simp [toStopping]
    · rw [ht.faults]; simp [toStopping]
    · rw [ht.trackers]; simp [toStopping]
    · rw [ht.ctlTable]; simp [toStopping, State.modOrder]
  · obtain ⟨-, hnumber⟩ := State.mem_of_order ho
    have hf : cancelRequest n.toNat s = (s.modOrder n.toNat Order.cancelStop, .ok) := by
      rw [← hnumber]
      exact (congrArg (fun k => cancelRequest k s) hnumber).trans
        ((cancelRequest_of_order ho).trans ((cancelOrder_cases o s).2.2.2.2.1 hstate))
    exact request_ok .cancel tag (cancelRequest n.toNat) h hf
  · have hactive := State.active_of_order ho hnodup hone (by rcases hstate with h | h | h | h <;> rw [h] <;> rfl)
    have hf : cancelRequest n.toNat s = (endOrder o .cancelled none (withdraw o.number s), .ok) :=
      (cancelRequest_of_order ho).trans ((cancelOrder_cases o s).2.1 hstate)
    obtain ⟨hwaiting, hgranted, hseq, hruns, -⟩ := withdraw_of_own hown
    obtain ⟨t, he, hended, hflow, hdrive, hfaults⟩ := cancel_ended (tag := tag) h hnodup hone hactive hqueued hidle hseq hruns
      (by simp) (by simp) (by simp) (by simp) (by simp) (by simp) hf
    exact ⟨t, he, hended, by rw [hflow, hwaiting], by rw [hflow, hgranted], by rw [hdrive]; simp, by rw [hfaults]; simp⟩
  · have hactive := State.active_of_order ho hnodup hone (by rw [hmoving]; rfl)
    have hf : cancelRequest n.toNat s = (endOrder o .cancelled none (s.pulseReleased o), .ok) :=
      (cancelRequest_of_order ho).trans ((cancelOrder_cases o s).2.2.2.1 hmoving (Order.inMovement_of_phaseIs (.inl rfl) hpulse))
    obtain ⟨hseq, hruns, hlink, hsupply, htrackers, hflags, hoperator, hfit, hflow'⟩ := s.pulseReleased_rest o
    obtain ⟨t, he, hended, hflow, hdrive, -⟩ := cancel_ended (tag := tag) h hnodup hone hactive hqueued hidle hseq hruns hlink
      hsupply htrackers hflags hoperator hfit hf
    refine ⟨t, he, hended, fun d hd => ?_, hflow.trans hflow'⟩
    obtain ⟨hchan, hothers⟩ := State.pulseReleased_chan (s := s) hpulse hd
    exact ⟨by rw [State.chan, hdrive]; exact hchan, fun c hc => by rw [State.chan, hdrive]; exact hothers c hc⟩
  · have hactive := State.active_of_order ho hnodup hone (by rw [hmoving]; rfl)
    have hsame : s.pulseReleased o = s := State.pulseReleased_of_check (Order.phaseIs_pulse_of_check hcheck)
    have hf : cancelRequest n.toNat s = (endOrder o .cancelled none s, .ok) := by
      have hpulse : endPulse o .cancelled none s = endOrder o .cancelled none s := by rw [endPulse_eq, hsame]
      rw [← hpulse]
      exact (cancelRequest_of_order ho).trans
        ((cancelOrder_cases o s).2.2.2.1 hmoving (Order.inMovement_of_phaseIs (.inr rfl) hcheck))
    obtain ⟨t, he, hended, hflow, hdrive, hfaults⟩ := cancel_ended (tag := tag) h hnodup hone hactive hqueued hidle rfl rfl rfl
      rfl rfl rfl rfl rfl hf
    exact ⟨t, he, hended, hdrive, hflow, hfaults⟩
  · have hmarked := markEnded_queued ho hqueued
    have hnext := advanceGroup_stays (s := markEnded n.toNat .cancelled none s) (g := o.group)
      (by rw [hmarked]; simpa [State.proving] using hproving) (by rw [hmarked]; exact ended_active_none hnone ..)
    obtain ⟨t, he, hrecords, hreply, hruns, hdrive, hflow, hfaults, hctl, -⟩ := cancel_queued (tag := tag) h ho hqueued hnext
    exact ⟨t, he, hrecords, hreply, hruns, hdrive, hflow, hfaults, hctl⟩
  · obtain ⟨-, hnumber⟩ := State.mem_of_order ho
    have hstill : (markEnded n.toNat .cancelled none s).active? o.group = some a := by
      rw [markEnded_queued ho hqueued]
      exact ended_active_other hactive (by rw [← hnumber]; exact hne) ..
    have hsame := advanceGroup_of_active hstill
    obtain ⟨t, he, hrecords, hreply, hruns, hdrive, hflow, hfaults, hctl, htrackers⟩ :=
      cancel_queued (tag := tag) h ho hqueued (.inl hsame)
    exact ⟨t, he, hrecords, hreply, hruns, hdrive, hflow, hfaults, htrackers hsame, hctl⟩

end Sys2Proof.Machine
end


section
/-! PROOFS. Hold inputs and two-hand sets (O51). -/

namespace Sys2Proof.Machine

/-! ### The taking of a hold input's level -/

/-- The line's debounced level is taken. -/
def State.lineTaken (s : State) (l : Line) (level : Bool) : State := s.modLine l fun x => { x with level := level, timer := none }

theorem modLine_modLine (s : State) (l : Line) (f g : LineState → LineState) :
    (s.modLine l f).modLine l g = s.modLine l fun x => g (f x) := by
  have hset (v : Vector LineState 16) (i : Fin 16) (a b : LineState) : (v.set i a).set i b = v.set i b := by
    apply Vector.ext
    intro j hj
    simp only [Vector.getElem_set]
    split <;> rfl
  have hline : (s.modLine l f).line l = f (s.line l) := State.modLine_line_self ..
  simp only [State.modLine] at hline ⊢
  rw [hline, hset]

/-- R133: an expiry that takes a new level. -/
theorem inputExpiry_of_due {l : Line} {s : State} (htimer : (s.line l).timer ≠ none) (hdiffers : (s.line l).raw ≠ (s.line l).level) :
    inputExpiry l s = takeLine l (s.modLine l fun x => { x with timer := none }) := by
  have hsome : (s.line l).timer.isSome = true := Option.isSome_iff_ne_none.2 htimer
  have hraw : ((s.modLine l fun x => { x with timer := none }).line l).raw = (s.line l).raw := by
    rw [State.modLine_line_self]
  have hlevel : ((s.modLine l fun x => { x with timer := none }).line l).level = (s.line l).level := by
    rw [State.modLine_line_self]
  unfold inputExpiry
  rw [if_pos hsome]
  dsimp only
  rw [hraw, hlevel, if_neg hdiffers]

/-- R134: what is handed to the consumers of a line. -/
theorem takeLine_level (l : Line) (s : State) :
    (s.modLine l fun x => { x with timer := none }).modLine l (fun x => { x with level := (s.line l).raw }) =
      s.lineTaken l (s.line l).raw := modLine_modLine ..

theorem inputExpiry_hold {h : Fin 4} {s : State} (htimer : (s.line (.h h)).timer ≠ none)
    (hdiffers : (s.line (.h h)).raw ≠ (s.line (.h h)).level) :
    inputExpiry (.h h) s = holdTaken h (s.line (.h h)).raw (s.lineTaken (.h h) (s.line (.h h)).raw) := by
  have hraw : ((s.modLine (.h h) fun x => { x with timer := none }).line (.h h)).raw = (s.line (.h h)).raw := by
    rw [State.modLine_line_self]
  rw [inputExpiry_of_due htimer hdiffers, ← takeLine_level, ← hraw]
  rfl

/-! ### Reports to bound orders -/

/-- No order has this binding. -/
def State.unbound (s : State) (b : Binding) : Prop := ∀ x ∈ s.seq.orders, x.binding ≠ b

theorem reportBinding_of_unbound {b : Binding} {s : State} (h : s.unbound b) (f : Nat → State → State) :
    reportBinding b f s = s := by
  have hnone : (s.seq.orders.filter fun o => decide (o.binding = b)) = [] :=
    List.filter_eq_nil_iff.2 fun x hx => by simpa using h x hx
  rw [reportBinding, hnone]
  rfl

/-- A report to the one order with a binding. -/
theorem reportBinding_of_bound {b : Binding} {o : Order} {s : State} (hb : b ≠ .none)
    (hnodup : (s.seq.orders.map (·.number)).Nodup) (ho : s.order? o.number = some o)
    (halone : ∀ x ∈ s.seq.orders, x.number ≠ o.number → x.binding = .none) (hbinding : o.binding = b)
    (f : Nat → State → State) : reportBinding b f s = f o.number s := by
  obtain ⟨before, rest, hsplit⟩ := List.append_of_mem (State.mem_of_order ho).1
  rw [hsplit, List.map_append, List.map_cons, List.nodup_append] at hnodup
  obtain ⟨-, hrest, hdisjoint⟩ := hnodup
  obtain ⟨hnot, -⟩ := List.nodup_cons.1 hrest
  have hnone (xs : List Order) (hmem : ∀ x ∈ xs, x ∈ s.seq.orders) (hne : ∀ x ∈ xs, x.number ≠ o.number) :
      (xs.filter fun o => decide (o.binding = b)) = [] :=
    List.filter_eq_nil_iff.2 fun x hx => by
      rw [halone x (hmem x hx) (hne x hx)]
      simpa using Ne.symm hb
  have hbefore := hnone before (fun x hx => by rw [hsplit]; exact List.mem_append_left _ hx)
    fun x hx => hdisjoint _ (List.mem_map_of_mem hx) _ List.mem_cons_self
  have hafter := hnone rest (fun x hx => by rw [hsplit]; exact List.mem_append_right _ (List.mem_cons_of_mem _ hx))
    fun x hx hn => hnot (hn ▸ List.mem_map_of_mem hx)
  have hfilter : (s.seq.orders.filter fun o => decide (o.binding = b)) = [o] := by
    rw [hsplit, List.filter_append, List.filter_cons_of_pos (by simpa using hbinding), hbefore, hafter]
    rfl
  rw [reportBinding, hfilter]
  rfl

/-- Table 7-2: a move of a two-hand set to which no order is bound. -/
theorem moveHand_of_unbound {i : Fin 2} {s : State} (h : s.unbound (.twoHand i)) (m : TwoHand) :
    moveHand i m s = s.setHand i m := by
  have h' : (s.setHand i m).unbound (.twoHand i) := h
  unfold moveHand
  dsimp only
  rw [reportBinding_of_unbound h', reportBinding_of_unbound h']
  split
  · rfl
  · split <;> rfl

/-- Table 7-2: the two-hand set after the taking of one of its inputs, u being the state in which the level has been taken. -/
def State.handMoved (u : State) (h : Fin 4) (level : Bool) : TwoHand :=
  if level then (u.hand (handOf h)).activated u.twoHandTime
  else (u.hand (handOf h)).deactivated (u.level (.h (partner h)))

theorem holdTaken_true (h : Fin 4) (u : State) :
    holdTaken h true u =
      moveHand (handOf h) (u.handMoved h true) (reportBinding (.edge h) edgeTaken (reportBinding (.level h) bindingGained u)) := by
  have hfit : (reportBinding (.edge h) edgeTaken (reportBinding (.level h) bindingGained u)).fitment = u.fitment := by simp
  have htime : (reportBinding (.edge h) edgeTaken (reportBinding (.level h) bindingGained u)).twoHandTime = u.twoHandTime := by
    rw [State.twoHandTime, State.twoHandTime, hfit]
  unfold holdTaken
  dsimp only
  rw [if_pos rfl, htime]
  rfl

theorem holdTaken_false (h : Fin 4) (u : State) :
    holdTaken h false u = moveHand (handOf h) (u.handMoved h false) (reportBinding (.level h) bindingLost u) := by
  have hoperator : (reportBinding (.level h) bindingLost u).operator = u.operator := by simp
  have hlevel : (reportBinding (.level h) bindingLost u).level (.h (partner h)) = u.level (.h (partner h)) := by
    rw [State.level, State.level, State.line, State.line, hoperator]
  unfold holdTaken
  dsimp only
  rw [if_neg (by simp), hlevel]
  rfl

/-- With no order bound to the input or to its set the set alone moves. -/
theorem holdTaken_of_unbound {h : Fin 4} {u : State} (hlevel : u.unbound (.level h)) (hedge : u.unbound (.edge h))
    (hhand : u.unbound (.twoHand (handOf h))) (level : Bool) :
    holdTaken h level u = u.setHand (handOf h) (u.handMoved h level) := by
  cases level with
  | true =>
    rw [holdTaken_true, reportBinding_of_unbound hlevel, reportBinding_of_unbound hedge, moveHand_of_unbound hhand]
  | false => rw [holdTaken_false, reportBinding_of_unbound hlevel, moveHand_of_unbound hhand]

/-! ### Reports to an order, by its state -/

theorem bindingGained_cases {n : Nat} {o : Order} {s : State} (ho : s.order? n = some o) :
    (∀ p, o.state = .holdWait → o.phase? = some p → bindingGained n s = gateFlow o p s) ∧
      (∀ p, o.state = .paused → o.phase? = some p → bindingGained n s = gateInterlock o p s) ∧
      (o.state ≠ .holdWait → o.state ≠ .paused → bindingGained n s = s) := by
  unfold bindingGained
  rw [ho]
  dsimp only
  refine ⟨fun p hstate hp => by rw [hstate, hp], fun p hstate hp => by rw [hstate, hp], fun hwait hpaused => ?_⟩
  split
  · rename_i hstate _; exact absurd hstate hwait
  · rename_i hstate _; exact absurd hstate hpaused
  · rfl

theorem bindingLost_cases {n : Nat} {o : Order} {s : State} (ho : s.order? n = some o) :
    (o.state = .claiming → bindingLost n s = enterHoldWait o (withdraw n s)) ∧
      (o.state = .moving → o.inMovement = true → bindingLost n s = toStopping n .pause none none s) ∧
      (o.state ≠ .claiming → ¬ (o.state = .moving ∧ o.inMovement = true) → bindingLost n s = s) := by
  unfold bindingLost
  rw [ho]
  dsimp only
  refine ⟨fun hstate => by rw [hstate], fun hstate hmovement => by rw [hstate]; exact if_pos hmovement,
    fun hclaiming hmoving => ?_⟩
  cases hstate : o.state with
  | claiming => exact absurd hstate hclaiming
  | moving => exact if_neg fun hmovement => hmoving ⟨hstate, hmovement⟩
  | queued | blocked | holdWait | stopping | paused | settling | ended => rfl

/-- The record with its starting edge taken. -/
def Order.edged (o : Order) : Order := { o with startedEdge := true }

theorem edgeTaken_cases {n : Nat} {o : Order} {s : State} (ho : s.order? n = some o) :
    (∀ p, o.state = .holdWait → o.phase? = some p → edgeTaken n s = gateFlow o.edged p (s.modOrder n Order.edged)) ∧
      (o.state ≠ .holdWait → edgeTaken n s = s) := by
  have hedged : (s.modOrder n Order.edged).order? n = some o.edged := by
    rw [State.modOrder_order _ _ _ (by exact fun _ => rfl), ho]
    simp
  unfold edgeTaken
  rw [ho]
  refine ⟨fun p hstate hp => ?_, fun hstate => if_neg hstate⟩
  refine (if_pos hstate).trans ?_
  exact (bindingGained_cases hedged).1 p hstate hp

/-! ### Orders bound after a report -/

/-- A try of the gates leaves every binding as it was. -/
theorem unbound_of_begins {u v : State} {o : Order} {P : Order → Prop} (hnumbers : v.numbers = u.numbers)
    (hholds : ∀ n, n ≠ o.number → u.HoldsIn v n) (hb : v.begins o P) (hnodup : u.numbers.Nodup)
    (halone : ∀ x ∈ u.seq.orders, x.number ≠ o.number → x.binding = .none) {b : Binding} (hnone : b ≠ .none)
    (hother : o.binding ≠ b) : v.unbound b := by
  intro x hx
  have hnodup' : v.numbers.Nodup := by rw [hnumbers]; exact hnodup
  have hfound := State.order_of_mem hnodup' hx
  by_cases hn : x.number = o.number
  · obtain ⟨y, hy, hbegins, -⟩ := hb
    rw [hn, hy] at hfound
    obtain rfl : y = x := by simpa using hfound
    rw [hbegins.binding]
    exact hother
  · have hmem : x.number ∈ u.numbers := by
      rw [← hnumbers]
      exact List.mem_map_of_mem hx
    obtain ⟨z, hz, hzn⟩ := List.mem_map.1 hmem
    have hzfound : u.order? x.number = some z := hzn ▸ State.order_of_mem hnodup hz
    have hzbinding := halone z hz (by rw [hzn]; exact hn)
    have hsame : x = z ∨ x = z.moves := by
      obtain h | ⟨-, h⟩ := hholds _ hn z hzfound
      · exact .inl (by simpa [hfound] using h)
      · exact .inr (by simpa [hfound] using h)
    have hbinding : x.binding = z.binding := by
      rcases hsame with rfl | rfl <;> rfl
    rw [hbinding, hzbinding]
    exact Ne.symm hnone

theorem gateFlow_unbound {u : State} {o : Order} {p : Phase} {P : Order → Prop} (hb : (gateFlow o p u).begins o P)
    (hnodup : u.numbers.Nodup) (halone : ∀ x ∈ u.seq.orders, x.number ≠ o.number → x.binding = .none) {b : Binding}
    (hnone : b ≠ .none) (hother : o.binding ≠ b) : (gateFlow o p u).unbound b :=
  unbound_of_begins (gateFlow_keeps (G := False) (s := u) (o := o) (fun h => h.elim) p).numbers
    (fun _ hne => gateFlow_holds hne p u) hb hnodup halone hnone hother

theorem gateInterlock_unbound {u : State} {o : Order} {p : Phase} {P : Order → Prop} (hb : (gateInterlock o p u).begins o P)
    (hnodup : u.numbers.Nodup) (halone : ∀ x ∈ u.seq.orders, x.number ≠ o.number → x.binding = .none) {b : Binding}
    (hnone : b ≠ .none) (hother : o.binding ≠ b) : (gateInterlock o p u).unbound b :=
  unbound_of_begins (gateInterlock_keeps (G := False) (s := u) (o := o) (fun h => h.elim) p).numbers
    (fun _ hne => gateInterlock_holds hne p u) hb hnodup halone hnone hother

/-- The two-hand sets play no part in the gates of an order that is not bound to them. -/
theorem gateTwo_setHand {u t : State} {p : Phase} {y : Order} {i : Fin 2} (m : TwoHand) (hy : y.binding ≠ .twoHand i) :
    (u.setHand i m).gateTwo t p y ↔ u.gateTwo t p y := by
  have hbinding : (u.setHand i m).bindingOk y = u.bindingOk y := by
    unfold State.bindingOk
    cases hb : y.binding with
    | none | edge _ | level _ => rfl
    | twoHand j =>
      have hne : i ≠ j := fun hij => hy (by rw [hb, hij])
      simp only [State.setHand_hand_ne _ hne]
  unfold State.gateTwo
  rw [hbinding]
  exact Iff.rfl

/-- Table 7-2 in the words of the statement. -/
theorem handMoved_eq (x : TwoHand) (window : Nat) (active other : Bool) :
    (match active, x.state with
      | true, .released => ⟨.half, some window⟩
      | true, .half => ⟨.held, none⟩
      | false, .half => ⟨.released, none⟩
      | false, .held => ⟨.lockout, none⟩
      | false, .lockout => if other then x else ⟨.released, none⟩
      | _, _ => x) = if active then x.activated window else x.deactivated other := by
  unfold TwoHand.activated TwoHand.deactivated
  cases active with
  | true => cases hstate : x.state <;> rfl
  | false => cases hstate : x.state <;> rfl

theorem partner_ne (h : Fin 4) : Line.h h ≠ Line.h (partner h) := by
  have hne : h ≠ partner h := by revert h; decide
  exact fun heq => hne (Line.h.inj heq)

section Event

variable {h : Fin 4} {s : State} (hrun : s.supply.mode = .run) (htimer : (s.line (.h h)).timer ≠ none)
  (hdiffers : (s.line (.h h)).raw ≠ (s.line (.h h)).level)

/-- The state once the level of the hold input has been taken. -/
def State.held (s : State) (h : Fin 4) : State := s.lineTaken (.h h) (s.line (.h h)).raw

/-- The state once its two-hand set has moved too. -/
def State.handed (s : State) (h : Fin 4) : State :=
  (s.held h).setHand (handOf h) ((s.held h).handMoved h (s.line (.h h)).raw)

include hrun htimer hdiffers

/-- R134: what the expiry leaves, from what the taking of the level does. -/
theorem holdExpiry_effect {v : State} (hv : holdTaken h (s.line (.h h)).raw (s.held h) = v) :
    ∃ t, exec (.inputDebounceExpiry (.h h)) s = .next t ∧ t.quiet = v.quiet := by
  obtain ⟨t, he, hq⟩ := runEvent_next (inputExpiry (.h h)) hrun
  rw [inputExpiry_hold htimer hdiffers] at hq
  exact ⟨t, he, by rw [hq, ← hv]; rfl⟩

/-- R18, R25: an order that goes on through its gates, in the words of the statement. -/
theorem holdExpiry_goesOn {v : State} {o o' : Order} {how : State → Order → Prop} {P : Prop}
    (hv : holdTaken h (s.line (.h h)).raw (s.held h) = v) (hoperator : v.operator = (s.handed h).operator)
    (hnumber : o'.number = o.number) (hb : v.begins o' fun y => P → how v y)
    (hserves : ∀ t y, t.ServesAs v y.group → (how t y ↔ how v y)) (hmark : ∀ y, how v y.unmarked ↔ how v y) (hP : P) :
    ∃ (t : State) (y : Order), exec (.inputDebounceExpiry (.h h)) s = .next t ∧ t.order? o.number = some y ∧
      y.group = o'.group ∧ y.kind = o'.kind ∧ y.binding = o'.binding ∧ y.index = o'.index ∧ y.phases = o'.phases ∧
      y.startedEdge = o'.startedEdge ∧ how t y ∧ t.operator = (s.handed h).operator := by
  obtain ⟨t, he, hq⟩ := holdExpiry_effect hrun htimer hdiffers hv
  have ht := State.matches_of_quiet hq
  obtain ⟨y, hy, hbegins, hhow⟩ := hb
  obtain ⟨z, hz, hsame⟩ := ht.order hy
  have hplan : z.plan = o'.plan := ((congrArg Order.plan hsame :) : z.plan = y.plan).trans hbegins.plan
  have hhow' : how t z := by
    rw [hserves t z (ht.serves _), ← hmark, hsame, hmark]
    exact hhow hP
  exact ⟨t, z, he, hnumber ▸ hz, (congrArg Order.group hplan :), (congrArg Order.kind hplan :), (congrArg Order.binding hplan :),
    (congrArg Order.index hplan :), (congrArg Order.phases hplan :), (congrArg Order.startedEdge hplan :), hhow',
    ht.operator.trans hoperator⟩

end Event

/-! ### The one bound order -/

section Bound

variable {h : Fin 4} {s u : State} {o : Order} (ho : s.order? o.number = some o) (hnodup : (s.seq.orders.map (·.number)).Nodup)
  (halone : ∀ x ∈ s.seq.orders, x.number ≠ o.number → x.binding = .none) (hu : u.seq = s.seq)

include ho hnodup halone hu

theorem unbound_of_alone {b : Binding} (hnone : b ≠ .none) (hother : o.binding ≠ b) : u.unbound b := by
  intro x hx
  rw [hu] at hx
  by_cases hn : x.number = o.number
  · obtain rfl := List.inj_on_of_nodup_map hnodup hx (State.mem_of_order ho).1 hn
    exact hother
  · rw [halone x hx hn]
    exact Ne.symm hnone

theorem report_to_bound {b : Binding} (hnone : b ≠ .none) (hbinding : o.binding = b) (f : Nat → State → State) :
    reportBinding b f u = f o.number u :=
  reportBinding_of_bound hnone (by rw [hu]; exact hnodup) ((State.order_congr (by rw [hu]) _).trans ho) (by rw [hu]; exact halone)
    hbinding f

/-- R136: a LEVEL order at an activation. -/
theorem holdTaken_level_gain (hbinding : o.binding = .level h) (hedge : (bindingGained o.number u).unbound (.edge h))
    (hhand : (bindingGained o.number u).unbound (.twoHand (handOf h))) :
    holdTaken h true u = (bindingGained o.number u).setHand (handOf h) (u.handMoved h true) := by
  rw [holdTaken_true, report_to_bound ho hnodup halone hu (by simp) hbinding, reportBinding_of_unbound hedge,
    moveHand_of_unbound hhand]

/-- R136: an EDGE order at an activation. -/
theorem holdTaken_edge_gain (hbinding : o.binding = .edge h) (hhand : (edgeTaken o.number u).unbound (.twoHand (handOf h))) :
    holdTaken h true u = (edgeTaken o.number u).setHand (handOf h) (u.handMoved h true) := by
  have hlevel := unbound_of_alone (b := .level h) ho hnodup halone hu (by simp) (by simp [hbinding])
  rw [holdTaken_true, reportBinding_of_unbound hlevel, report_to_bound ho hnodup halone hu (by simp) hbinding,
    moveHand_of_unbound hhand]

/-- R137: a TWO_HAND order at an activation that brings its set to HELD. -/
theorem holdTaken_twoHand_gain (hbinding : o.binding = .twoHand (handOf h)) (hhalf : (u.hand (handOf h)).state = .half) :
    holdTaken h true u = bindingGained o.number (u.setHand (handOf h) (u.handMoved h true)) := by
  have hlevel := unbound_of_alone (b := .level h) ho hnodup halone hu (by simp) (by simp [hbinding])
  have hedge := unbound_of_alone (b := .edge h) ho hnodup halone hu (by simp) (by simp [hbinding])
  have hnew : (u.handMoved h true).state = .held := by simp [State.handMoved, TwoHand.activated, hhalf]
  rw [holdTaken_true, reportBinding_of_unbound hlevel, reportBinding_of_unbound hedge]
  unfold moveHand
  dsimp only
  rw [if_pos ⟨by simp [hhalf], hnew⟩]
  exact report_to_bound ho hnodup halone (by exact hu) (by simp) hbinding bindingGained

/-- R136: a LEVEL order at a release. -/
theorem holdTaken_level_loss (hbinding : o.binding = .level h) (hhand : (bindingLost o.number u).unbound (.twoHand (handOf h))) :
    holdTaken h false u = (bindingLost o.number u).setHand (handOf h) (u.handMoved h false) := by
  rw [holdTaken_false, report_to_bound ho hnodup halone hu (by simp) hbinding, moveHand_of_unbound hhand]

/-- R137: a TWO_HAND order at a release of its set in HELD. -/
theorem holdTaken_twoHand_loss (hbinding : o.binding = .twoHand (handOf h)) (hheld : (u.hand (handOf h)).state = .held) :
    holdTaken h false u = bindingLost o.number (u.setHand (handOf h) (u.handMoved h false)) := by
  have hlevel := unbound_of_alone (b := .level h) ho hnodup halone hu (by simp) (by simp [hbinding])
  have hnew : (u.handMoved h false).state ≠ .held := by simp [State.handMoved, TwoHand.deactivated, hheld]
  rw [holdTaken_false, reportBinding_of_unbound hlevel]
  unfold moveHand
  dsimp only
  rw [if_neg (fun h' => h'.1 hheld), if_pos ⟨hheld, hnew⟩]
  exact report_to_bound ho hnodup halone (by exact hu) (by simp) hbinding bindingLost

/-- R137: a move of the set that neither enters nor leaves HELD, or one to which the order is not bound. -/
theorem holdTaken_unmoved (level : Bool) (hlevel : o.binding ≠ .level h) (hedge : o.binding ≠ .edge h)
    (hhand : o.binding = .twoHand (handOf h) → (u.hand (handOf h)).state ≠ if level then .half else .held) :
    holdTaken h level u = u.setHand (handOf h) (u.handMoved h level) := by
  have hunlevel := unbound_of_alone (b := .level h) ho hnodup halone hu (by simp) hlevel
  have hunedge := unbound_of_alone (b := .edge h) ho hnodup halone hu (by simp) hedge
  by_cases hbinding : o.binding = .twoHand (handOf h)
  · have hstate := hhand hbinding
    cases level with
    | true =>
      rw [holdTaken_true, reportBinding_of_unbound hunlevel, reportBinding_of_unbound hunedge]
      have hkept : ((u.handMoved h true).state = .held ↔ (u.hand (handOf h)).state = .held) := by
        simp only [State.handMoved, TwoHand.activated, if_true]
        cases hwas : (u.hand (handOf h)).state <;> simp_all
      unfold moveHand
      dsimp only
      rw [if_neg fun h' => h'.1 (hkept.1 h'.2), if_neg fun h' => h'.2 (hkept.2 h'.1)]
    | false =>
      rw [holdTaken_false, reportBinding_of_unbound hunlevel]
      have hnew : (u.handMoved h false).state ≠ .held := by
        simp only [State.handMoved, TwoHand.deactivated, Bool.false_eq_true, if_false]
        cases hwas : (u.hand (handOf h)).state with
        | released => simp [hwas]
        | half => simp
        | held => simp
        | lockout =>
          dsimp only
          split
          · simp [hwas]
          · simp
      have hwas : (u.hand (handOf h)).state ≠ .held := by simpa using hstate
      unfold moveHand
      dsimp only
      rw [if_neg fun h' => hnew h'.2, if_neg fun h' => hwas h'.1]
  · exact holdTaken_of_unbound hunlevel hunedge (unbound_of_alone ho hnodup halone hu (by simp) hbinding) level

end Bound

/-- A change of records that leaves their bindings as they were. -/
theorem unbound_of_map {u v : State} {f : Order → Order} {b : Binding} (hu : u.unbound b)
    (hv : v.seq.orders = u.seq.orders.map f) (hf : ∀ x, (f x).binding = x.binding) : v.unbound b := by
  intro x hx
  rw [hv] at hx
  obtain ⟨y, hy, rfl⟩ := List.mem_map.1 hx
  rw [hf]
  exact hu y hy

/-! ### What an activation and a release do to the bound order -/

/-- No claim of the order is lodged. -/
def State.unlodged (s : State) (o : Order) : Prop :=
  claimed o.number s.flow.waiting = false ∧ claimed o.number s.flow.granted = false

section Taken

variable {h : Fin 4} {s : State} {o : Order} (ho : s.order? o.number = some o) (hnodup : (s.seq.orders.map (·.number)).Nodup)
  (halone : ∀ x ∈ s.seq.orders, x.number ≠ o.number → x.binding = .none)

include ho hnodup halone

/-- R18: an order in HOLD_WAIT goes on from gate 4. -/
theorem gained_holdWait {p : Phase} (hrun : s.supply.mode = .run) (hraw : (s.line (.h h)).raw = true)
    (hbinding : o.binding = .level h ∨ o.binding = .twoHand (handOf h) ∧ (s.hand (handOf h)).state = .half)
    (hstate : o.state = .holdWait) (hp : o.phase? = some p) (hcheck : p.kind ≠ .check) :
    ∃ v, holdTaken h (s.line (.h h)).raw (s.held h) = v ∧ v.operator = (s.handed h).operator ∧
      v.begins o fun y => s.unlodged o → (s.handed h).passesGates v p y := by
  obtain hlevel | ⟨htwo, hhalf⟩ := hbinding
  · have hgained := (bindingGained_cases (s := s.held h) ho).1 p hstate hp
    have hb := gateFlow_begins (s := s.held h) hrun ho hp hcheck
    have hunbound {b : Binding} (hnone : b ≠ .none) (hother : o.binding ≠ b) :
        (bindingGained o.number (s.held h)).unbound b := by
      rw [hgained]
      exact gateFlow_unbound hb hnodup halone hnone hother
    refine ⟨(gateFlow o p (s.held h)).setHand (handOf h) ((s.held h).handMoved h (s.line (.h h)).raw), ?_, ?_, ?_⟩
    · rw [hraw, ← hgained]
      exact holdTaken_level_gain (u := s.held h) ho hnodup halone rfl hlevel (hunbound (by simp) (by simp [hlevel]))
        (hunbound (by simp) (by simp [hlevel]))
    · simp [State.handed, State.setHand]
    · obtain ⟨y, hy, hbegins, hpasses⟩ := hb
      exact ⟨y, hy, hbegins, fun hfree => hpasses hfree.1 hfree.2⟩
  · have hgained := (bindingGained_cases (s := s.handed h) ho).1 p hstate hp
    obtain ⟨y, hy, hbegins, hpasses⟩ := gateFlow_begins (s := s.handed h) hrun ho hp hcheck
    refine ⟨gateFlow o p (s.handed h), ?_, by simp, y, hy, hbegins, fun hfree => hpasses hfree.1 hfree.2⟩
    rw [← hgained, State.handed, hraw]
    exact holdTaken_twoHand_gain (u := s.held h) ho hnodup halone rfl htwo hhalf

/-- R25: an order in PAUSED goes on from gate 2. -/
theorem gained_paused {p : Phase} (hrun : s.supply.mode = .run) (hraw : (s.line (.h h)).raw = true)
    (hbinding : o.binding = .level h ∨ o.binding = .twoHand (handOf h) ∧ (s.hand (handOf h)).state = .half)
    (hstate : o.state = .paused) (hp : o.phase? = some p) (hcheck : p.kind ≠ .check) :
    ∃ v, holdTaken h (s.line (.h h)).raw (s.held h) = v ∧ v.operator = (s.handed h).operator ∧
      v.begins o fun y => s.unlodged o → (s.handed h).gateTwo v p y := by
  obtain hlevel | ⟨htwo, hhalf⟩ := hbinding
  · have hgained := (bindingGained_cases (s := s.held h) ho).2.1 p hstate hp
    have hb := gateInterlock_begins (s := s.held h) hrun ho hp hcheck
    have hunbound {b : Binding} (hnone : b ≠ .none) (hother : o.binding ≠ b) :
        (bindingGained o.number (s.held h)).unbound b := by
      rw [hgained]
      exact gateInterlock_unbound hb hnodup halone hnone hother
    refine ⟨(gateInterlock o p (s.held h)).setHand (handOf h) ((s.held h).handMoved h (s.line (.h h)).raw), ?_, ?_, ?_⟩
    · rw [hraw, ← hgained]
      exact holdTaken_level_gain (u := s.held h) ho hnodup halone rfl hlevel (hunbound (by simp) (by simp [hlevel]))
        (hunbound (by simp) (by simp [hlevel]))
    · simp [State.handed, State.setHand]
    · obtain ⟨y, hy, hbegins, hgates⟩ := hb
      refine ⟨y, hy, hbegins, fun hfree => ?_⟩
      rw [State.handed, gateTwo_setHand _ (by rw [hbegins.binding, hlevel]; simp)]
      exact hgates hfree.1 hfree.2
  · have hgained := (bindingGained_cases (s := s.handed h) ho).2.1 p hstate hp
    obtain ⟨y, hy, hbegins, hgates⟩ := gateInterlock_begins (s := s.handed h) hrun ho hp hcheck
    refine ⟨gateInterlock o p (s.handed h), ?_, by simp, y, hy, hbegins, fun hfree => hgates hfree.1 hfree.2⟩
    rw [← hgained, State.handed, hraw]
    exact holdTaken_twoHand_gain (u := s.held h) ho hnodup halone rfl htwo hhalf

/-- R18: an edge lets an EDGE order in HOLD_WAIT go on. -/
theorem gained_edge {p : Phase} (hrun : s.supply.mode = .run) (hraw : (s.line (.h h)).raw = true)
    (hbinding : o.binding = .edge h) (hstate : o.state = .holdWait) (hp : o.phase? = some p) (hcheck : p.kind ≠ .check) :
    ∃ v, holdTaken h (s.line (.h h)).raw (s.held h) = v ∧ v.operator = (s.handed h).operator ∧
      v.begins o.edged fun y => s.unlodged o → (s.handed h).passesGates v p y := by
  have htaken := (edgeTaken_cases (s := s.held h) ho).1 p hstate hp
  have hedged : ((s.held h).modOrder o.number Order.edged).order? o.edged.number = some o.edged := by
    have hbefore : (s.held h).order? o.number = some o := ho
    rw [State.modOrder_order _ _ _ (by exact fun _ => rfl)]
    simp [hbefore, Order.edged]
  have hb := gateFlow_begins (s := (s.held h).modOrder o.number Order.edged) (o := o.edged) hrun hedged hp hcheck
  have hnumbers : ((s.held h).modOrder o.number Order.edged).seq.orders.map (·.number) = s.seq.orders.map (·.number) := by
    simp only [State.modOrder, List.map_map]
    refine List.map_congr_left fun x _ => ?_
    simp only [Function.comp]
    split <;> rfl
  have hothers : ∀ x ∈ ((s.held h).modOrder o.number Order.edged).seq.orders, x.number ≠ o.edged.number → x.binding = .none := by
    intro x hx hne
    obtain ⟨y, hy, rfl⟩ := List.mem_map.1 hx
    split
    · rename_i hyn
      exact absurd hyn (by rw [if_pos hyn] at hne; exact hne)
    · rename_i hyn
      exact halone y hy hyn
  have hunbound : (edgeTaken o.number (s.held h)).unbound (.twoHand (handOf h)) := by
    rw [htaken]
    exact gateFlow_unbound hb (by rw [State.numbers, hnumbers]; exact hnodup) hothers (by simp) (by simp [Order.edged, hbinding])
  refine ⟨(gateFlow o.edged p ((s.held h).modOrder o.number Order.edged)).setHand (handOf h)
    ((s.held h).handMoved h (s.line (.h h)).raw), ?_, ?_, ?_⟩
  · rw [hraw, ← htaken]
    exact holdTaken_edge_gain (u := s.held h) ho hnodup halone rfl hbinding hunbound
  · simp [State.handed, State.setHand]
  · obtain ⟨y, hy, hbegins, hpasses⟩ := hb
    exact ⟨y, hy, hbegins, fun hfree => hpasses hfree.1 hfree.2⟩

/-- R18, R25: an order in any other state is left as it is. -/
theorem gained_other (hraw : (s.line (.h h)).raw = true)
    (hbinding : o.binding = .level h ∨ o.binding = .twoHand (handOf h) ∧ (s.hand (handOf h)).state = .half)
    (hwait : o.state ≠ .holdWait) (hpaused : o.state ≠ .paused) :
    holdTaken h (s.line (.h h)).raw (s.held h) = s.handed h := by
  obtain hlevel | ⟨htwo, hhalf⟩ := hbinding
  · have hgained := (bindingGained_cases (s := s.held h) ho).2.2 hwait hpaused
    have hunbound {b : Binding} (hnone : b ≠ .none) (hother : o.binding ≠ b) :
        (bindingGained o.number (s.held h)).unbound b := by
      rw [hgained]
      exact unbound_of_alone ho hnodup halone rfl hnone hother
    rw [State.handed, hraw, holdTaken_level_gain (u := s.held h) ho hnodup halone rfl hlevel (hunbound (by simp) (by simp [hlevel]))
      (hunbound (by simp) (by simp [hlevel])), hgained]
  · have hgained := (bindingGained_cases (s := s.handed h) ho).2.2 hwait hpaused
    rw [← hgained, State.handed, hraw]
    exact holdTaken_twoHand_gain (u := s.held h) ho hnodup halone rfl htwo hhalf

theorem edge_other (hraw : (s.line (.h h)).raw = true) (hbinding : o.binding = .edge h) (hwait : o.state ≠ .holdWait) :
    holdTaken h (s.line (.h h)).raw (s.held h) = s.handed h := by
  have htaken := (edgeTaken_cases (s := s.held h) ho).2 hwait
  rw [State.handed, hraw, holdTaken_edge_gain (u := s.held h) ho hnodup halone rfl hbinding (by
    rw [htaken]
    exact unbound_of_alone ho hnodup halone rfl (by simp) (by simp [hbinding])), htaken]

/-- R136: a release is nothing to an EDGE order. -/
theorem edge_release (hraw : (s.line (.h h)).raw = false) (hbinding : o.binding = .edge h) :
    holdTaken h (s.line (.h h)).raw (s.held h) = s.handed h := by
  have hlevel := unbound_of_alone (u := s.held h) (b := .level h) ho hnodup halone rfl (by simp) (by simp [hbinding])
  have hhand := unbound_of_alone (u := s.held h) (b := .twoHand (handOf h)) ho hnodup halone rfl (by simp) (by simp [hbinding])
  rw [State.handed, hraw, holdTaken_false, reportBinding_of_unbound hlevel, moveHand_of_unbound hhand]

/-- R20, R24: what a loss of its binding does to the order. -/
theorem lost_effect (hraw : (s.line (.h h)).raw = false)
    (hbinding : o.binding = .level h ∨ o.binding = .twoHand (handOf h) ∧ (s.hand (handOf h)).state = .held)
    (hkept : ∀ u : State, u.seq = s.seq → u.flow = s.flow →
      ∃ f : Order → Order, (∀ x, (f x).binding = x.binding) ∧ (bindingLost o.number u).seq.orders = u.seq.orders.map f) :
    ∃ u : State, u.seq = s.seq ∧ u.flow = s.flow ∧ u.runs = s.runs ∧ u.faults = s.faults ∧ u.drive = s.drive ∧
      u.fitment = s.fitment ∧
      ∃ v, holdTaken h (s.line (.h h)).raw (s.held h) = v ∧ v.operator = (s.handed h).operator ∧
        v.seq = (bindingLost o.number u).seq ∧ v.flow = (bindingLost o.number u).flow ∧
        v.runs = (bindingLost o.number u).runs ∧ v.faults = (bindingLost o.number u).faults ∧
        v.drive = (bindingLost o.number u).drive := by
  have hoperator (u : State) : (bindingLost o.number u).operator = u.operator := by simp
  obtain hlevel | ⟨htwo, hheld⟩ := hbinding
  · refine ⟨s.held h, rfl, rfl, rfl, rfl, rfl, rfl, _, rfl, ?_⟩
    obtain ⟨f, hf, horders⟩ := hkept (s.held h) rfl rfl
    have hunbound := unbound_of_map (unbound_of_alone (u := s.held h) (b := .twoHand (handOf h)) ho hnodup halone rfl (by simp)
      (by simp [hlevel])) horders hf
    rw [State.handed, hraw, holdTaken_level_loss (u := s.held h) ho hnodup halone rfl hlevel hunbound]
    exact ⟨by simp [State.setHand], rfl, rfl, rfl, rfl, rfl⟩
  · refine ⟨s.handed h, rfl, rfl, rfl, rfl, rfl, rfl, _, rfl, ?_⟩
    have heq : holdTaken h (s.line (.h h)).raw (s.held h) = bindingLost o.number (s.handed h) := by
      rw [State.handed, hraw]
      exact holdTaken_twoHand_loss (u := s.held h) ho hnodup halone rfl htwo hheld
    rw [heq]
    exact ⟨hoperator _, rfl, rfl, rfl, rfl, rfl⟩

theorem lost_other (hraw : (s.line (.h h)).raw = false)
    (hbinding : o.binding = .level h ∨ o.binding = .twoHand (handOf h) ∧ (s.hand (handOf h)).state = .held)
    (hclaiming : o.state ≠ .claiming) (hmoving : ¬ (o.state = .moving ∧ o.inMovement = true)) :
    holdTaken h (s.line (.h h)).raw (s.held h) = s.handed h := by
  obtain hlevel | ⟨htwo, hheld⟩ := hbinding
  · have hlost := (bindingLost_cases (s := s.held h) ho).2.2 hclaiming hmoving
    rw [State.handed, hraw, holdTaken_level_loss (u := s.held h) ho hnodup halone rfl hlevel (by
      rw [hlost]
      exact unbound_of_alone ho hnodup halone rfl (by simp) (by simp [hlevel])), hlost]
  · have hlost := (bindingLost_cases (s := s.handed h) ho).2.2 hclaiming hmoving
    rw [← hlost, State.handed, hraw]
    exact holdTaken_twoHand_loss (u := s.held h) ho hnodup halone rfl htwo hheld

end Taken

theorem enterHoldWait_lost {o : Order} {u : State} (hown : ∀ q ∈ u.flow.waiting, q.order = o.number) :
    (enterHoldWait o (withdraw o.number u)).seq.orders =
        u.seq.orders.map (fun x => if x.number = o.number then { x with state := .holdWait } else x) ∧
      ((enterHoldWait o (withdraw o.number u)).ctl o.group).hold = some (u.timing (·.hold)) ∧
      (enterHoldWait o (withdraw o.number u)).flow.waiting = [] ∧
      (enterHoldWait o (withdraw o.number u)).flow.granted = u.flow.granted.filter (fun q => q.order != o.number) ∧
      (enterHoldWait o (withdraw o.number u)).faults = u.faults ∧ (enterHoldWait o (withdraw o.number u)).drive = u.drive := by
  obtain ⟨hwaiting, hgranted, hseq, -, -⟩ := withdraw_of_own hown
  have hfit : (withdraw o.number u).fitment = u.fitment := by simp
  refine ⟨?_, ?_, by simp [hwaiting], by simp [hgranted], by simp, by simp⟩
  · rw [enterHoldWait, setOrder_orders, State.modCtl_seq_orders, hseq]
  · rw [enterHoldWait_ctl, State.timing, hfit]
    rfl

/-- Settles O51, by the level taken, the binding and the order's state. -/
theorem holdInputsMoveTheTwoHandSet : Obligations.HoldInputsMoveTheTwoHandSet := by
  intro h s hrun htimer hdiffers active other hand' moved unmoved
  have hlevel : (s.held h).level (.h (partner h)) = other := by
    rw [State.level, State.held, State.lineTaken, State.modLine_line_ne _ (partner_ne h)]
    rfl
  have hhand : hand' = (s.held h).handMoved h active := by
    rw [State.handMoved, hlevel]
    exact handMoved_eq (s.hand (handOf h)) s.twoHandTime active other
  have hmoved : moved = s.handed h := congrArg (fun m => (s.held h).setHand (handOf h) m) hhand
  have hunmoved (heq : holdTaken h (s.line (.h h)).raw (s.held h) = s.handed h) : unmoved := by
    obtain ⟨t, he, hq⟩ := holdExpiry_effect hrun htimer hdiffers heq
    exact ⟨t, he, hmoved ▸ hq⟩
  refine ⟨fun hnone => ?_, fun o ho hnodup halone => ?_⟩
  · have hunbound {b : Binding} (hb : b ≠ .none) : (s.held h).unbound b := fun x hx => hnone x hx ▸ Ne.symm hb
    exact hunmoved (holdTaken_of_unbound (hunbound (by simp)) (hunbound (by simp)) (hunbound (by simp)) _)
  · intro goesOn
    have hgoes {o' : Order} {edge : Bool} {how : State → Phase → Order → Prop} (hn : o'.number = o.number)
        (hsame : o'.group = o.group ∧ o'.kind = o.kind ∧ o'.binding = o.binding ∧ o'.index = o.index ∧ o'.phases = o.phases ∧
          o'.startedEdge = (o.startedEdge || edge))
        (hserves : ∀ t v p y, t.ServesAs v y.group → (how t p y ↔ how v p y))
        (hmark : ∀ v p y, how v p y.unmarked ↔ how v p y)
        (hv : ∀ p, o.phase? = some p → p.kind ≠ .check →
          ∃ v, holdTaken h (s.line (.h h)).raw (s.held h) = v ∧ v.operator = (s.handed h).operator ∧
            v.begins o' fun y => s.unlodged o → how v p y) : goesOn edge how := by
      intro p hp hcheck hwaiting hgranted
      obtain ⟨v, heq, hoperator, hb⟩ := hv p hp hcheck
      obtain ⟨t, y, he, hy, h1, h2, h3, h4, h5, h6, hhow, hop⟩ := holdExpiry_goesOn (how := fun t y => how t p y) hrun htimer
        hdiffers heq hoperator hn hb (fun t y => hserves t v p y) (hmark v p) ⟨hwaiting, hgranted⟩
      obtain ⟨g1, g2, g3, g4, g5, g6⟩ := hsame
      exact ⟨t, y, he, hy, h1.trans g1, h2.trans g2, h3.trans g3, h4.trans g4, h5.trans g5, h6.trans g6, hhow, hmoved ▸ hop⟩
    have hserves2 : ∀ (t v : State) (p : Phase) (y : Order), t.ServesAs v y.group → (moved.gateTwo t p y ↔ moved.gateTwo v p y) :=
      fun _ _ p _ hs => hs.gateTwo moved p
    have hserves4 : ∀ (t v : State) (p : Phase) (y : Order), t.ServesAs v y.group →
        (moved.passesGates t p y ↔ moved.passesGates v p y) := fun _ _ p _ hs => hs.passesGates moved p
    refine ⟨fun hraw hbinding => ⟨fun hstate => ?_, fun hstate => ?_, fun hwait hpaused => ?_⟩,
      fun hraw hbinding => ⟨fun hstate => ?_, fun hwait => ?_⟩, fun hraw hbinding => ?_, fun hnl hne hth => ?_,
      fun hraw hbinding => ⟨fun hstate hown => ?_, fun hstate hmovement => ?_, fun hclaiming hmoving => ?_⟩⟩
    · exact hgoes rfl (by simp) hserves4 (fun _ _ _ => Iff.rfl) fun p hp hcheck => by
        rw [hmoved]
        exact gained_holdWait ho hnodup halone hrun hraw hbinding hstate hp hcheck
    · exact hgoes rfl (by simp) hserves2 (fun _ _ _ => Iff.rfl) fun p hp hcheck => by
        rw [hmoved]
        exact gained_paused ho hnodup halone hrun hraw hbinding hstate hp hcheck
    · exact hunmoved (gained_other ho hnodup halone hraw hbinding hwait hpaused)
    · exact hgoes (o' := o.edged) rfl (by simp [Order.edged]) hserves4 (fun _ _ _ => Iff.rfl) fun p hp hcheck => by
        rw [hmoved]
        exact gained_edge ho hnodup halone hrun hraw hbinding hstate hp hcheck
    · exact hunmoved (edge_other ho hnodup halone hraw hbinding hwait)
    · exact hunmoved (edge_release ho hnodup halone hraw hbinding)
    · exact hunmoved (holdTaken_unmoved (u := s.held h) ho hnodup halone rfl _ hnl hne hth)
    · obtain ⟨u, hseq, hflow, hruns, hfaults, hdrive, hfit, v, heq, hoperator, v1, v2, v3, v4, v5⟩ :=
        lost_effect ho hnodup halone hraw hbinding fun u hu hw =>
          ⟨fun x => if x.number = o.number then { x with state := .holdWait } else x, fun x => by dsimp only; split <;> rfl, by
            rw [(bindingLost_cases (s := u) ((State.order_congr (by rw [hu]) _).trans ho)).1 hstate]
            exact (enterHoldWait_lost (by rw [hw]; exact hown)).1⟩
      obtain ⟨t, he, hq⟩ := holdExpiry_effect hrun htimer hdiffers heq
      have ht := State.matches_of_quiet hq
      rw [(bindingLost_cases (s := u) ((State.order_congr (by rw [hseq]) _).trans ho)).1 hstate] at v1 v2 v3 v4 v5
      obtain ⟨horders, hhold, hwaiting, hgranted, hfaults', hdrive'⟩ := enterHoldWait_lost (u := u) (by rw [hflow]; exact hown)
      refine ⟨t, he, ?_, ?_, ?_, ?_, ?_, ?_, ?_⟩
      · rw [ht.records, State.records, v1, horders, hseq]
      · rw [ht.ctl, State.ctl, v1, ← State.ctl, hhold, State.timing, hfit]
        rfl
      · rw [ht.flow, v2, hwaiting]
      · rw [ht.flow, v2, hgranted, hflow]
      · rw [ht.operator, hoperator, hmoved]
      · rw [ht.faults, v4, hfaults', hfaults]
      · rw [ht.drive, v5, hdrive', hdrive]
    · have hstops (u : State) (hu : u.seq = s.seq) :
          bindingLost o.number u = toStopping o.number .pause none none u :=
        (bindingLost_cases (s := u) ((State.order_congr (by rw [hu]) _).trans ho)).2.1 hstate hmovement
      obtain ⟨u, hseq, hflow, hruns, hfaults, hdrive, -, v, heq, hoperator, v1, v2, v3, v4, v5⟩ :=
        lost_effect ho hnodup halone hraw hbinding fun u hu _ =>
          ⟨fun x => if x.number = o.number then
              { x with state := .stopping, outcome := some .pause, pendResult := none, pendReason := none } else x,
            fun x => by dsimp only; split <;> rfl, by rw [hstops u hu]; exact setOrder_orders ..⟩
      obtain ⟨t, he, hq⟩ := holdExpiry_effect hrun htimer hdiffers heq
      have ht := State.matches_of_quiet hq
      rw [hstops u hseq] at v1 v2 v3 v4 v5
      refine ⟨t, he, ?_, ?_, ?_, ?_, ?_, ?_⟩
      · have hrecords := toStopping_records u o .pause none none
        rw [State.stopsAs, hseq] at hrecords
        exact (ht.records.trans (records_congr (by rw [v1]))).trans hrecords
      · rw [ht.operator, hoperator, hmoved]
      · rw [ht.runs, v3, ← hruns]; simp [toStopping]
      · rw [ht.flow, v2, ← hflow]; simp [toStopping]
      · rw [ht.faults, v4, ← hfaults]; simp [toStopping]
      · rw [ht.drive, v5, ← hdrive]; simp [toStopping]
    · exact hunmoved (lost_other ho hnodup halone hraw hbinding hclaiming hmoving)

end Sys2Proof.Machine
end


section
/-! PROOFS. Debounced lines and what their consumers make of a level taken (O50). -/

namespace Sys2Proof.Machine

/-! ### Lines that take a level -/

theorem State.lineTaken_line (s : State) (l : Line) (level : Bool) :
    (s.lineTaken l level).line l = { raw := (s.line l).raw, level := level, timer := none } := State.modLine_line_self ..

theorem State.lineTaken_line_ne (s : State) {l m : Line} (hne : m ≠ l) (level : Bool) :
    (s.lineTaken l level).line m = s.line m := State.modLine_line_ne _ (Ne.symm hne) _

section Taken

variable {s : State} {level : Bool}

theorem inputExpiry_general {i : Fin 8} (htimer : (s.line (.g i)).timer ≠ none) (hdiffers : (s.line (.g i)).raw ≠ (s.line (.g i)).level) :
    inputExpiry (.g i) s = refreshStops (s.lineTaken (.g i) (s.line (.g i)).raw) := by
  have hraw : ((s.modLine (.g i) fun x => { x with timer := none }).line (.g i)).raw = (s.line (.g i)).raw := by
    rw [State.modLine_line_self]
  rw [inputExpiry_of_due htimer hdiffers, ← takeLine_level, ← hraw]
  rfl

variable {l : Line} (htimer : (s.line l).timer ≠ none) (hraw : (s.line l).raw = level) (hlevel : (s.line l).level = !level)

include htimer hraw hlevel

/-- R134: a level due is handed on as the raw level of a line that has taken it. -/
theorem inputExpiry_due :
    inputExpiry l s = takeLine l (s.modLine l fun x => { x with timer := none }) ∧
      ((s.modLine l fun x => { x with timer := none }).line l).raw = level ∧
      (s.modLine l fun x => { x with timer := none }).modLine l (fun x => { x with level := level }) = s.lineTaken l level := by
  have hdiffers : (s.line l).raw ≠ (s.line l).level := by rw [hraw, hlevel]; cases level <;> simp
  refine ⟨inputExpiry_of_due htimer hdiffers, ?_, ?_⟩
  · rw [State.modLine_line_self]
    exact hraw
  · rw [← hraw]
    exact takeLine_level l s

end Taken

section Consumers

variable {s : State} {level : Bool}

theorem inputExpiry_latchSense {d : Side} (htimer : (s.line (.latchSense d)).timer ≠ none) (hraw : (s.line (.latchSense d)).raw = level)
    (hlevel : (s.line (.latchSense d)).level = !level) :
    inputExpiry (.latchSense d) s =
      if level then latchSensed d (s.lineTaken (.latchSense d) level) else s.lineTaken (.latchSense d) level := by
  obtain ⟨h, hraw', htaken⟩ := inputExpiry_due htimer hraw hlevel
  rw [h, ← htaken, ← hraw']
  rfl

theorem inputExpiry_psw (htimer : (s.line .psw).timer ≠ none) (hraw : (s.line .psw).raw = level)
    (hlevel : (s.line .psw).level = !level) :
    inputExpiry .psw s =
      if level then pressureActive (s.lineTaken .psw level) else latch .pressureRelief .none (s.lineTaken .psw level) := by
  obtain ⟨h, hraw', htaken⟩ := inputExpiry_due htimer hraw hlevel
  rw [h, ← htaken, ← hraw']
  rfl

theorem inputExpiry_prs (htimer : (s.line .prs).timer ≠ none) (hraw : (s.line .prs).raw = level)
    (hlevel : (s.line .prs).level = !level) :
    inputExpiry .prs s = runningSenseTaken level (s.lineTaken .prs level) := by
  obtain ⟨h, hraw', htaken⟩ := inputExpiry_due htimer hraw hlevel
  rw [h, ← htaken, ← hraw']
  rfl

end Consumers

/-! ### Stop states worked out afresh -/

/-- The state with other stop states. -/
def State.withObstructed (s : State) (v : Vector Bool 3) : State := { s with operator := { s.operator with obstructed := v } }

/-- R28: an immediate end would find no phase to end in the group. -/
def State.unmoved (s : State) (g : Group) : Prop := ∀ o, s.active? g = some o → o.state ≠ .moving ∧ o.state ≠ .stopping

theorem immediateEnd_of_unmoved {g : Group} {s : State} (h : s.unmoved g) (why : Reason) : immediateEnd g why s = s := by
  unfold immediateEnd
  split
  · rfl
  next o ho =>
    obtain ⟨hmoving, hstopping⟩ := h o ho
    rw [if_neg (by simp [hmoving, hstopping])]

/-- R139: the stop state of a group whose phase it cannot end. -/
theorem refreshStop_of_unmoved {g : Group} {s : State} (h : s.unmoved g) :
    refreshStop g s = s.withObstructed (s.operator.obstructed.set g.idx (s.stopStateNow g)) := by
  unfold refreshStop
  dsimp only
  split
  · exact immediateEnd_of_unmoved (by exact h) _
  · rfl

/-- R139: those of several such groups leave the stop states of the others. -/
theorem refreshStop_fold_of_unmoved (g : Group) (gs : List Group) : ∀ s : State, (∀ h ∈ gs, h ≠ g ∧ s.unmoved h) →
    ∃ v, gs.foldl (fun s h => refreshStop h s) s = s.withObstructed v ∧ v[g.idx] = s.isObstructed g := by
  induction gs with
  | nil => exact fun s _ => ⟨s.operator.obstructed, rfl, rfl⟩
  | cons h gs ih =>
    intro s hall
    obtain ⟨hne, hunmoved⟩ := hall h List.mem_cons_self
    rw [List.foldl_cons, refreshStop_of_unmoved hunmoved]
    obtain ⟨v, hv, hkept⟩ := ih (s.withObstructed (s.operator.obstructed.set h.idx (s.stopStateNow h)))
      fun k hk => hall k (List.mem_cons_of_mem _ hk)
    refine ⟨v, hv, hkept.trans ?_⟩
    have hidx : h.idx.val ≠ g.idx.val := by
      cases h <;> cases g <;> simp_all [Group.idx]
    simp [State.isObstructed, State.withObstructed, hidx]

/-- R139: a group that becomes obstructed has its phase ended. -/
theorem refreshStop_of_obstructs {g : Group} {s : State} (hnow : s.stopStateNow g = true) (hwas : s.isObstructed g = false) :
    refreshStop g s = immediateEnd g .obstructed (s.withObstructed (s.operator.obstructed.set g.idx true)) := by
  unfold refreshStop
  dsimp only
  rw [hnow, hwas]
  exact if_pos (by simp)

theorem State.unmoved_of_active_none {s : State} {g : Group} (h : s.active? g = none) : s.unmoved g :=
  fun o ho => by rw [h] at ho; cases ho

/-- R28: after an immediate end no other group has a phase to end that had no active order. -/
theorem immediateEnd_unmoved {s : State} {g h : Group} {o : Order} (hactive : s.active? g = some o)
    (hstate : o.state = .moving ∨ o.state = .stopping) (why : Reason) (hwait : s.flow.waiting = []) (hnone : s.active? h = none) :
    (immediateEnd g why s).unmoved h := by
  intro x hx
  obtain ⟨hmem, hgroup, hlive⟩ := State.mem_of_active hx
  have hrecord : x.unmarked ∈ (immediateEnd g why s).records := List.mem_map_of_mem hmem
  rw [immediateEnd_records hactive hstate why hwait, List.map_map, List.mem_map] at hrecord
  obtain ⟨z, hz, hsame⟩ := hrecord
  simp only [Function.comp_apply] at hsame
  split at hsame
  · have hsettling : x.state = .settling := (congrArg Order.state hsame :).symm
    simp [hsettling]
  · have hzgroup : z.group = h := ((congrArg Order.group hsame :) : z.group = x.group).trans hgroup
    have hzstate : z.state = x.state := (congrArg Order.state hsame :)
    have hnot := List.find?_eq_none.1 hnone z hz
    exact absurd (by simp [hzgroup, hzstate, hlive]) hnot

/-- R139: a newly obstructed group with the one active order has its phase ended; the other stop states reach the Operator Input
Unit alone. -/
theorem refreshStops_of_obstructs {s : State} {g : Group} {o : Order} (hnow : s.stopStateNow g = true)
    (hwas : s.isObstructed g = false) (hactive : s.active? g = some o) (hstate : o.state = .moving ∨ o.state = .stopping)
    (hothers : ∀ h, h ≠ g → s.active? h = none) (hwait : s.flow.waiting = []) :
    ∃ v w, refreshStops s = (immediateEnd g .obstructed (s.withObstructed v)).withObstructed w ∧ w[g.idx] = true := by
  obtain ⟨before, after, hall, hbefore, hafter⟩ :
      ∃ before after : List Group, Group.all = before ++ g :: after ∧ (∀ h ∈ before, h ≠ g) ∧ ∀ h ∈ after, h ≠ g := by
    cases g with
    | lift => exact ⟨[], [.kerb, .road], rfl, by simp, by simp⟩
    | kerb => exact ⟨[.lift], [.road], rfl, by simp, by simp⟩
    | road => exact ⟨[.lift, .kerb], [], rfl, by simp, by simp⟩
  obtain ⟨v, hv, hkept⟩ := refreshStop_fold_of_unmoved g before s fun h hh =>
    ⟨hbefore h hh, State.unmoved_of_active_none (hothers h (hbefore h hh))⟩
  have hended := refreshStop_of_obstructs (g := g) (s := s.withObstructed v) hnow (hkept.trans hwas)
  obtain ⟨w, hw, hset⟩ := refreshStop_fold_of_unmoved g after
    (immediateEnd g .obstructed ((s.withObstructed v).withObstructed ((s.withObstructed v).operator.obstructed.set g.idx true)))
    fun h hh => ⟨hafter h hh, immediateEnd_unmoved (by exact hactive) hstate _ (by exact hwait) (by exact hothers h (hafter h hh))⟩
  refine ⟨v.set g.idx true, w, ?_, hset.trans ?_⟩
  · rw [refreshStops, hall, List.foldl_append, List.foldl_cons, hv, hended, hw]
    rfl
  · simp [State.isObstructed, State.withObstructed]

/-! ### General inputs -/

section General

variable {s : State} (hrun : s.supply.mode = .run)

include hrun

/-- R134, R139: with no active order. -/
theorem generalExpiry_of_noActive {i : Fin 8} (htimer : (s.line (.g i)).timer ≠ none)
    (hdiffers : (s.line (.g i)).raw ≠ (s.line (.g i)).level) (hnone : s.noActive) :
    ∃ t, exec (.inputDebounceExpiry (.g i)) s = .next t ∧
      t.line (.g i) = { raw := (s.line (.g i)).raw, level := (s.line (.g i)).raw, timer := none } ∧
      (∀ l, l ≠ .g i → t.line l = s.line l) ∧ (∀ g, t.isObstructed g = t.stopStateNow g) ∧
      t.operator.estop = s.operator.estop ∧ t.records = s.records ∧ t.faults = s.faults ∧ t.drive = s.drive := by
  obtain ⟨t, he, ht⟩ := runEvent_effect (inputExpiry (.g i)) hrun
  rw [inputExpiry_general htimer hdiffers, refreshStops_of_noActive (by exact hnone)] at ht
  refine ⟨t, he, ?_, fun l hl => ?_, fun g => ?_, by rw [ht.operator]; rfl, ht.records, ht.faults, ht.drive⟩
  · rw [ht.line]
    exact s.lineTaken_line _ _
  · rw [ht.line]
    exact s.lineTaken_line_ne hl _
  · have hstop : t.stopStateNow g = (s.lineTaken (.g i) (s.line (.g i)).raw).withStops.stopStateNow g := by
      simp only [State.stopStateNow, State.slotActive, ht.fitment, ht.level]
    rw [ht.isObstructed, hstop]
    exact State.stopsTaken_get _ g

/-- R28, R139: with the group newly obstructed. -/
theorem generalExpiry_of_obstructs {i : Fin 8} {level : Bool} {g : Group} {o : Order} {r : PolicyRec} {x y : StopSlot}
    (htimer : (s.line (.g i)).timer ≠ none) (hraw : (s.line (.g i)).raw = level) (hlevel : (s.line (.g i)).level = !level)
    (hpolicy : s.fitment.policy = some r) (hx : r.slots[2 * g.idx.val]? = some x) (hy : r.slots[2 * g.idx.val + 1]? = some y)
    (hslot : x.input = some i ∧ x.stopsOn = level ∨ y.input = some i ∧ y.stopsOn = level) (hwas : s.isObstructed g = false)
    (hactive : s.active? g = some o) (hstate : o.state = .moving ∨ o.state = .stopping)
    (hothers : ∀ h, h ≠ g → s.active? h = none) (hwait : s.flow.waiting = []) :
    ∃ t, exec (.inputDebounceExpiry (.g i)) s = .next t ∧ s.settlesFailed t o .obstructed ∧ t.isObstructed g = true ∧
      (∀ c, channelGroup c = g → t.chan c = Chan.reset) ∧ (∀ c, channelGroup c ≠ g → t.chan c = s.chan c) ∧
      t.run? g = none ∧ claimed o.number t.flow.granted = false ∧ t.faults.flags = s.faults.flags ∧
      t.trackers = s.trackers := by
  have hdiffers : (s.line (.g i)).raw ≠ (s.line (.g i)).level := by rw [hraw, hlevel]; cases level <;> simp
  have hactiveSlot (z : StopSlot) (hz : z.input = some i ∧ z.stopsOn = level) :
      (s.lineTaken (.g i) level).slotActive z = true := by
    have htaken : (s.lineTaken (.g i) level).level (.g i) = level := by rw [State.level, State.lineTaken_line]
    simp [State.slotActive, hz.1, hz.2, htaken]
  have hnow : (s.lineTaken (.g i) level).stopStateNow g = true := by
    rw [stopStateNow_eq (s := s.lineTaken (.g i) level) hpolicy hx hy, Bool.or_eq_true]
    exact hslot.imp (hactiveSlot x) (hactiveSlot y)
  obtain ⟨v, w, hstops, hset⟩ := refreshStops_of_obstructs (s := s.lineTaken (.g i) level) hnow hwas hactive hstate hothers hwait
  obtain ⟨t, he, ht⟩ := runEvent_effect (inputExpiry (.g i)) hrun
  rw [inputExpiry_general htimer hdiffers, hraw, hstops] at ht
  have hactive' : ((s.lineTaken (.g i) level).withObstructed v).active? g = some o := hactive
  have hchan (c : Channel) : t.chan c = if channelGroup c = g then Chan.reset else s.chan c := by
    rw [ht.chan]
    exact immediateEnd_chan hactive' hstate _ c
  refine ⟨t, he, ht.records.trans (immediateEnd_records hactive' hstate _ hwait), ?_, fun c hc => ?_, fun c hc => ?_, ?_, ?_, ?_, ?_⟩
  · rw [ht.isObstructed]
    exact hset
  · rw [hchan, if_pos hc]
  · rw [hchan, if_neg hc]
  · rw [ht.run]
    exact immediateEnd_run hactive' hstate _
  · obtain ⟨-, hgranted⟩ := immediateEnd_flow hactive' hstate .obstructed hwait
    rw [ht.flow]
    exact (congrArg (claimed o.number) hgranted).trans (claimed_filter ..)
  · rw [ht.faults]
    exact (immediateEnd_flags hactive' hstate .obstructed).1
  · rw [ht.trackers]
    simp [State.withObstructed, State.lineTaken]

end General

/-! ### Latch senses -/

section Sense

variable {s : State} {d : Side} {o : Order}

theorem latchSensed_of_unwatched (h : ∀ o, s.active? d.group = some o → o.state ≠ .moving ∨ o.phaseIs .check = false) :
    latchSensed d s = s := by
  unfold latchSensed
  split
  · rfl
  next o ho =>
    refine if_neg fun hboth => ?_
    obtain hne | hne := h o ho
    · exact hne hboth.1
    · rw [hboth.2] at hne
      cases hne

theorem latchSensed_of_watched (hactive : s.active? d.group = some o) (hstate : o.state = .moving)
    (hcheck : o.phaseIs .check = true) : latchSensed d s = endOrder o .completed none s := by
  unfold latchSensed
  rw [hactive]
  exact if_pos ⟨hstate, hcheck⟩

/-- R165: the removal of entries that set no PUMPED leaves it as it is. -/
theorem FaultTable.remove_pumped {t : FaultTable} {p : Entry → Bool} (hsound : t.sound)
    (hp : ∀ e, p e = true → e.inhibit.pumped = false) : (t.remove p).flags.pumped = t.flags.pumped := by
  obtain ⟨-, -, hflags⟩ := hsound
  have hany : (t.entries.filter fun e => !p e).any (·.inhibit.pumped) = t.entries.any (·.inhibit.pumped) := by
    rw [List.any_filter]
    congr 1
    funext e
    cases hpe : p e with
    | false => rfl
    | true => rw [hp e hpe]; rfl
  rw [hflags, flagsOf_pumped, ← hany]
  exact flagsOf_pumped ..

theorem recovers_close (hclose : o.kind = .closeShutter) (e : Entry) : recovers o e = e.is .latchFault (.group o.group) := by
  unfold recovers
  rw [hclose]

/-- R167: the completion of a CLOSE removes the LATCH_FAULT of its group, and PUMPED stays as it is. -/
theorem reportCompletion_of_close (hclose : o.kind = .closeShutter) (hsound : s.faults.sound) :
    reportCompletion o s = reportFaultScene (removeFaults (recovers o) s) := by
  have hlatch (e : Entry) (he : recovers o e = true) : e.inhibit.pumped = false := by
    rw [recovers_close hclose, Entry.is_iff] at he
    obtain ⟨hcode, hsubject⟩ := he
    have hgroup (g : Group) : (Inhibits.ofGroup g).pumped = false := by cases g <;> rfl
    simp [Entry.inhibit, hcode, hsubject, inhibitOf, Subject.group?, hgroup, FaultCode.isStop]
  have hpumped : (s.faults.flags.pumped && !(removeFaults (recovers o) s).faults.flags.pumped) = false := by
    rw [removeFaults_faults, FaultTable.remove_pumped hsound hlatch]
    cases s.faults.flags.pumped <;> rfl
  unfold reportCompletion reportCleared
  dsimp only
  rw [hpumped]
  rfl

theorem reportCompletion_close_entries (hclose : o.kind = .closeShutter) (hsound : s.faults.sound) :
    (reportCompletion o s).faults.entries =
      s.faults.entries.filter fun e => decide (¬ (e.code = .latchFault ∧ e.subject = .group o.group)) := by
  rw [reportCompletion_of_close hclose hsound]
  simp only [reportFaultScene_frame, removeFaults_faults]
  refine List.filter_congr fun e _ => ?_
  rw [recovers_close hclose]
  simp [Entry.is]

/-- R31, R32: the completion of a CLOSE behind which no record waits. -/
theorem endOrder_close {g : Group} (hnodup : (s.seq.orders.map (·.number)).Nodup) (hone : s.oneActiveEach)
    (hactive : s.active? g = some o) (hqueued : s.oldestQueued? g = none) (hrun : s.run? g = none)
    (hclose : o.kind = .closeShutter) (hsound : s.faults.sound) :
    ∃ v : State, v = s.afterEnd o .completed none ∧ v.faults = s.faults ∧
      endOrder o .completed none s = becomeIdle g (reportCompletion o v) ∧ (reportCompletion o v).seq = v.seq ∧
      (reportCompletion o v).flow = s.flow := by
  obtain ⟨hmem, hgroup, hstate⟩ := State.mem_of_active hactive
  have hfaults : (s.afterEnd o .completed none).faults = s.faults := by
    rw [(s.afterEnd_frame o .completed none).2.2.2.2.2.2.2.2, hgroup, endRun_of_none hrun]
  have hreport := reportCompletion_of_close (s := s.afterEnd o .completed none) hclose (by rw [hfaults]; exact hsound)
  have hseq : (reportCompletion o (s.afterEnd o .completed none)).seq = (s.afterEnd o .completed none).seq := by
    rw [hreport]
    simp
  refine ⟨_, rfl, hfaults, ?_, hseq, by rw [hreport]; simp⟩
  rw [endOrder, markEnded_completed (State.order_of_mem hnodup hmem) hstate, hgroup]
  refine advanceGroup_idle ?_ ?_
  · rw [State.active_congr (s := s.afterEnd o .completed none) (by rw [hseq])]
    exact State.afterEnd_active hnodup hone hactive _ _
  · rw [State.oldestQueued?, hseq]
    exact State.afterEnd_queued hqueued ..

/-- R31: a latch sense taken active completes the CHECK phase of a CLOSE that watches it. -/
theorem senseExpiry_completes (hmode : s.supply.mode = .run) (htimer : (s.line (.latchSense d)).timer ≠ none)
    (hraw : (s.line (.latchSense d)).raw = true) (hlevel : (s.line (.latchSense d)).level = !true)
    (hactive : s.active? d.group = some o) (hstate : o.state = .moving) (hcheck : o.phaseIs .check = true)
    (hclose : o.kind = .closeShutter) (hnodup : (s.seq.orders.map (·.number)).Nodup) (hone : s.oneActiveEach)
    (hqueued : s.oldestQueued? d.group = none) (hrun : s.run? d.group = none) (hsound : s.faults.sound) :
    ∃ t, exec (.inputDebounceExpiry (.latchSense d)) s = .next t ∧ s.endsAs t o .completed none ∧
      t.active? d.group = none ∧ (t.ctl d.group).latchCheck = none ∧
      t.line (.latchSense d) = { raw := true, level := true, timer := none } ∧
      t.faults.entries = (s.faults.entries.filter fun e =>
        decide (¬ (e.code = .latchFault ∧ e.subject = .group d.group))) ∧
      t.drive = s.drive ∧ t.flow = s.flow := by
  obtain ⟨-, hgroup, -⟩ := State.mem_of_active hactive
  obtain ⟨v, hv, hfaults, hended, hseq, hflow⟩ := endOrder_close (s := s.lineTaken (.latchSense d) true) hnodup hone hactive hqueued
    hrun hclose hsound
  have hsensed := latchSensed_of_watched (s := s.lineTaken (.latchSense d) true) hactive hstate hcheck
  obtain ⟨t, he, ht⟩ := runEvent_effect (inputExpiry (.latchSense d)) hmode
  rw [inputExpiry_latchSense htimer hraw hlevel, if_pos rfl, hsensed, hended] at ht
  have horders : (becomeIdle d.group (reportCompletion o v)).seq.orders = v.seq.orders := by simp [hseq]
  refine ⟨t, he, ?_, ?_, ?_, ?_, ?_, ?_, ?_⟩
  · rw [State.endsAs, ht.records, records_congr horders, hv]
    exact (s.lineTaken (.latchSense d) true).afterEnd_records o .completed none
  · refine ht.active_none ?_
    rw [State.active_congr horders, hv]
    exact State.afterEnd_active (s := s.lineTaken (.latchSense d) true) hnodup hone hactive _ _
  · have hctl : (becomeIdle d.group (reportCompletion o v)).ctl o.group = v.ctl o.group := by simp [State.ctl, hseq]
    rw [ht.ctl, ← hgroup]
    rw [hgroup] at hctl ⊢
    rw [hctl, ← hgroup, hv, State.afterEnd_ctl]
    rfl
  · have hoperator : (becomeIdle d.group (reportCompletion o v)).operator = (s.lineTaken (.latchSense d) true).operator := by
      rw [hv]
      simp
    rw [ht.line, State.line, hoperator]
    exact (s.lineTaken_line (.latchSense d) true).trans (by rw [hraw])
  · have hentries := reportCompletion_close_entries (s := v) hclose (by rw [hfaults]; exact hsound)
    have hsame : (becomeIdle d.group (reportCompletion o v)).faults = (reportCompletion o v).faults := by simp
    rw [ht.faults, hsame, hentries, hfaults, hgroup]
    rfl
  · rw [ht.drive, hv]
    simp [State.lineTaken]
  · rw [ht.flow]
    simp [hflow, State.lineTaken]

end Sense

/-! ### Orders that are stopped together -/

/-- R22, R29: the record in STOPPING with this outcome and pending end. -/
def Order.stopped (out : StopOutcome) (res : Option OrderResult) (why : Option Reason) (o : Order) : Order :=
  { o with state := .stopping, outcome := some out, pendResult := res, pendReason := why }

theorem toStopping_orders (n : Nat) (out : StopOutcome) (res : Option OrderResult) (why : Option Reason) (s : State) :
    (toStopping n out res why s).seq.orders =
      s.seq.orders.map fun x => if x.number = n then x.stopped out res why else x := setOrder_orders ..

theorem stopAll_orders (out : StopOutcome) (res : Option OrderResult) (why : Option Reason) (xs : List Order) : ∀ s : State,
    (xs.foldl (fun s o => toStopping o.number out res why s) s).seq.orders =
      s.seq.orders.map fun x => if x.number ∈ xs.map (·.number) then x.stopped out res why else x := by
  induction xs with
  | nil => simp
  | cons o xs ih =>
    intro s
    rw [List.foldl_cons, ih, toStopping_orders, List.map_map]
    refine List.map_congr_left fun x _ => ?_
    by_cases hx : x.number = o.number
    · simp [hx, Order.stopped]
    · simp [hx]

/-- The records of a table without equal numbers that a test picks are stopped, and no others. -/
theorem stopAll_filter {s : State} (hnodup : (s.seq.orders.map (·.number)).Nodup) (p : Order → Bool) (out : StopOutcome)
    (res : Option OrderResult) (why : Option Reason) {u : State} (hu : u.seq = s.seq) :
    ((s.seq.orders.filter p).foldl (fun s o => toStopping o.number out res why s) u).seq.orders =
      s.seq.orders.map fun x => if p x then x.stopped out res why else x := by
  rw [stopAll_orders, hu]
  refine List.map_congr_left fun x hx => ?_
  have hpicked : x.number ∈ (s.seq.orders.filter p).map (·.number) ↔ p x = true := by
    refine ⟨fun hmem => ?_, fun hp => List.mem_map_of_mem (List.mem_filter.2 ⟨hx, hp⟩)⟩
    obtain ⟨y, hy, hn⟩ := List.mem_map.1 hmem
    obtain ⟨hymem, hp⟩ := List.mem_filter.1 hy
    rwa [← List.inj_on_of_nodup_map hnodup hymem hx hn]
  by_cases hp : p x = true
  · rw [if_pos (hpicked.2 hp), if_pos hp]
  · rw [if_neg fun hmem => hp (hpicked.1 hmem), if_neg hp]

/-! ### The pressure switch -/

/-- R66: the orders that PSW taken active stops. -/
def State.atPressure (s : State) (o : Order) : Bool := s.pumpedMoving o && s.nearTarget o

theorem pressureActive_of_near {s : State} (hnear : s.seq.orders.any s.atPressure = true)
    (hnodup : (s.seq.orders.map (·.number)).Nodup) :
    (pressureActive s).seq.orders =
        (s.seq.orders.map fun o => if s.atPressure o then o.stopped .arrived none none else o) ∧
      (pressureActive s).faults = s.faults ∧ (pressureActive s).flow = s.flow ∧ (pressureActive s).drive = s.drive := by
  obtain ⟨o, hmem, ho⟩ := List.any_eq_true.1 hnear
  have hsome : (s.seq.orders.filter s.atPressure).isEmpty = false := by
    rw [List.isEmpty_eq_false_iff]
    exact List.ne_nil_of_mem (List.mem_filter.2 ⟨hmem, ho⟩)
  have heq : pressureActive s =
      (s.seq.orders.filter s.atPressure).foldl (fun s o => toStopping o.number .arrived none none s) s := by
    refine if_neg ?_
    rw [Bool.not_eq_true]
    exact hsome
  rw [heq]
  exact ⟨stopAll_filter hnodup _ _ _ _ rfl, by simp [foldArrived_frame], by simp [foldArrived_frame], by simp [foldArrived_frame]⟩

theorem pressureActive_of_far {s : State} (hfar : s.seq.orders.any s.atPressure = false) :
    pressureActive s = raiseFault .pressureRelief .none s := by
  have hnone : (s.seq.orders.filter s.atPressure).isEmpty = true := by
    rw [List.isEmpty_iff, List.filter_eq_nil_iff]
    exact fun x hx => by simpa using List.any_eq_false.1 hfar x hx
  exact if_pos hnone

/-- R66 in the words of the statement. -/
theorem State.atPressure_eq (s : State) (o : Order) :
    s.atPressure o =
      (decide (o.state = .moving) && (s.flow.granted.any fun q => q.order == o.number && q.ready) &&
        match o.phase? with
        | some ⟨.pumped, some c, target, _, _⟩ => decide (|target - s.reference c| ≤ 20000)
        | _ => false) := by
  unfold State.atPressure State.pumpedMoving State.nearTarget Order.phaseIs Order.cls?
  cases hp : o.phase? with
  | none => simp
  | some p =>
    obtain ⟨kind, cls, target, how, sync⟩ := p
    cases kind with
    | pumped => cases cls with
      | none => simp
      | some c => simp [Config.pressureNear] <;> rfl
    | gravity | pulse | check => simp

/-! ### The pump running sense -/

/-- R16: a newly set flag does not reach an order in STOPPING. -/
theorem meetInhibit_of_stopping {s : State} {g : Group} (h : ∀ o, s.active? g = some o → o.state = .stopping) (old : Inhibits) :
    meetInhibit old g s = s := by
  unfold meetInhibit applyInhibit
  split
  · rfl
  next o ho => simp [h o ho]

/-- R165: flags that reach no order, PUMPED among those set, reach the Beacon Engine alone. -/
theorem reportFlags_rest_of_pumped {s : State} {old : Inhibits} (h : s.unreached old) (hpumped : s.faults.flags.pumped = true) :
    (reportFlags old s).seq = s.seq ∧ (reportFlags old s).faults = s.faults ∧ (reportFlags old s).flow = s.flow ∧
      (reportFlags old s).drive = s.drive := by
  unfold reportFlags
  split
  · simp
  · simp only [Group.all, List.foldl_cons, List.foldl_nil, h _, reportCleared, hpumped]
    simp

/-- R64: the pump turned off while PRS is inactive. -/
theorem pumpOff_of_on {s : State} (hpump : s.flow.pump = .running ∨ s.flow.pump = .runOn) (hsense : s.level .prs = false) :
    pumpOff s = s.modFlow fun fl => { fl with pump := .off, start := none, runOn := none, stuck := none } := by
  have hon : s.flow.pump ≠ .off := by rcases hpump with h | h <;> simp [h]
  unfold pumpOff
  rw [if_neg hon, hsense]
  rfl

/-- R63: the pump off with no claim granted, and its orders stopped. -/
def State.pumpStopped (s : State) : State :=
  (s.seq.orders.filter fun o => decide (o.state = .moving) && o.phaseIs .pumped).foldl (fun s o => stopFailed o.number .pump s)
    (s.modFlow fun fl => { fl with pump := .off, start := none, runOn := none, stuck := none, granted := [] })

section PumpLost

variable {s : State} (hnodup : (s.seq.orders.map (·.number)).Nodup)
  (hmoves : ∀ o ∈ s.seq.orders, o.state.isActive = true → o.state = .moving ∧ o.phaseIs .pumped = true)

include hnodup hmoves

theorem State.pumpStopped_orders :
    s.pumpStopped.seq.orders =
      s.seq.orders.map fun o => if o.state = .moving then o.stopped .finish (some .failed) (some .pump) else o := by
  refine (stopAll_filter hnodup (fun o => decide (o.state = .moving) && o.phaseIs .pumped) .finish (some .failed) (some .pump)
    (u := s.modFlow fun fl => { fl with pump := .off, start := none, runOn := none, stuck := none, granted := [] }) rfl).trans
    (List.map_congr_left fun x hx => ?_)
  by_cases hmoving : x.state = .moving
  · have hpumped := (hmoves x hx (by rw [hmoving]; rfl)).2
    simp [hmoving, hpumped]
  · simp [hmoving]

theorem State.pumpStopped_stopping {u : State} (hu : u.seq.orders = s.pumpStopped.seq.orders) {g : Group} {o : Order}
    (ho : u.active? g = some o) : o.state = .stopping := by
  obtain ⟨hmem, -, hlive⟩ := State.mem_of_active ho
  rw [hu, State.pumpStopped_orders hnodup hmoves] at hmem
  obtain ⟨x, hx, rfl⟩ := List.mem_map.1 hmem
  by_cases hmoving : x.state = .moving
  · rw [if_pos hmoving]
    rfl
  · rw [if_neg hmoving] at hlive
    exact absurd (hmoves x hx hlive).1 hmoving

/-- R63: the pump is lost. -/
theorem pumpLost_effect (hpump : s.flow.pump = .running ∨ s.flow.pump = .runOn) (hsense : s.level .prs = false)
    (hsound : s.faults.sound) (hroom : s.faults.entries.length < 16) :
    (pumpLost s).flow = { s.flow with pump := .off, start := none, runOn := none, stuck := none, granted := [] } ∧
      (pumpLost s).seq.orders =
        (s.seq.orders.map fun o => if o.state = .moving then o.stopped .finish (some .failed) (some .pump) else o) ∧
      (pumpLost s).faults = (s.faults.raise .pumpLost .none s.supply.time).latch .pumpLost .none ∧
      (pumpLost s).faults.flags.pumped = true ∧ (pumpLost s).drive = s.drive := by
  have heq : pumpLost s = raiseFaultOnce .pumpLost .none s.pumpStopped := by
    unfold pumpLost
    dsimp only
    rw [pumpOff_of_on hpump hsense]
    rfl
  have hframe : s.pumpStopped.faults = s.faults ∧ s.pumpStopped.supply = s.supply ∧ s.pumpStopped.drive = s.drive ∧
      s.pumpStopped.flow = { s.flow with pump := .off, start := none, runOn := none, stuck := none, granted := [] } := by
    simp [State.pumpStopped, foldFailed_frame, State.modFlow]
  obtain ⟨hfaults, hsupply, hdrive, hflow⟩ := hframe
  have hraised : (raiseOnce .pumpLost .none s.pumpStopped).faults =
      (s.faults.raise .pumpLost .none s.supply.time).latch .pumpLost .none := by
    rw [raiseOnce_faults, hfaults, hsupply]
  have hpumped : (raiseOnce .pumpLost .none s.pumpStopped).faults.flags.pumped = true := by
    rw [hraised, FaultTable.latch_flags]
    exact FaultTable.raise_sets_pumped _ hsound hroom rfl rfl
  have hunreached : (raiseOnce .pumpLost .none s.pumpStopped).unreached s.pumpStopped.faults.flags := fun g =>
    meetInhibit_of_stopping (fun o ho => State.pumpStopped_stopping hnodup hmoves (by simp) ho) _
  obtain ⟨r1, r2, r3, r4⟩ := reportFlags_rest_of_pumped hunreached hpumped
  have hall : (pumpLost s).flow = (raiseOnce .pumpLost .none s.pumpStopped).flow ∧
      (pumpLost s).seq = (raiseOnce .pumpLost .none s.pumpStopped).seq ∧
      (pumpLost s).faults = (raiseOnce .pumpLost .none s.pumpStopped).faults ∧
      (pumpLost s).drive = (raiseOnce .pumpLost .none s.pumpStopped).drive := by
    rw [heq]
    exact ⟨r3, r1, r2, r4⟩
  obtain ⟨h1, h2, h3, h4⟩ := hall
  refine ⟨by rw [h1]; simpa using hflow, ?_, h3.trans hraised, by rw [h3]; exact hpumped, by rw [h4]; simpa using hdrive⟩
  rw [h2, ← State.pumpStopped_orders hnodup hmoves]
  simp

end PumpLost

/-- R63, R65: PRS taken inactive under a running pump. -/
theorem senseLost_effect {s : State} (hmode : s.supply.mode = .run) (htimer : (s.line .prs).timer ≠ none)
    (hraw : (s.line .prs).raw = false) (hlevel : (s.line .prs).level = !false)
    (hpump : s.flow.pump = .running ∨ s.flow.pump = .runOn) (hsound : s.faults.sound) (hroom : s.faults.entries.length < 16)
    (hnodup : (s.seq.orders.map (·.number)).Nodup)
    (hmoves : ∀ o ∈ s.seq.orders, o.state.isActive = true → o.state = .moving ∧ o.phaseIs .pumped = true) :
    ∃ t, exec (.inputDebounceExpiry .prs) s = .next t ∧
      t.flow = { s.flow with pump := .off, start := none, runOn := none, stuck := none, granted := [] } ∧
      t.records =
        (s.seq.orders.map fun o =>
          if o.state = .moving then o.stopped .finish (some .failed) (some .pump) else o).map Order.unmarked ∧
      (∃ e ∈ t.faults.entries, e.code = .pumpLost ∧ e.subject = .none ∧ e.active = false) ∧
      (∀ e ∈ t.faults.entries, e.code = .pumpStuck → e.subject = .none → e.active = false) ∧
      t.faults.flags.pumped = true ∧ t.drive = s.drive := by
  have hroom' : (latch .pumpStuck .none (s.lineTaken .prs false)).faults.entries.length < 16 := by
    rw [latch_faults, FaultTable.latch_length]
    exact hroom
  have hsense : (latch .pumpStuck .none (s.lineTaken .prs false)).level .prs = false := by
    have : (s.lineTaken .prs false).level .prs = false := by rw [State.level, State.lineTaken_line]
    exact this
  obtain ⟨hflow, horders, hfaults, hpumped, hdrive⟩ := pumpLost_effect (s := latch .pumpStuck .none (s.lineTaken .prs false))
    hnodup hmoves hpump hsense (FaultTable.latch_sound _ _ _ hsound) hroom'
  have htaken : runningSenseTaken false (s.lineTaken .prs false) = pumpLost (latch .pumpStuck .none (s.lineTaken .prs false)) := by
    unfold runningSenseTaken
    obtain h | h := hpump
    · rw [show (s.lineTaken .prs false).flow.pump = .running from h]
    · rw [show (s.lineTaken .prs false).flow.pump = .runOn from h]
  obtain ⟨t, he, ht⟩ := runEvent_effect (inputExpiry .prs) hmode
  rw [inputExpiry_prs htimer hraw hlevel, htaken] at ht
  refine ⟨t, he, ht.flow.trans hflow, ?_, ?_, fun e hmem hcode hsubject => ?_, by rw [ht.faults]; exact hpumped,
    ht.drive.trans hdrive⟩
  · rw [ht.records, State.records, horders]
    rfl
  · rw [ht.faults, hfaults]
    exact FaultTable.raiseOnce_latched _ _ _ hroom'
  · rw [ht.faults, hfaults] at hmem
    have hother : e.is .pumpLost .none = false := by simp [Entry.is, hcode]
    have hold := FaultTable.raise_of_others _ hroom' (FaultTable.latch_of_others hmem hother) hother
    exact FaultTable.latch_active (by simpa using hold) hcode hsubject

/-- R137: the expiry of the window of a set in HALF. -/
theorem handExpiry_of_half {s : State} {i : Fin 2} (hstate : (s.hand i).state = .half) (hwindow : (s.hand i).window ≠ none) :
    handExpiry i s = s.setHand i ⟨.lockout, none⟩ := by
  have hsome : (s.hand i).window.isSome = true := Option.isSome_iff_ne_none.2 hwindow
  unfold handExpiry moveHand
  rw [if_pos ⟨hstate, hsome⟩]
  dsimp only
  rw [if_neg (by simp), if_neg (by simp [hstate])]

/-- R133: a raw change in RUN. -/
theorem inputRaw_of_ne {s : State} {l : Line} {level : Bool} (hmode : s.supply.mode = .run) (hne : (s.line l).raw ≠ level) :
    inputRaw l level s = s.modLine l fun x => { x with raw := level, timer := some s.debounceTime } := by
  unfold inputRaw
  rw [if_neg hne, hmode]
  rfl

/-- R133: an expiry that finds the level already taken. -/
theorem inputExpiry_of_same {s : State} {l : Line} (htimer : (s.line l).timer ≠ none) (hsame : (s.line l).raw = (s.line l).level) :
    inputExpiry l s = s.modLine l fun x => { x with timer := none } := by
  have hsome : (s.line l).timer.isSome = true := Option.isSome_iff_ne_none.2 htimer
  have hline : (s.modLine l fun x => { x with timer := none }).line l = { s.line l with timer := none } := State.modLine_line_self ..
  unfold inputExpiry
  rw [if_pos hsome]
  dsimp only
  rw [hline]
  exact if_pos hsame

/-- An event of RUN whose effect is known. -/
theorem runEvent_quiet {f : State → State} {s v : State} (hmode : s.supply.mode = .run) (hv : f s = v) :
    ∃ t, runEvent f s = .next t ∧ t.quiet = v.quiet := hv ▸ runEvent_next f hmode

/-- Settles O50. -/
theorem linesAreDebounced : Obligations.LinesAreDebounced := by
  intro s hmode due taken near pump unstuck
  have hnear : near = s.atPressure := funext fun o => (s.atPressure_eq o).symm
  have hatPressure : (taken .psw true).atPressure = s.atPressure := rfl
  refine ⟨fun l level hne => ?_, fun l htimer hsame => ?_, fun i htimer hdiffers hnone => ?_,
    fun i level g o r x y hdue hpolicy hx hy hslot hwas hactive hstate hothers hwait => ?_,
    fun d => ⟨fun hdue => ?_, fun hdue hunwatched => ?_,
      fun o hdue hactive hstate hcheck hclose hnodup hone hqueued hrun hsound => ?_⟩,
    ⟨fun hdue => ?_, fun hdue hfar hsound hroom => ?_, fun hdue hsome hnodup => ?_⟩,
    ⟨fun hdue => ?_, fun hdue hoff => ?_, fun hdue hstarting => ?_, fun hdue hon hsound hroom hnodup hmoves => ?_⟩,
    fun i hstate hwindow => ?_⟩
  · rw [← inputRaw_of_ne hmode hne]
    exact event_next _ s
  · exact runEvent_quiet hmode (inputExpiry_of_same htimer hsame)
  · exact generalExpiry_of_noActive hmode htimer hdiffers hnone
  · obtain ⟨htimer, hraw, hlevel⟩ := hdue
    exact generalExpiry_of_obstructs hmode htimer hraw hlevel hpolicy hx hy hslot hwas hactive hstate hothers hwait
  · obtain ⟨htimer, hraw, hlevel⟩ := hdue
    exact runEvent_quiet hmode (inputExpiry_latchSense htimer hraw hlevel)
  · obtain ⟨htimer, hraw, hlevel⟩ := hdue
    exact runEvent_quiet hmode ((inputExpiry_latchSense htimer hraw hlevel).trans (latchSensed_of_unwatched hunwatched))
  · obtain ⟨htimer, hraw, hlevel⟩ := hdue
    exact senseExpiry_completes hmode htimer hraw hlevel hactive hstate hcheck hclose hnodup hone hqueued hrun hsound
  · obtain ⟨htimer, hraw, hlevel⟩ := hdue
    exact runEvent_quiet hmode (inputExpiry_psw htimer hraw hlevel)
  · obtain ⟨htimer, hraw, hlevel⟩ := hdue
    rw [hnear] at hfar
    have hraises : inputExpiry .psw s = raise .pressureRelief .none (taken .psw true) :=
      (inputExpiry_psw htimer hraw hlevel).trans
        ((pressureActive_of_far (s := taken .psw true) hfar).trans (raiseFault_of_warn hsound hroom rfl))
    obtain ⟨t, he, ht⟩ := runEvent_effect (inputExpiry .psw) hmode
    rw [hraises] at ht
    have hfaults : t.faults = s.faults.raise .pressureRelief .none s.supply.time := ht.faults.trans (raise_faults ..)
    refine ⟨t, he, ?_, ?_, ?_, ?_, ?_⟩
    · rw [hfaults]
      exact FaultTable.raise_active _ _ _ hroom
    · rw [hfaults]
      exact FaultTable.raise_flags_of_warn _ hsound hroom rfl
    · rw [ht.records]
      exact records_congr (by simp [taken])
    · rw [ht.flow]
      simp [taken]
    · rw [ht.drive]
      simp [taken]
  · obtain ⟨htimer, hraw, hlevel⟩ := hdue
    rw [hnear] at hsome ⊢
    obtain ⟨horders, hfaults, hflow, hdrive⟩ := pressureActive_of_near (s := taken .psw true) hsome hnodup
    obtain ⟨t, he, ht⟩ := runEvent_effect (inputExpiry .psw) hmode
    rw [inputExpiry_psw htimer hraw hlevel, if_pos rfl] at ht
    refine ⟨t, he, ?_, ht.faults.trans hfaults, ht.flow.trans hflow, ht.drive.trans hdrive⟩
    rw [ht.records, State.records]
    exact congrArg _ horders
  · obtain ⟨htimer, hraw, hlevel⟩ := hdue
    refine runEvent_quiet hmode ((inputExpiry_prs htimer hraw hlevel).trans ?_)
    have htaken : runningSenseTaken true (s.lineTaken .prs true) =
        if s.flow.pump = .off then (s.lineTaken .prs true).modFlow fun fl => { fl with stuck := some 1000 }
        else s.lineTaken .prs true := by
      unfold runningSenseTaken
      cases hpump : s.flow.pump with
      | off => rw [show (s.lineTaken .prs true).flow.pump = .off from hpump]; rfl
      | starting => rw [show (s.lineTaken .prs true).flow.pump = .starting from hpump]; rfl
      | running => rw [show (s.lineTaken .prs true).flow.pump = .running from hpump]; rfl
      | runOn => rw [show (s.lineTaken .prs true).flow.pump = .runOn from hpump]; rfl
    rw [htaken]
    dsimp only [pump]
    split <;> rfl
  · obtain ⟨htimer, hraw, hlevel⟩ := hdue
    refine runEvent_quiet hmode ((inputExpiry_prs htimer hraw hlevel).trans ?_)
    unfold runningSenseTaken
    rw [show (s.lineTaken .prs false).flow.pump = .off from hoff]
    rfl
  · obtain ⟨htimer, hraw, hlevel⟩ := hdue
    refine runEvent_quiet hmode ((inputExpiry_prs htimer hraw hlevel).trans ?_)
    unfold runningSenseTaken
    rw [show (s.lineTaken .prs false).flow.pump = .starting from hstarting]
    rfl
  · obtain ⟨htimer, hraw, hlevel⟩ := hdue
    exact senseLost_effect hmode htimer hraw hlevel hon hsound hroom hnodup hmoves
  · exact runEvent_quiet hmode (handExpiry_of_half hstate hwindow)

end Sys2Proof.Machine
end


section
/-! PROOFS. The proving test: its drives, its end, and the records that start then (O58). -/

namespace Sys2Proof.Machine

/-! ### The start of a drive -/

/-- R127: no drive starts while the wait or the dead-time of the next channel's pair runs. -/
theorem mayDrive_eq {c : Channel} {s : State} (hrunning : s.drive.prove.overall = .running) (hidle : s.drive.prove.driving = none)
    (hnext : s.nextVisit s.drive.prove.next = some c) :
    s.mayDrive? = if s.drive.prove.gap.left = 0 ∧ ∀ p, channelPair c = some p → (s.pair p).dead = none then some c else none := by
  have hproving : s.proving = true := by simp [State.proving, hrunning]
  have hover : s.drive.prove.gapOver = decide (s.drive.prove.gap.left = 0) := rfl
  unfold State.mayDrive?
  rw [hproving, hidle, hnext, hover]
  by_cases hgap : s.drive.prove.gap.left = 0
  · cases hpair : channelPair c with
    | none => simp [hgap, hpair]
    | some p => simp [hgap, hpair, Option.filter]
  · simp [hgap]

theorem proveNext_starts {c : Channel} {s : State} (hrunning : s.drive.prove.overall = .running)
    (hidle : s.drive.prove.driving = none) (hnext : s.nextVisit s.drive.prove.next = some c)
    (hgap : s.drive.prove.gap.left = 0) (hdead : ∀ p, channelPair c = some p → (s.pair p).dead = none) :
    proveNext s = s.modProve fun x => { x with driving := some c, drive := some 5, gap := none } := by
  unfold proveNext
  rw [mayDrive_eq hrunning hidle hnext, if_pos ⟨hgap, hdead⟩]
  rfl

theorem proveNext_waits {c : Channel} {s : State} (hrunning : s.drive.prove.overall = .running)
    (hidle : s.drive.prove.driving = none) (hnext : s.nextVisit s.drive.prove.next = some c)
    (hwait : ¬ (s.drive.prove.gap.left = 0 ∧ ∀ p, channelPair c = some p → (s.pair p).dead = none)) : proveNext s = s := by
  unfold proveNext
  rw [mayDrive_eq hrunning hidle hnext, if_neg hwait]

/-! ### The end of a drive -/

section Over

variable (c : Channel) (res : ChanResult) (s : State)

@[simp] theorem driveOver_frame :
    (driveOver c res s).supply = s.supply ∧ (driveOver c res s).fitment = s.fitment ∧ (driveOver c res s).vehicle = s.vehicle ∧
      (driveOver c res s).operator = s.operator ∧ (driveOver c res s).seq = s.seq ∧ (driveOver c res s).flow = s.flow ∧
      (driveOver c res s).faults = s.faults ∧ (driveOver c res s).trackers = s.trackers ∧ (driveOver c res s).beacon = s.beacon ∧
      (driveOver c res s).runs = s.runs := by
  unfold driveOver
  dsimp only
  split <;> simp

theorem driveOver_record :
    (driveOver c res s).drive.prove =
      { s.drive.prove with results := s.drive.prove.results.set c res, driving := none, drive := none, next := c.val + 1,
                           gap := some 20 } ∧
      (driveOver c res s).drive.chans = s.drive.chans := by
  unfold driveOver startDead
  dsimp only
  split
  · split <;> exact ⟨rfl, rfl⟩
  · exact ⟨rfl, rfl⟩

theorem driveOver_nextVisit (n : Nat) : (driveOver c res s).nextVisit n = s.nextVisit n := by
  simp only [State.nextVisit, State.fitted, driveOver_frame]

variable {c}

theorem driveOver_pair_of_alone (hpair : channelPair c = none) (p : PairNo) : (driveOver c res s).pair p = s.pair p := by
  unfold driveOver
  rw [hpair]
  rfl

/-- R127: the pair's dead-time runs then, and neither member is resumable. -/
theorem driveOver_pair {q : PairNo} {e : ChannelRec} (hpair : channelPair c = some q)
    (heven : s.chanRec? (memberChannel q .even) = some e) (p : PairNo) :
    (driveOver c res s).pair p = if q = p then { s.pair p with dead := some e.dead, resumable := none } else s.pair p := by
  unfold driveOver startDead
  dsimp only
  rw [hpair]
  dsimp only
  rw [show (s.modProve _).chanRec? (memberChannel q .even) = some e from heven]
  dsimp only
  by_cases hqp : q = p
  · subst hqp
    rw [State.modPair_pair_self, if_pos rfl]
    rfl
  · rw [State.modPair_pair_ne _ hqp, if_neg hqp]
    rfl

end Over

/-- R127, R128: the end of a drive that is not the last one. -/
theorem finishDrive_of_more {c : Channel} {s : State} (hmore : (s.nextVisit (c.val + 1)).isSome) (res : ChanResult) :
    finishDrive c res s = driveOver c res s := by
  rw [finishDrive_eq, driveOver_nextVisit]
  exact if_neg (by simp [Option.isNone_iff_eq_none, Option.isSome_iff_ne_none.1 hmore])

theorem finishDrive_of_last {c : Channel} {s : State} (hlast : s.nextVisit (c.val + 1) = none) (res : ChanResult) :
    finishDrive c res s = endProve (driveOver c res s) := by
  rw [finishDrive_eq, driveOver_nextVisit, hlast]
  rfl

/-! ### Entries of the test -/

/-- The PROVING_FAILED entries of a table. -/
def FaultTable.tests (t : FaultTable) : List Entry := t.entries.filter (·.is .provingFailed .none)

theorem FaultTable.latch_tests {code : FaultCode} (hcode : code ≠ .provingFailed) (x : Subject) (t : FaultTable) :
    (t.latch code x).tests = t.tests := by
  have hother (e : Entry) (he : e.is .provingFailed .none = true) : e.is code x = false := by
    simp [Entry.is, ((e.is_iff _ _).1 he).1, Ne.symm hcode]
  have his (e : Entry) : (if e.is code x then { e with active := false } else e).is .provingFailed .none =
      e.is .provingFailed .none := by
    split <;> rfl
  unfold FaultTable.tests FaultTable.latch
  rw [List.filter_map, show (Entry.is · .provingFailed .none) ∘ _ = (Entry.is · .provingFailed .none) from funext his]
  refine (List.map_congr_left fun e he => ?_).trans (List.map_id _)
  rw [hother e (List.mem_filter.1 he).2]
  rfl

theorem FaultTable.remove_tests {p : Entry → Bool} (hp : ∀ e, p e = true → e.code ≠ .provingFailed) (t : FaultTable) :
    (t.remove p).tests = t.tests := by
  unfold FaultTable.tests FaultTable.remove FaultTable.recompute
  dsimp only
  rw [List.filter_filter]
  refine List.filter_congr fun e _ => ?_
  cases hpe : p e with
  | false => simp
  | true => simp [Entry.is, hp e hpe]

section Tests

variable (o : Order) (p : Phase) (s : State)

theorem endRun_tests (g : Group) : (endRun g s).faults.tests = s.faults.tests := by
  unfold endRun
  split
  · rfl
  · dsimp only
    split
    · exact FaultTable.latch_tests (by decide) _ _
    · rfl

/-- R167: a completion removes no entry of the proving test. -/
theorem reportCompletion_tests : (reportCompletion o s).faults.tests = s.faults.tests := by
  have hp (e : Entry) (he : recovers o e = true) : e.code ≠ .provingFailed := by
    unfold recovers at he
    split at he
    · simp only [Bool.or_eq_true, Entry.is_iff] at he
      obtain (⟨h, -⟩ | ⟨h, -⟩) | ⟨h, -⟩ := he <;> simp [h]
    · simp [((e.is_iff _ _).1 he).1]
    all_goals cases he
  rw [reportCompletion]
  simp only [reportCleared_frame, removeFaults_faults]
  exact FaultTable.remove_tests hp _

theorem markEnded_tests (n : Nat) (res : OrderResult) (why : Option Reason) :
    (markEnded n res why s).faults.tests = s.faults.tests := by
  cases ho : s.order? n with
  | none => simp only [markEnded, ho]
  | some o =>
    have hstopped : (s.stopped o).faults.tests = s.faults.tests := by
      unfold State.stopped
      split
      · simpa using endRun_tests s o.group
      · rfl
    have hended : (s.reachesEnd n o res why).faults.tests = s.faults.tests := by simpa [State.reachesEnd] using hstopped
    rw [markEnded_eq ho]
    split
    · exact (reportCompletion_tests o _).trans hended
    · exact hended

theorem enterMoving_tests : (enterMoving o p s).faults.tests = s.faults.tests := by
  unfold enterMoving
  dsimp only
  (repeat' split) <;> simp [markEnded_tests]

theorem gateInterlock_tests : (gateInterlock o p s).faults.tests = s.faults.tests := by
  have hflow : (gateFlow o p s).faults.tests = s.faults.tests := by
    unfold gateFlow
    dsimp only
    split <;> simp [enterMoving_tests]
  unfold gateInterlock gateBinding
  (repeat' split) <;> simp [hflow]

theorem phaseStart_tests (n : Nat) : (phaseStart n s).faults.tests = s.faults.tests := by
  unfold phaseStart
  dsimp only
  (repeat' split) <;> simp [markEnded_tests, enterMoving_tests, gateInterlock_tests]

theorem startQueued_tests (g : Group) (k : Nat) : ∀ s : State, (startQueued g k s).faults.tests = s.faults.tests := by
  induction k with
  | zero => exact fun s => rfl
  | succ k ih =>
    intro s
    unfold startQueued
    (repeat' split) <;> simp [ih, phaseStart_tests]

end Tests

/-! ### The starts that follow the test -/

/-- The states hold the same groups under the same numbers. -/
def State.sameGroups (s t : State) : Prop :=
  ∀ (m : Nat) (x : Order), s.order? m = some x → ∃ y, t.order? m = some y ∧ y.group = x.group

theorem State.sameGroups.trans {s t u : State} (h : s.sameGroups t) (h' : t.sameGroups u) : s.sameGroups u := by
  intro m x hx
  obtain ⟨y, hy, hgroup⟩ := h m x hx
  obtain ⟨z, hz, hgroup'⟩ := h' m y hy
  exact ⟨z, hz, hgroup'.trans hgroup⟩

theorem State.sameGroups.of_orders {s t : State} (h : t.seq.orders = s.seq.orders) : s.sameGroups t :=
  fun m x hx => ⟨x, (State.order_congr h m).trans hx, rfl⟩

theorem phaseStart_sameGroups {s : State} (hrun : s.supply.mode = .run) (n : Nat) : s.sameGroups (phaseStart n s) := by
  intro m x hx
  by_cases hm : m = n
  · subst hm
    have hgroup : (s.fixTilt x).group = x.group := (s.fixTilt_keeps x).1
    cases hp : (s.fixTilt x).phase? with
    | none =>
      have heq : phaseStart m s = s.tiltFixed m x := by simp only [phaseStart, hx, hp, State.tiltFixed]
      exact ⟨_, by rw [heq]; exact State.tiltFixed_order hx, hgroup⟩
    | some p =>
      obtain ⟨y, hy, hb, -⟩ := phaseStart_begins hrun hx hp
      rw [(fixTilt_same s x).1, (State.mem_of_order hx).2] at hy
      exact ⟨y, hy, hb.group.trans hgroup⟩
  · obtain h | ⟨-, h⟩ := phaseStart_holds hm s x hx
    · exact ⟨x, h, rfl⟩
    · exact ⟨x.moves, h, rfl⟩

/-- R14: the starts in one group leave the records of the others, but for claims that become ready. -/
theorem startQueued_others (g : Group) (k : Nat) : ∀ s : State, s.supply.mode = .run → s.numbers.Nodup →
    s.sameGroups (startQueued g k s) ∧
      ∀ (n : Nat) (y : Order), s.order? n = some y → y.group ≠ g → y.state ≠ .claiming → (startQueued g k s).order? n = some y := by
  induction k with
  | zero => exact fun s _ _ => ⟨.of_orders rfl, fun n y hy _ _ => hy⟩
  | succ k ih =>
    intro s hrun hnodup
    unfold startQueued
    split
    · exact ⟨.of_orders rfl, fun n y hy _ _ => hy⟩
    next hfree =>
      have hnone : s.active? g = none := by simpa using hfree
      split
      · have horders : (becomeIdle g s).seq.orders = s.seq.orders := by simp
        exact ⟨.of_orders horders, fun n y hy _ _ => (State.order_congr horders n).trans hy⟩
      next q hq =>
        split
        · exact ⟨.of_orders rfl, fun n y hy _ _ => hy⟩
        · obtain ⟨hmem, hgroup, -⟩ := State.mem_of_oldestQueued hq
          have hkeeps := phaseStart_keeps (G := True) (State.live_of_oldestQueued hnone hq)
          obtain ⟨hsame, hothers⟩ := ih (phaseStart q.number s) (by rw [hkeeps.supply]; exact hrun) (hkeeps.numbers ▸ hnodup)
          refine ⟨(phaseStart_sameGroups hrun _).trans hsame, fun n y hy hne hclaiming => ?_⟩
          have hnq : n ≠ q.number := by
            rintro rfl
            obtain rfl : q = y := by simpa [State.order_of_mem hnodup hmem] using hy
            exact hne hgroup
          exact hothers n y ((phaseStart_holds hnq s).order hclaiming hy) hne hclaiming

/-- The record as the state holds it under its number. -/
def State.nowOf (t : State) (x : Order) : Order := (t.order? x.number).getD x

/-- The records of a state are found under the numbers of another that lists the same. -/
theorem orders_eq_of_numbers {s t : State} (hnodup : s.numbers.Nodup) (hnumbers : t.numbers = s.numbers) :
    t.seq.orders = s.seq.orders.map t.nowOf := by
  have hlength : t.seq.orders.length = s.seq.orders.length := by
    simpa [State.numbers] using congrArg List.length hnumbers
  refine List.ext_getElem (by simpa using hlength) fun i hi hi' => ?_
  have hn : t.seq.orders[i].number = (s.seq.orders[i]'(hlength ▸ hi)).number := by
    have h := List.getElem_of_eq hnumbers (i := i) (by simpa [State.numbers] using hi)
    simpa [State.numbers] using h
  have hfound : t.order? t.seq.orders[i].number = some t.seq.orders[i] :=
    State.order_of_mem (hnumbers ▸ hnodup : t.numbers.Nodup) (List.getElem_mem hi)
  simp [State.nowOf, ← hn, hfound]

theorem find_map_of_fixed {xs : List Order} {p : Order → Bool} {f : Order → Order}
    (h : ∀ x ∈ xs, p (f x) = p x ∧ (p x = true → f x = x)) : (xs.map f).find? p = xs.find? p := by
  induction xs with
  | nil => rfl
  | cons x xs ih =>
    obtain ⟨hp, hfixed⟩ := h x List.mem_cons_self
    rw [List.map_cons, List.find?_cons, List.find?_cons, hp, ih fun y hy => h y (List.mem_cons_of_mem _ hy)]
    cases hx : p x with
    | false => rfl
    | true => exact congrArg some (hfixed hx)

/-- R14: the starts in one group leave the queue of another that has no active order. -/
theorem advanceGroup_queue {g h : Group} {s : State} (hne : h ≠ g) (hrun : s.supply.mode = .run) (hnodup : s.numbers.Nodup)
    (hidle : s.active? g = none) :
    (advanceGroup h s).active? g = none ∧ (advanceGroup h s).oldestQueued? g = s.oldestQueued? g := by
  obtain ⟨hsame, hothers⟩ := startQueued_others h (s.seq.orders.length + 1) s hrun hnodup
  have hnumbers : (advanceGroup h s).numbers = s.numbers := (advanceGroup_keeps (G := True) h s).numbers
  have hkept (f : OrderState → Bool) (x : Order) (hx : x ∈ s.seq.orders) :
      (decide (((advanceGroup h s).nowOf x).group = g) && f ((advanceGroup h s).nowOf x).state) =
          (decide (x.group = g) && f x.state) ∧
        ((decide (x.group = g) && f x.state) = true → (advanceGroup h s).nowOf x = x) := by
    have hfound := State.order_of_mem hnodup hx
    by_cases hgroup : x.group = g
    · have hclaiming : x.state ≠ .claiming := fun hc => List.find?_eq_none.1 hidle x hx (by simp [hgroup, hc, OrderState.isActive])
      have hx' : (advanceGroup h s).order? x.number = some x :=
        hothers x.number x hfound (by rw [hgroup]; exact Ne.symm hne) hclaiming
      simp [State.nowOf, hx', hgroup]
    · obtain ⟨y, hy, hygroup⟩ := hsame x.number x hfound
      have hy' : (advanceGroup h s).order? x.number = some y := hy
      simp [State.nowOf, hy', hygroup, hgroup]
  have horders := orders_eq_of_numbers hnodup hnumbers
  have hfind (f : OrderState → Bool) :
      (advanceGroup h s).seq.orders.find? (fun o => decide (o.group = g) && f o.state) =
        s.seq.orders.find? fun o => decide (o.group = g) && f o.state := by
    rw [horders]
    exact find_map_of_fixed (hkept f)
  exact ⟨(hfind (·.isActive)).trans hidle, hfind fun x => decide (x = .queued)⟩

/-- R14: a record that is not QUEUED stays so, at its phase, through the starts in a group. -/
theorem startQueued_begun (g : Group) (n : Nat) (k : Nat) : ∀ (s : State) (y : Order), s.numbers.Nodup → s.order? n = some y →
    y.state ≠ .queued → ∃ z, (startQueued g k s).order? n = some z ∧ z.state ≠ .queued ∧ z.index = y.index := by
  induction k with
  | zero => exact fun s y _ hy hstate => ⟨y, hy, hstate, rfl⟩
  | succ k ih =>
    intro s y hnodup hy hstate
    unfold startQueued
    split
    · exact ⟨y, hy, hstate, rfl⟩
    next hfree =>
      have hnone : s.active? g = none := by simpa using hfree
      split
      · exact ⟨y, (State.order_congr (by simp) n).trans hy, hstate, rfl⟩
      next q hq =>
        split
        · exact ⟨y, hy, hstate, rfl⟩
        · obtain ⟨hmem, -, hqueued⟩ := State.mem_of_oldestQueued hq
          have hne : n ≠ q.number := by
            rintro rfl
            obtain rfl : q = y := by simpa [State.order_of_mem hnodup hmem] using hy
            exact hstate hqueued
          have hkeeps := phaseStart_keeps (G := True) (State.live_of_oldestQueued hnone hq)
          obtain h | ⟨-, h⟩ := phaseStart_holds hne s y hy
          · exact ih _ y (hkeeps.numbers ▸ hnodup) h hstate
          · exact ih _ y.moves (hkeeps.numbers ▸ hnodup) h (by simp [Order.moves])

/-- R14, R15: the oldest QUEUED record of an idle group reaches its first phase start. -/
theorem advanceGroup_starts {g : Group} {q : Order} {p : Phase} {s : State} (hrun : s.supply.mode = .run)
    (hproving : s.proving = false) (hidle : s.active? g = none) (hq : s.oldestQueued? g = some q)
    (hone : s.numbers.count q.number = 1) (hp : (s.fixTilt q).phase? = some p) :
    (advanceGroup g s).begins (s.fixTilt q) fun y =>
      claimed q.number s.flow.waiting = false ∧ claimed q.number s.flow.granted = false →
        s.startsPhase (advanceGroup g s) p y := by
  obtain ⟨hmem, hgroup, -⟩ := State.mem_of_oldestQueued hq
  have hfound := State.order_of_count hmem hone
  have hkeeps := phaseStart_keeps (G := True) (State.live_of_oldestQueued hidle hq)
  have heq : advanceGroup g s = startQueued g s.seq.orders.length (phaseStart q.number s) := by
    unfold advanceGroup
    rw [startQueued, hidle, hq, hproving]
    rfl
  obtain ⟨y, hy, hb, hstarts⟩ := phaseStart_begins hrun hfound hp
  have hn : (s.fixTilt q).number = q.number := (fixTilt_same s q).1
  have hstarts' (hfree : claimed q.number s.flow.waiting = false ∧ claimed q.number s.flow.granted = false) :
      s.startsPhase (phaseStart q.number s) p y :=
    ((State.tiltFixed_sees hfound).startsPhase _ _ (hb.number.trans hn)).1 (hstarts hfree.1 hfree.2)
  rw [heq]
  obtain hended | hactive := OrderState.begun_cases hb.state
  · exact ⟨y, startQueued_holds g (by simp [hended]) (by simp [hended]) _ _ (by rw [hn, hkeeps.numbers]; exact hone) hy, hb,
      fun hfree => State.startsPhase_of_ended hended (hstarts' hfree)⟩
  · obtain ⟨x, hx⟩ := State.exists_active (State.mem_of_order hy).1 hactive
    rw [hb.group, (s.fixTilt_keeps q).1, hgroup] at hx
    have hstays : startQueued g s.seq.orders.length (phaseStart q.number s) = phaseStart q.number s := by
      cases s.seq.orders.length with
      | zero => rfl
      | succ k =>
        unfold startQueued
        rw [hx]
        rfl
    rw [hstays]
    exact ⟨y, hy, hb, hstarts'⟩

/-- R14: the records that the end of a test starts. -/
def State.heads (s : State) : List Order :=
  s.seq.orders.filter fun o => decide ((s.oldestQueued? o.group).map (·.number) = some o.number)

theorem startAllQueued_eq (s : State) : startAllQueued s = s.heads.foldl (fun s o => advanceGroup o.group s) s := rfl

theorem State.mem_heads {s : State} (hnodup : s.numbers.Nodup) {x : Order} :
    x ∈ s.heads ↔ s.oldestQueued? x.group = some x := by
  unfold State.heads
  rw [List.mem_filter, decide_eq_true_eq]
  refine ⟨fun ⟨hmem, hoption⟩ => ?_, fun h => ⟨(State.mem_of_oldestQueued h).1, by rw [h]; rfl⟩⟩
  obtain ⟨z, hz, hn⟩ := Option.map_eq_some_iff.1 hoption
  obtain ⟨hzmem, -, -⟩ := State.mem_of_oldestQueued hz
  obtain rfl := List.inj_on_of_nodup_map hnodup hzmem hmem hn
  exact hz

section Fold

variable {g : Group} {n : Nat}

/-- R14: the starts in other groups leave the queue of a group without an active order. -/
theorem advanceAll_queue (xs : List Order) : ∀ s : State, s.supply.mode = .run → s.numbers.Nodup → s.active? g = none →
    (∀ x ∈ xs, x.group ≠ g) →
    ∃ u, xs.foldl (fun s o => advanceGroup o.group s) s = u ∧ Keeps True s u ∧ u.active? g = none ∧
      u.oldestQueued? g = s.oldestQueued? g := by
  induction xs with
  | nil => exact fun s _ _ hidle _ => ⟨s, rfl, .refl s, hidle, rfl⟩
  | cons x xs ih =>
    intro s hrun hnodup hidle hne
    obtain ⟨hidle', hqueue⟩ := advanceGroup_queue (hne x List.mem_cons_self) hrun hnodup hidle
    have hkeeps := advanceGroup_keeps (G := True) x.group s
    obtain ⟨u, hu, hkeeps', h1, h2⟩ := ih (advanceGroup x.group s) (by rw [hkeeps.supply]; exact hrun) (hkeeps.numbers ▸ hnodup)
      hidle' fun y hy => hne y (List.mem_cons_of_mem _ hy)
    exact ⟨u, hu, hkeeps.trans hkeeps', h1, h2.trans hqueue⟩

theorem advanceAll_begun (xs : List Order) : ∀ (s : State) (y : Order), s.numbers.Nodup → s.order? n = some y →
    y.state ≠ .queued →
    ∃ z, (xs.foldl (fun s o => advanceGroup o.group s) s).order? n = some z ∧ z.state ≠ .queued ∧ z.index = y.index := by
  induction xs with
  | nil => exact fun s y _ hy hstate => ⟨y, hy, hstate, rfl⟩
  | cons x xs ih =>
    intro s y hnodup hy hstate
    obtain ⟨z, hz, hzstate, hindex⟩ := startQueued_begun x.group n (s.seq.orders.length + 1) s y hnodup hy hstate
    obtain ⟨w, hw, hwstate, hwindex⟩ := ih (advanceGroup x.group s) z ((advanceGroup_keeps (G := True) x.group s).numbers ▸ hnodup)
      hz hzstate
    exact ⟨w, hw, hwstate, hwindex.trans hindex⟩

theorem advanceAll_tests (xs : List Order) : ∀ s : State,
    (xs.foldl (fun s o => advanceGroup o.group s) s).faults.tests = s.faults.tests := by
  induction xs with
  | nil => exact fun s => rfl
  | cons x xs ih => exact fun s => (ih _).trans (startQueued_tests ..)

end Fold

theorem startAllQueued_tests (s : State) : (startAllQueued s).faults.tests = s.faults.tests := advanceAll_tests _ s

section Starts

variable {s : State} {q : Order} (hrun : s.supply.mode = .run) (hnodup : s.numbers.Nodup) (hproving : s.proving = false)
  (hidle : s.noActive)

include hnodup in
/-- With nothing QUEUED nothing starts. -/
theorem startAllQueued_of_none (hnone : ∀ x ∈ s.seq.orders, x.state ≠ .queued) : startAllQueued s = s := by
  have hheads : s.heads = [] := List.eq_nil_iff_forall_not_mem.2 fun x hx => by
    obtain ⟨hmem, -, hqueued⟩ := State.mem_of_oldestQueued ((State.mem_heads hnodup).1 hx)
    exact hnone x hmem hqueued
  rw [startAllQueued_eq, hheads]
  rfl

theorem fixTilt_phase {o : Order} (h : o.phase? ≠ none) (s : State) : ∃ p, (s.fixTilt o).phase? = some p := by
  obtain ⟨-, -, -, hindex, -, -, -, -, hlength, -, -⟩ := s.fixTilt_keeps o
  have hlt : o.index < o.phases.length := by
    by_contra hge
    exact h (List.getElem?_eq_none (by omega))
  exact ⟨_, List.getElem?_eq_getElem (l := (s.fixTilt o).phases) (i := (s.fixTilt o).index) (by omega)⟩

include hrun hnodup hproving hidle

/-- R14, R128: the oldest QUEUED record of each group is QUEUED no more, at its phase. -/
theorem startAllQueued_begins {g : Group} (hq : s.oldestQueued? g = some q) (hphase : q.phase? ≠ none) :
    ∃ y, (startAllQueued s).order? q.number = some y ∧ y.state ≠ .queued ∧ y.index = q.index := by
  obtain ⟨-, hgroup, -⟩ := State.mem_of_oldestQueued hq
  subst hgroup
  have hmem : q ∈ s.heads := (State.mem_heads hnodup).2 hq
  obtain ⟨before, after, hsplit⟩ := List.append_of_mem hmem
  have hheads : (s.heads.map (·.number)).Nodup := hnodup.sublist (List.filter_sublist.map _)
  have hbefore : ∀ x ∈ before, x.group ≠ q.group := by
    intro x hx hgroup
    have hxq : s.oldestQueued? x.group = some x := (State.mem_heads hnodup).1 (by rw [hsplit]; exact List.mem_append_left _ hx)
    rw [hgroup, hq] at hxq
    obtain rfl : q = x := by simpa using hxq
    rw [hsplit, List.map_append, List.nodup_append] at hheads
    exact hheads.2.2 _ (List.mem_map_of_mem hx) _ List.mem_cons_self rfl
  obtain ⟨u, hu, hkeeps, huidle, huqueue⟩ := advanceAll_queue before s hrun hnodup (hidle q.group) hbefore
  have huproving : u.proving = false := by rw [State.proving, hkeeps.prove]; exact hproving
  have hunodup : u.numbers.Nodup := hkeeps.numbers ▸ hnodup
  obtain ⟨p, hp⟩ := fixTilt_phase hphase u
  obtain ⟨y, hy, hb, -⟩ := advanceGroup_starts (by rw [hkeeps.supply]; exact hrun) huproving huidle (huqueue.trans hq)
    (State.count_of_mem hunodup (State.mem_of_oldestQueued (huqueue.trans hq)).1) hp
  rw [(fixTilt_same u q).1] at hy
  obtain ⟨z, hz, hzstate, hindex⟩ := advanceAll_begun after _ y ((advanceGroup_keeps (G := True) q.group u).numbers ▸ hunodup) hy
    fun h => by simpa [h, OrderState.begun] using hb.state
  refine ⟨z, ?_, hzstate, hindex.trans (hb.index.trans (u.fixTilt_keeps q).2.2.2.1)⟩
  rw [startAllQueued_eq, hsplit, List.foldl_append, List.foldl_cons, hu]
  exact hz

/-- R14, R15, R128: a record that waits alone starts as a first phase does. -/
theorem startAllQueued_alone (honly : ∀ x ∈ s.seq.orders, x.state = .queued ↔ x = q) (hfound : s.order? q.number = some q)
    {p : Phase} (hp : (s.fixTilt q).phase? = some p) :
    (startAllQueued s).begins (s.fixTilt q) fun y =>
      claimed q.number s.flow.waiting = false ∧ claimed q.number s.flow.granted = false →
        s.startsPhase (startAllQueued s) p y := by
  obtain ⟨hmem, -⟩ := State.mem_of_order hfound
  have hqueued := (honly q hmem).2 rfl
  have hq : s.oldestQueued? q.group = some q := by
    cases hfind : s.oldestQueued? q.group with
    | none => exact absurd (List.find?_eq_none.1 hfind q hmem) (by simp [hqueued])
    | some z =>
      obtain ⟨hzmem, -, hzqueued⟩ := State.mem_of_oldestQueued hfind
      rw [(honly z hzmem).1 hzqueued]
  have hall (x : Order) (hx : x ∈ s.heads) : x = q := by
    obtain ⟨hxmem, -, hxqueued⟩ := State.mem_of_oldestQueued ((State.mem_heads hnodup).1 hx)
    exact (honly x hxmem).1 hxqueued
  have hheads : s.heads = [q] := by
    have hmemq : q ∈ s.heads := (State.mem_heads hnodup).2 hq
    have hdistinct : s.heads.Nodup := (hnodup.sublist (List.filter_sublist.map _)).of_map
    refine List.perm_singleton.1 ((List.perm_ext_iff_of_nodup hdistinct (List.nodup_singleton q)).2 fun x => ?_)
    rw [List.mem_singleton]
    exact ⟨hall x, fun h => h ▸ hmemq⟩
  rw [startAllQueued_eq, hheads]
  exact advanceGroup_starts hrun hproving (hidle q.group) hq (State.count_of_mem hnodup (State.mem_of_oldestQueued hq).1) hp

end Starts

/-! ### The end of the test -/

/-- R128: the verdict of the test. -/
def State.verdict (s : State) : ProveResult := if s.allPass then .passed else .failed

/-- R128: the proving record at the end of the test. -/
def State.proveJudged (s : State) : State :=
  s.modProve fun x =>
    { x with overall := s.verdict, failures := x.found, endedAt := some s.supply.time, driving := none, drive := none, gap := none }

/-- R128: the state in which the waiting records start. -/
def State.proveReported (s : State) : State :=
  if s.allPass then removeFaults (·.is .provingFailed .none) s.proveJudged else raise .provingFailed .none s.proveJudged

theorem FaultTable.remove_flags {t : FaultTable} {p : Entry → Bool} (hsound : t.sound)
    (hp : ∀ e, p e = true → e.inhibit = Inhibits.none) : (t.remove p).flags = t.flags := by
  have hunion (x : Inhibits) : x.union Inhibits.none = x := by simp [Inhibits.union, Inhibits.none]
  have hfold (l : List Entry) : ∀ x : Inhibits, flagsOf (l.filter fun e => !p e) x = flagsOf l x := by
    induction l with
    | nil => exact fun x => rfl
    | cons e l ih =>
      intro x
      cases he : p e with
      | true =>
        rw [List.filter_cons_of_neg (by simp [he]), ih]
        simp [flagsOf, hp e he, hunion]
      | false =>
        rw [List.filter_cons_of_pos (by simp [he])]
        exact ih _
  obtain ⟨-, -, hflags⟩ := hsound
  rw [hflags]
  exact hfold _ _

/-- R165: an entry of the test sets no flag. -/
theorem inhibit_of_test {e : Entry} (h : e.code = .provingFailed) : e.inhibit = Inhibits.none := by
  simp [Entry.inhibit, h, FaultCode.isStop]

/-- R12: what one entry bars of a kind depends on its code and subject. -/
theorem Entry.admits_congr {e f : Entry} (hcode : f.code = e.code) (hsubject : f.subject = e.subject) (k : OrderKind) :
    f.admits k = e.admits k := by
  simp only [Entry.admits, hcode, hsubject]

/-- R12: entries that set no flag bar no kind. -/
theorem FaultTable.remove_admits {t : FaultTable} {p : Entry → Bool} (hp : ∀ e, p e = true → e.inhibit = Inhibits.none)
    (g : Group) (k : OrderKind) : (t.remove p).admits g k = t.admits g k := by
  have hgroup : Inhibits.none.group g = false := by cases g <;> rfl
  have hall : (t.entries.filter fun e => !p e).all (fun e => !(e.inhibit.group g) || e.admits k) =
      t.entries.all fun e => !(e.inhibit.group g) || e.admits k := by
    rw [List.all_filter]
    congr 1
    funext e
    cases he : p e with
    | false => rfl
    | true => simp [hp e he, hgroup]
  unfold FaultTable.admits FaultTable.remove FaultTable.recompute
  dsimp only
  rw [hall]

theorem FaultTable.raise_admits {t : FaultTable} {code : FaultCode} (hcode : code.isStop = false) (x : Subject) (now : U32)
    (hroom : t.entries.length < 16) (g : Group) (k : OrderKind) : (t.raise code x now).admits g k = t.admits g k := by
  have hgroup : Inhibits.none.group g = false := by cases g <;> rfl
  have hrecur (e : Entry) : (!((if e.is code x then e.recur now else e).inhibit.group g) ||
      (if e.is code x then e.recur now else e).admits k) = (!(e.inhibit.group g) || e.admits k) := by
    split
    · rw [Entry.inhibit_congr (e.recur_code now) (e.recur_subject now),
        Entry.admits_congr (e.recur_code now) (e.recur_subject now)]
    · rfl
  have hfresh : (Entry.fresh code x now).inhibit = Inhibits.none := by simp [Entry.inhibit, Entry.fresh, hcode]
  rw [FaultTable.raise_of_room now hroom]
  split
  · unfold FaultTable.admits
    dsimp only
    rw [List.all_map]
    exact congrArg _ (congrArg t.entries.all (funext hrecur))
  · unfold FaultTable.admits FaultTable.recompute
    simp [hfresh, hgroup]

section End

variable {s : State} (hsound : s.faults.sound) (hroom : s.faults.entries.length < 16)

include hsound hroom

theorem endProve_eq : endProve s = startAllQueued s.proveReported := by
  unfold endProve State.proveReported State.proveJudged State.verdict
  dsimp only
  refine congrArg startAllQueued ?_
  split
  next hpass =>
    refine reportFlags_of_eq ?_
    rw [removeFaults_faults]
    exact FaultTable.remove_flags hsound fun e he => inhibit_of_test ((e.is_iff _ _).1 he).1
  next hfail => exact raiseFault_of_warn hsound hroom rfl

theorem State.proveReported_flags : s.proveReported.faults.flags = s.faults.flags := by
  unfold State.proveReported
  split
  · rw [removeFaults_faults]
    exact FaultTable.remove_flags hsound fun e he => inhibit_of_test ((e.is_iff _ _).1 he).1
  · rw [raise_faults]
    exact FaultTable.raise_flags_of_warn _ hsound hroom rfl

omit hsound in
/-- R12: nor does it bar a kind of order. -/
theorem State.proveReported_admits (g : Group) (k : OrderKind) :
    s.proveReported.faults.admits g k = s.faults.admits g k := by
  unfold State.proveReported
  split
  · rw [removeFaults_faults]
    exact FaultTable.remove_admits (fun e he => inhibit_of_test ((e.is_iff _ _).1 he).1) g k
  · rw [raise_faults]
    exact FaultTable.raise_admits rfl _ _ hroom g k

omit hsound in
/-- R128: the entry of the test is gone after a pass, and ACTIVE after a failure. -/
theorem State.proveReported_tests :
    (s.allPass = true → s.proveReported.faults.tests = []) ∧
      (s.allPass = false →
        ∃ e ∈ s.proveReported.faults.tests, e.code = .provingFailed ∧ e.subject = .none ∧ e.active = true) := by
  unfold State.proveReported
  refine ⟨fun hpass => ?_, fun hfail => ?_⟩
  · rw [if_pos hpass, removeFaults_faults]
    refine List.filter_eq_nil_iff.2 fun e he => ?_
    have := (List.mem_filter.1 he).2
    simpa using this
  · rw [if_neg (by simp [hfail]), raise_faults]
    obtain ⟨e, hmem, hcode, hsubject, hactive⟩ := FaultTable.raise_active s.proveJudged.supply.time .provingFailed .none
      (t := s.proveJudged.faults) hroom
    exact ⟨e, List.mem_filter.2 ⟨hmem, (e.is_iff _ _).2 ⟨hcode, hsubject⟩⟩, hcode, hsubject, hactive⟩

end End

/-- R128: the whole test is passed. -/
theorem State.allPass_iff (s : State) :
    s.allPass = true ↔ ∀ ch : Channel, s.fitted (channelGroup ch) = true → s.drive.prove.results[ch] = .pass := by
  have hall (x : Channel) : x ∈ allChannels ↔ True := iff_true_intro (mem_allChannels x)
  simp only [State.allPass, List.all_filter, List.all_eq_true, hall, true_imp_iff, Bool.or_eq_true, Bool.not_eq_true',
    decide_eq_true_eq]
  exact forall_congr' fun ch => by cases s.fitted (channelGroup ch) <;> simp

@[simp] theorem State.proveReported_frame (s : State) :
    s.proveReported.supply = s.supply ∧ s.proveReported.fitment = s.fitment ∧ s.proveReported.vehicle = s.vehicle ∧
      s.proveReported.operator = s.operator ∧ s.proveReported.seq = s.seq ∧ s.proveReported.flow = s.flow ∧
      s.proveReported.trackers = s.trackers ∧ s.proveReported.beacon = s.beacon ∧
      s.proveReported.drive = s.proveJudged.drive := by
  unfold State.proveReported
  split <;> simp [State.proveJudged]

section Last

variable (c : Channel) (res : ChanResult) (s : State)

/-- R128: the state in which the waiting records start after the last drive. -/
def State.testOver : State := (driveOver c res s).proveReported

theorem State.testOver_frame :
    (s.testOver c res).supply = s.supply ∧ (s.testOver c res).fitment = s.fitment ∧ (s.testOver c res).vehicle = s.vehicle ∧
      (s.testOver c res).operator = s.operator ∧ (s.testOver c res).seq = s.seq ∧ (s.testOver c res).flow = s.flow ∧
      (s.testOver c res).trackers = s.trackers ∧ (s.testOver c res).beacon = s.beacon := by
  simp [State.testOver]

theorem State.testOver_drive :
    (s.testOver c res).drive.prove =
      { s.drive.prove with
        results := s.drive.prove.results.set c res
        overall := (driveOver c res s).verdict
        failures := ((s.drive.prove.results.set c res).toList.filter fun x => decide (x = .open_) || decide (x = .short)).length
        endedAt := some s.supply.time, next := c.val + 1, driving := none, drive := none, gap := none } ∧
      (s.testOver c res).drive.chans = s.drive.chans := by
  obtain ⟨hprove, hchans⟩ := driveOver_record c res s
  have hdrive : (s.testOver c res).drive = (driveOver c res s).proveJudged.drive := by
    simp [State.testOver]
  rw [hdrive]
  refine ⟨?_, hchans⟩
  simp only [State.proveJudged, State.modProve, hprove, Prove.found, driveOver_frame]

variable {c res s} (hsound : s.faults.sound) (hroom : s.faults.entries.length < 16)

include hsound hroom

/-- What a phase start reads then is as before the test's end, but for its verdict. -/
theorem State.testOver_sees {v : ProveResult} (hv : (driveOver c res s).verdict = v) (n : Nat) :
    (s.testOver c res).SeesAs (s.modProve fun x => { x with overall := v }) n := by
  obtain ⟨hsupply, hfit, hvehicle, hoperator, hseq, hflow, htrackers, hbeacon⟩ := s.testOver_frame c res
  obtain ⟨hprove, hchans⟩ := s.testOver_drive c res
  have hfaults : (driveOver c res s).faults = s.faults := by simp
  exact
    { fitment := hfit
      vehicle := hvehicle
      operator := hoperator
      health := fun l => by simp only [State.lamp, hbeacon]; rfl
      referenced := fun a => by simp only [State.tracker, htrackers]; rfl
      pos := fun a => by simp only [State.tracker, htrackers]; rfl
      proven := by rw [hprove]; exact hv
      chan := fun ch => by simp only [State.chan, hchans]; rfl
      flags := by
        rw [State.testOver, State.proveReported_flags (by rw [hfaults]; exact hsound) (by rw [hfaults]; exact hroom), hfaults]
        rfl
      admits := fun g k => by
        rw [State.testOver, State.proveReported_admits (by rw [hfaults]; exact hroom), hfaults]
        rfl
      others := fun g => by simp only [State.idleBut, hseq]; rfl }

theorem finishDrive_testOver (hlast : s.nextVisit (c.val + 1) = none) :
    finishDrive c res s = startAllQueued (s.testOver c res) := by
  have hfaults : (driveOver c res s).faults = s.faults := by simp
  rw [finishDrive_of_last hlast]
  exact endProve_eq (by rw [hfaults]; exact hsound) (by rw [hfaults]; exact hroom)

end Last

section Concludes

variable {c : Channel} {s : State} (hrun : s.supply.mode = .run) (hlast : s.nextVisit (c.val + 1) = none)
  (hsound : s.faults.sound) (hroom : s.faults.entries.length < 16) (hidle : s.noActive)
  (hnodup : (s.seq.orders.map (·.number)).Nodup) (res : ChanResult)

theorem State.testOver_ready (hrun : s.supply.mode = .run) (hidle : s.noActive)
    (hnodup : (s.seq.orders.map (·.number)).Nodup) :
    (s.testOver c res).supply.mode = .run ∧ (s.testOver c res).numbers.Nodup ∧ (s.testOver c res).proving = false ∧
      (s.testOver c res).noActive := by
  obtain ⟨hsupply, -, -, -, hseq, -, -, -⟩ := s.testOver_frame c res
  obtain ⟨hprove, -⟩ := s.testOver_drive c res
  refine ⟨by rw [hsupply]; exact hrun, by rw [State.numbers, hseq]; exact hnodup, ?_, fun g => ?_⟩
  · rw [State.proving, hprove]
    unfold State.verdict
    dsimp only
    split <;> rfl
  · exact (State.active_congr (by rw [hseq]) g).trans (hidle g)

include hrun hlast hsound hroom hidle hnodup

/-- R128: a record that waits alone at the end of the test. -/
theorem finishDrive_starts {t : State} (ht : t.Matches (finishDrive c res s)) {v : ProveResult}
    (hv : (driveOver c res s).verdict = v) {q : Order} (honly : ∀ x ∈ s.seq.orders, x.state = .queued ↔ x = q)
    (hfound : s.order? q.number = some q) (hphase : q.phase? ≠ none) (hwaiting : claimed q.number s.flow.waiting = false)
    (hgranted : claimed q.number s.flow.granted = false) :
    ∃ (y : Order) (p : Phase), t.order? q.number = some y ∧ y.group = q.group ∧ y.kind = q.kind ∧ y.index = q.index ∧
      (q.kind ≠ .tiltTo → y.phases = q.phases) ∧ y.phase? = some p ∧
      (s.modProve fun x => { x with overall := v }).startsPhase t p y := by
  obtain ⟨hurun, hunodup, huproving, huidle⟩ := State.testOver_ready (c := c) res hrun hidle hnodup
  obtain ⟨-, -, -, -, hseq, hflow, -, -⟩ := s.testOver_frame c res
  obtain ⟨p, hp⟩ := fixTilt_phase hphase (s.testOver c res)
  have halone := startAllQueued_alone hurun hunodup huproving huidle (by rw [hseq]; exact honly)
    ((State.order_congr (by rw [hseq]) _).trans hfound) hp
  rw [finishDrive_testOver hsound hroom hlast] at ht
  obtain ⟨y, hy, hb, hstarts⟩ := ht.begins halone
  have hn : ((s.testOver c res).fixTilt q).number = q.number := (fixTilt_same _ q).1
  obtain ⟨hgroup, hkind, -, hindex, -⟩ := (s.testOver c res).fixTilt_keeps q
  refine ⟨y, p, hn ▸ hy, hb.group.trans hgroup, hb.kind.trans hkind, hb.index.trans hindex, fun htilt => ?_, hb.phase.trans hp, ?_⟩
  · rw [hb.phases, State.fixTilt_of_kind htilt]
  · exact ((State.testOver_sees hsound hroom hv q.number).startsPhase t p (hb.number.trans hn)).1
      (hstarts ⟨by rw [hflow]; exact hwaiting, by rw [hflow]; exact hgranted⟩)

/-- R14, R128: with nothing waiting the end of the test reaches no order. -/
theorem finishDrive_of_none (hnone : ∀ x ∈ s.seq.orders, x.state ≠ .queued) :
    finishDrive c res s = s.testOver c res := by
  obtain ⟨-, hunodup, -, -⟩ := State.testOver_ready (c := c) res hrun hidle hnodup
  obtain ⟨-, -, -, -, hseq, -, -, -⟩ := s.testOver_frame c res
  rw [finishDrive_testOver hsound hroom hlast]
  exact startAllQueued_of_none hunodup (by rw [hseq]; exact hnone)

theorem finishDrive_begins {g : Group} {q : Order} (hq : s.oldestQueued? g = some q) (hphase : q.phase? ≠ none) :
    ∃ y, (finishDrive c res s).order? q.number = some y ∧ y.state ≠ .queued ∧ y.index = q.index := by
  obtain ⟨hurun, hunodup, huproving, huidle⟩ := State.testOver_ready (c := c) res hrun hidle hnodup
  obtain ⟨-, -, -, -, hseq, -, -, -⟩ := s.testOver_frame c res
  rw [finishDrive_testOver hsound hroom hlast]
  exact startAllQueued_begins hurun hunodup huproving huidle (by rw [State.oldestQueued?, hseq]; exact hq) hphase

end Concludes

/-- R127 in the words of the statement. -/
theorem driveOver_pair_match {c : Channel} {s : State} (res : ChanResult)
    (heven : ∀ p, channelPair c = some p → (s.chanRec? (memberChannel p .even)).isSome) (p : PairNo) :
    (driveOver c res s).pair p =
      match channelPair c, s.chanRec? (memberChannel p .even) with
      | some q, some e => if q = p then { s.pair p with dead := some e.dead, resumable := none } else s.pair p
      | _, _ => s.pair p := by
  cases hpair : channelPair c with
  | none => exact driveOver_pair_of_alone res s hpair p
  | some q =>
    obtain ⟨e, he⟩ := Option.isSome_iff_exists.1 (heven q hpair)
    rw [driveOver_pair res s hpair he]
    by_cases hqp : q = p
    · subst hqp
      rw [he]
    · cases s.chanRec? (memberChannel p .even) with
      | none => exact if_neg hqp
      | some e => exact (if_neg hqp).trans (if_neg hqp).symm

/-- R127: the 5 ms of a drive are over. -/
theorem proveOver_of_driving {c : Channel} {r : ChannelRec} {s : State} (hdriving : s.drive.prove.driving = some c)
    (hr : s.chanRec? c = some r) (current : Nat) :
    proveOver current s = finishDrive c (if current < r.openThr then .open_ else .pass) s := by
  unfold proveOver
  rw [hdriving]
  dsimp only
  rw [State.openThr_of_chanRec hr]

/-- R127: the three ends of a drive. -/
theorem driveEnds {c : Channel} {r : ChannelRec} {current : Nat} {s : State} {P : ChanResult → State → Prop}
    (hdriving : s.drive.prove.driving = some c) (hr : s.chanRec? c = some r)
    (hP : ∀ res f, f s = finishDrive c res s → ∃ t, runEvent f s = .next t ∧ P res t) :
    (current < r.openThr → ∃ t, exec (.provingDriveEnd current) s = .next t ∧ P .open_ t) ∧
      (r.openThr ≤ current → ∃ t, exec (.provingDriveEnd current) s = .next t ∧ P .pass t) ∧
      ∃ t, exec (.coilShortDetected c) s = .next t ∧ P .short t := by
  refine ⟨fun hlow => hP _ (proveOver current) ?_, fun hhigh => hP _ (proveOver current) ?_, hP _ (coilShort c) (if_pos hdriving)⟩
  · rw [proveOver_of_driving hdriving hr, if_pos hlow]
  · rw [proveOver_of_driving hdriving hr, if_neg (Nat.not_lt.2 hhigh)]

theorem FaultTable.mem_tests {t : FaultTable} {e : Entry} :
    e ∈ t.tests ↔ e ∈ t.entries ∧ e.code = .provingFailed ∧ e.subject = .none := by
  rw [FaultTable.tests, List.mem_filter, Entry.is_iff]

/-- Settles O58. -/
theorem provingVisitsTheChannels : Obligations.ProvingVisitsTheChannels := by
  refine ⟨fun c s hrun hrunning hidle hnext => ⟨fun hgap hdead => ?_, fun hwait => ?_⟩,
    fun c r current s hrun hdriving hr hmore heven => ?_,
    fun c r current s hrun hdriving hr hlast hsound hroom hidle hnodup => ?_⟩
  · have hleft : s.drive.prove.gap.left = 0 := by
      obtain h | h := hgap <;> rw [h] <;> rfl
    have hstarts := runEvent_next proveNext hrun
    rw [proveNext_starts hrunning hidle hnext hleft hdead] at hstarts
    exact hstarts
  · have hno : ¬ (s.drive.prove.gap.left = 0 ∧ ∀ p, channelPair c = some p → (s.pair p).dead = none) := by
      rintro ⟨hleft, hdead⟩
      obtain ⟨n, hn⟩ | ⟨p, hp, hne⟩ := hwait
      · rw [hn] at hleft
        cases hleft
      · exact hne (hdead p hp)
    have hwaits := runEvent_next proveNext hrun
    rw [proveNext_waits hrunning hidle hnext hno] at hwaits
    exact hwaits
  · intro after
    refine driveEnds hdriving hr fun res f hf => ?_
    obtain ⟨t, he, ht⟩ := runEvent_effect f hrun
    rw [hf, finishDrive_of_more hmore] at ht
    obtain ⟨hprove, hchans⟩ := driveOver_record c res s
    refine ⟨t, he, by rw [ht.drive]; exact hprove, by rw [ht.drive]; exact hchans, fun p => ?_, ?_, ?_, ?_⟩
    · rw [ht.pair]
      exact driveOver_pair_match res heven p
    · rw [ht.faults]; simp
    · rw [ht.records]; exact records_congr (by simp)
    · rw [ht.flow]; simp
  · intro concludes
    refine driveEnds hdriving hr fun res f hf => ?_
    obtain ⟨t, he, ht⟩ := runEvent_effect f hrun
    rw [hf] at ht
    have hover := finishDrive_testOver (res := res) hsound hroom hlast
    obtain ⟨hrecord, -⟩ := driveOver_record c res s
    obtain ⟨hprove, -⟩ := s.testOver_drive c res
    have hproved : t.drive.prove = (s.testOver c res).drive.prove := by
      rw [ht.drive, hover]
      exact (startAllQueued_keeps (G := True) _).prove
    rw [hprove] at hproved
    have htests : t.faults.tests = (s.testOver c res).faults.tests := by
      rw [ht.faults, hover]
      exact startAllQueued_tests _
    have hfaults : (driveOver c res s).faults = s.faults := by simp
    obtain ⟨hpassTests, hfailTests⟩ := State.proveReported_tests (s := driveOver c res s) (by rw [hfaults]; exact hroom)
    have hpass : (driveOver c res s).allPass = true ↔
        ∀ ch : Channel, s.fitted (channelGroup ch) = true → (s.drive.prove.results.set c res)[ch] = .pass := by
      rw [State.allPass_iff, hrecord]
      have hfitted (g : Group) : (driveOver c res s).fitted g = s.fitted g := by simp only [State.fitted, driveOver_frame]
      simp only [hfitted]
    refine ⟨t, he, ?_, ?_, ?_, ?_, ?_, ?_, fun hpassed => ?_, fun hfailed => ?_, fun hnone => ?_, fun g q hq hphase => ?_⟩
    · rw [hproved]
    · rw [hproved]
    · rw [hproved]
      simp only [Bool.decide_or]
    · rw [hproved]
    · rw [hproved]
    · rw [hproved]
    · have hall := hpass.2 hpassed
      have hverdict : (driveOver c res s).verdict = .passed := by rw [State.verdict, hall]; rfl
      refine ⟨by rw [hproved]; exact hverdict, fun q honly hfound hphase hwaiting hgranted =>
        finishDrive_starts hrun hlast hsound hroom hidle hnodup res ht hverdict honly hfound hphase hwaiting hgranted,
        fun e hmem hcode => ?_⟩
      have hin : e ∈ t.faults.tests := FaultTable.mem_tests.2 ⟨hmem, hcode⟩
      rw [htests, State.testOver, hpassTests hall] at hin
      cases hin
    · have hsome : (driveOver c res s).allPass = false := by
        rw [← Bool.not_eq_true]
        exact fun h => hfailed (hpass.1 h)
      have hverdict : (driveOver c res s).verdict = .failed := by rw [State.verdict, hsome]; rfl
      obtain ⟨e, hin, hentry⟩ := hfailTests hsome
      refine ⟨by rw [hproved]; exact hverdict, fun q honly hfound hphase hwaiting hgranted =>
        finishDrive_starts hrun hlast hsound hroom hidle hnodup res ht hverdict honly hfound hphase hwaiting hgranted,
        e, ?_, hentry⟩
      exact (FaultTable.mem_tests.1 (htests ▸ hin : e ∈ t.faults.tests)).1
    · rw [finishDrive_of_none hrun hlast hsound hroom hidle hnodup res hnone] at ht
      obtain ⟨-, -, -, -, hseq, hflow, -, -⟩ := s.testOver_frame c res
      refine ⟨ht.records.trans (records_congr (by rw [hseq])), ht.flow.trans hflow, ?_⟩
      rw [ht.faults, State.testOver, State.proveReported_flags (by rw [hfaults]; exact hsound) (by rw [hfaults]; exact hroom), hfaults]
    · obtain ⟨y, hy, hstate, hindex⟩ := finishDrive_begins hrun hlast hsound hroom hidle hnodup res hq hphase
      obtain ⟨z, hz, hsame⟩ := ht.order hy
      have hzstate : z.state = y.state := (congrArg Order.state hsame :)
      have hzindex : z.index = y.index := (congrArg Order.index hsame :)
      exact ⟨z, hz, hzstate ▸ hstate, hzindex.trans hindex⟩

end Sys2Proof.Machine
end


section
/-! PROOFS. The checks of FIT_LOCK: their order, and what each of them says (O25). -/

namespace Sys2Proof.Machine

/-! ### The first failure of an ordered list -/

/-- The check reports an earlier kind, index or field. -/
def LockCheck.before (c d : LockCheck) : Prop :=
  c.kind < d.kind ∨ c.kind = d.kind ∧ (c.index < d.index ∨ c.index = d.index ∧ c.field < d.field)

/-- A check of the list fails and reports this kind, index and field. -/
def failsAt (cs : List LockCheck) (k i f : Nat) : Prop :=
  ∃ c ∈ cs, c.ok = false ∧ c.kind = k ∧ c.index = i ∧ c.field = f

/-- The order of Table 10-5 read on kind, index and field. -/
def notAfter (k i f k' i' f' : Nat) : Prop := k < k' ∨ k = k' ∧ (i < i' ∨ i = i' ∧ f ≤ f')

theorem find_first {cs : List LockCheck} (hsorted : cs.Pairwise LockCheck.before) {c : LockCheck}
    (hc : cs.find? (fun c => !c.ok) = some c) :
    failsAt cs c.kind c.index c.field ∧ ∀ k i f, failsAt cs k i f → notAfter c.kind c.index c.field k i f := by
  have hfails : c.ok = false := by simpa using List.find?_some hc
  refine ⟨⟨c, List.mem_of_find?_eq_some hc, hfails, rfl, rfl, rfl⟩, ?_⟩
  rintro k i f ⟨d, hmem, hd, rfl, rfl, rfl⟩
  obtain ⟨-, before, after, hsplit, hok⟩ := List.find?_eq_some_iff_append.1 hc
  rw [hsplit] at hmem hsorted
  obtain ⟨-, htail, -⟩ := List.pairwise_append.1 hsorted
  obtain hin | hin := List.mem_append.1 hmem
  · have := hok d hin
    simp [hd] at this
  · obtain rfl | hin := List.mem_cons.1 hin
    · exact .inr ⟨rfl, .inr ⟨rfl, Nat.le_refl _⟩⟩
    · obtain h | ⟨h, h' | ⟨h', h''⟩⟩ := (List.pairwise_cons.1 htail).1 d hin
      · exact .inl h
      · exact .inr ⟨h, .inl h'⟩
      · exact .inr ⟨h, .inr ⟨h', Nat.le_of_lt h''⟩⟩

theorem failsAt_of_find_none {cs : List LockCheck} (h : cs.find? (fun c => !c.ok) = none) (k i f : Nat) : ¬ failsAt cs k i f := by
  rintro ⟨c, hmem, hfails, -⟩
  have := List.find?_eq_none.1 h c hmem
  simp [hfails] at this

theorem failsAt_append {cs ds : List LockCheck} {k i f : Nat} : failsAt (cs ++ ds) k i f ↔ failsAt cs k i f ∨ failsAt ds k i f := by
  simp only [failsAt, List.mem_append, or_and_right, exists_or]

/-- The list is in order, and its kinds are below k. -/
def sortedBelow (cs : List LockCheck) (k : Nat) : Prop := cs.Pairwise LockCheck.before ∧ ∀ c ∈ cs, c.kind < k

/-- A part of one kind after parts of lower kinds. -/
theorem sortedBelow.append {cs ds : List LockCheck} {k m : Nat} (hcs : sortedBelow cs k) (hds : ds.Pairwise LockCheck.before)
    (hkind : ∀ d ∈ ds, d.kind = k) (hlt : k < m) : sortedBelow (cs ++ ds) m := by
  obtain ⟨hsorted, hlow⟩ := hcs
  refine ⟨List.pairwise_append.2 ⟨hsorted, hds, fun c hc d hd => .inl ?_⟩, fun c hc => ?_⟩
  · rw [hkind d hd]
    exact hlow c hc
  · obtain hin | hin := List.mem_append.1 hc
    · exact Nat.lt_trans (hlow c hin) hlt
    · rw [hkind c hin]
      exact hlt

/-- The checks of one record: one kind, one index, growing fields. -/
structure RecordChecks (cs : List LockCheck) (k i : Nat) : Prop where
  kind : ∀ c ∈ cs, c.kind = k
  index : ∀ c ∈ cs, c.index = i
  fields : cs.Pairwise fun c d => c.field < d.field

theorem RecordChecks.sorted {cs : List LockCheck} {k i : Nat} (h : RecordChecks cs k i) : cs.Pairwise LockCheck.before :=
  (List.Pairwise.and_mem.1 h.fields).imp fun ⟨hc, hd, hlt⟩ =>
    .inr ⟨(h.kind _ hc).trans (h.kind _ hd).symm, .inr ⟨(h.index _ hc).trans (h.index _ hd).symm, hlt⟩⟩

/-- The checks of the records of one kind, in order of their indices. -/
theorem sorted_records {α : Type} {xs : List α} {f : α → List LockCheck} {k : Nat} {index : α → Nat}
    (hrecords : ∀ x, RecordChecks (f x) k (index x)) (hindices : xs.Pairwise fun x y => index x < index y) :
    (xs.flatMap f).Pairwise LockCheck.before ∧ ∀ c ∈ xs.flatMap f, c.kind = k := by
  refine ⟨List.pairwise_flatMap.2 ⟨fun x _ => (hrecords x).sorted, hindices.imp fun {x y} hlt c hc d hd => ?_⟩, fun c hc => ?_⟩
  · exact .inr ⟨((hrecords x).kind c hc).trans ((hrecords y).kind d hd).symm, .inl (by
      rw [(hrecords x).index c hc, (hrecords y).index d hd]
      exact hlt)⟩
  · obtain ⟨x, -, hin⟩ := List.mem_flatMap.1 hc
    exact (hrecords x).kind c hin

/-- The checks of a place: none while it is absent. -/
theorem RecordChecks.ofRec {α : Type} {f : α → List LockCheck} {k i : Nat} (h : ∀ r, RecordChecks (f r) k i) (x : Option α) :
    RecordChecks (ofRec f x) k i := by
  cases x with
  | none => exact ⟨by simp [Machine.ofRec], by simp [Machine.ofRec], by simp [Machine.ofRec]⟩
  | some r => exact h r

theorem failsAt_flatMap {α : Type} {xs : List α} {f : α → List LockCheck} {k i n : Nat} :
    failsAt (xs.flatMap f) k i n ↔ ∃ x ∈ xs, failsAt (f x) k i n := by
  simp only [failsAt, List.mem_flatMap]
  constructor
  · rintro ⟨c, ⟨x, hx, hc⟩, h⟩
    exact ⟨x, hx, c, hc, h⟩
  · rintro ⟨x, hx, c, hc, h⟩
    exact ⟨c, ⟨x, hx, hc⟩, h⟩

theorem failsAt_ofRec {α : Type} {f : α → List LockCheck} {x : Option α} {k i n : Nat} :
    failsAt (ofRec f x) k i n ↔ ∃ r, x = some r ∧ failsAt (f r) k i n := by
  cases x with
  | none => simp [failsAt, ofRec]
  | some r => simp [ofRec]

theorem failsAt_cons {c : LockCheck} {cs : List LockCheck} {k i f : Nat} :
    failsAt (c :: cs) k i f ↔ (c.ok = false ∧ c.kind = k ∧ c.index = i ∧ c.field = f) ∨ failsAt cs k i f := by
  simp only [failsAt, List.mem_cons, or_and_right, exists_or, exists_eq_left]

theorem failsAt_nil {k i f : Nat} : failsAt [] k i f ↔ False := by simp [failsAt]

/-! ### Pass 2 -/

/-- What a check reports. -/
def LockCheck.key (c : LockCheck) : Nat × Nat × Nat := (c.kind, c.index, c.field)

theorem lockPresence_sorted (s : State) : (lockPresence s).Pairwise LockCheck.before := by
  have hkeys : ((lockPresence s).map LockCheck.key).Pairwise fun x y =>
      x.1 < y.1 ∨ x.1 = y.1 ∧ (x.2.1 < y.2.1 ∨ x.2.1 = y.2.1 ∧ x.2.2 < y.2.2) := by
    have hlist : (lockPresence s).map LockCheck.key =
        (List.range 5).map (fun i => (2, i, 0)) ++ (List.range 12).map (fun i => (3, i, 0)) ++
          [(4, 0, 0), (5, 0, 0), (5, 1, 0), (5, 2, 0), (6, 0, 0), (7, 0, 0)] := rfl
    rw [hlist]
    decide
  exact (List.pairwise_map.1 hkeys).imp fun h => h

theorem failsAt_map {α : Type} {xs : List α} {f : α → LockCheck} {k i n : Nat} :
    failsAt (xs.map f) k i n ↔ ∃ x ∈ xs, (f x).ok = false ∧ (f x).kind = k ∧ (f x).index = i ∧ (f x).field = n := by
  simp [failsAt]

theorem needs_fails {needed present : Bool} {kind index k i f : Nat} :
    ((needs needed present kind index).ok = false ∧ (needs needed present kind index).kind = k ∧
        (needs needed present kind index).index = i ∧ (needs needed present kind index).field = f) ↔
      f = 0 ∧ k = kind ∧ i = index ∧ needed = true ∧ present = false := by
  cases needed <;> cases present <;> simp [needs, eq_comm, and_assoc, and_comm]

theorem mem_axes (a : Axis) : a ∈ Axis.all := by cases a <;> decide

theorem mem_profiles (p : Profile) : p ∈ Profile.all := by cases p <;> decide

/-- R175, Table 10-4. -/
theorem lockPresence_fails {s : State} {k i f : Nat} : failsAt (lockPresence s) k i f ↔ f = 0 ∧ s.wantsPlace k i := by
  unfold lockPresence State.wantsPlace
  simp only [failsAt_append, failsAt_map, failsAt_cons, failsAt_nil, needs_fails, or_false, Option.isSome_eq_false_iff,
    Option.isNone_iff_eq_none]
  constructor
  · rintro ((⟨a, -, hf, hk, hi, h⟩ | ⟨c, -, hf, hk, hi, h⟩) | h)
    · exact ⟨hf, .inl ⟨hk, a, hi, h⟩⟩
    · exact ⟨hf, .inr (.inl ⟨hk, c, hi, h⟩)⟩
    · obtain ⟨hf, hk, hi, -, h⟩ | ⟨hf, hk, hi, hn, h⟩ | ⟨hf, hk, hi, hn, h⟩ | ⟨hf, hk, hi, hn, h⟩ | ⟨hf, hk, hi, -, h⟩ |
        ⟨hf, hk, hi, -, h⟩ := h
      · exact ⟨hf, .inr (.inr (.inl ⟨hk, hi, h⟩))⟩
      · exact ⟨hf, .inr (.inr (.inr (.inl ⟨hk, .lift, hi, hn, h⟩)))⟩
      · exact ⟨hf, .inr (.inr (.inr (.inl ⟨hk, .tilt, hi, hn, h⟩)))⟩
      · exact ⟨hf, .inr (.inr (.inr (.inl ⟨hk, .shutter, hi, by simpa [State.needsProfile] using hn, h⟩)))⟩
      · exact ⟨hf, .inr (.inr (.inr (.inr (.inl ⟨hk, hi, h⟩))))⟩
      · exact ⟨hf, .inr (.inr (.inr (.inr (.inr ⟨hk, hi, h⟩))))⟩
  · rintro ⟨hf, ⟨hk, a, hi, h⟩ | ⟨hk, c, hi, h⟩ | ⟨hk, hi, h⟩ | ⟨hk, p, hi, hn, h⟩ | ⟨hk, hi, h⟩ | ⟨hk, hi, h⟩⟩
    · exact .inl (.inl ⟨a, mem_axes a, hf, hk, hi, h⟩)
    · exact .inl (.inr ⟨c, mem_allChannels c, hf, hk, hi, h⟩)
    · exact .inr (.inl ⟨hf, hk, hi, trivial, h⟩)
    · cases p with
      | lift => exact .inr (.inr (.inl ⟨hf, hk, hi, hn, h⟩))
      | tilt => exact .inr (.inr (.inr (.inl ⟨hf, hk, hi, hn, h⟩)))
      | shutter => exact .inr (.inr (.inr (.inr (.inl ⟨hf, hk, hi, by simpa [State.needsProfile] using hn, h⟩))))
    · exact .inr (.inr (.inr (.inr (.inr (.inl ⟨hf, hk, hi, trivial, h⟩)))))
    · exact .inr (.inr (.inr (.inr (.inr (.inr ⟨hf, hk, hi, trivial, h⟩)))))

/-! ### The terms of the interlock entries -/

theorem mem_numbered {ts : List Term} {x : Nat × Term} : x ∈ (List.range ts.length).zip ts ↔ ts[x.1]? = some x.2 := by
  rw [List.mem_iff_getElem?]
  simp only [List.getElem?_zip_eq_some]
  constructor
  · rintro ⟨i, hi, ht⟩
    obtain ⟨_, hat⟩ := List.getElem?_eq_some_iff.1 hi
    have hsame : i = x.1 := by simpa using hat
    exact hsame ▸ ht
  · intro h
    obtain ⟨hlt, -⟩ := List.getElem?_eq_some_iff.1 h
    exact ⟨x.1, List.getElem?_range hlt, h⟩

theorem termChecks_record {entry : Nat} {f : Term → List (Bool × Nat)} (hfields : ∀ t, (f t).Pairwise fun x y => x.2 < y.2)
    (hrange : ∀ t, ∀ y ∈ f t, 7 ≤ y.2 ∧ y.2 < 12) (ts : List Term) : RecordChecks (termChecks entry f ts) 8 entry := by
  have hmem {c : LockCheck} (hc : c ∈ termChecks entry f ts) : c.kind = 8 ∧ c.index = entry := by
    obtain ⟨x, -, hx⟩ := List.mem_flatMap.1 hc
    obtain ⟨y, -, rfl⟩ := List.mem_map.1 hx
    exact ⟨rfl, rfl⟩
  have hnumbers : ((List.range ts.length).zip ts).Pairwise fun x y => x.1 < y.1 := by
    refine List.pairwise_map.1 ?_
    rw [List.map_fst_zip (by simp)]
    exact List.pairwise_lt_range
  refine ⟨fun c hc => (hmem hc).1, fun c hc => (hmem hc).2, List.pairwise_flatMap.2 ⟨fun x _ => ?_, hnumbers.imp ?_⟩⟩
  · exact List.pairwise_map.2 ((hfields x.2).imp fun hlt => Nat.add_lt_add_right hlt _)
  · intro x y hlt c hc d hd
    obtain ⟨u, hu, rfl⟩ := List.mem_map.1 hc
    obtain ⟨v, hv, rfl⟩ := List.mem_map.1 hd
    have := hrange x.2 u hu
    have := hrange y.2 v hv
    dsimp only
    omega

theorem termChecks_fails {entry : Nat} {f : Term → List (Bool × Nat)} {ts : List Term} {k i n : Nat} :
    failsAt (termChecks entry f ts) k i n ↔
      k = 8 ∧ i = entry ∧ ∃ j t, ts[j]? = some t ∧ ∃ y ∈ f t, y.1 = false ∧ n = y.2 + 5 * j := by
  unfold termChecks
  simp only [failsAt_flatMap, failsAt_map, mem_numbered]
  constructor
  · rintro ⟨x, hx, y, hy, hok, rfl, rfl, rfl⟩
    exact ⟨rfl, rfl, x.1, x.2, hx, y, hy, hok, rfl⟩
  · rintro ⟨rfl, rfl, j, t, ht, y, hy, hok, rfl⟩
    exact ⟨(j, t), ht, y, hy, hok, rfl, rfl, rfl⟩

theorem mem_entries {s : State} {x : Nat × Option InterlockRec} :
    x ∈ s.entries ↔ ∃ n : Fin 24, x.1 = n.val + 1 ∧ x.2 = s.fitment.interlocks[n] := by
  unfold State.entries
  rw [List.mem_iff_getElem?]
  simp only [List.getElem?_zip_eq_some]
  constructor
  · rintro ⟨i, hi, hr⟩
    obtain ⟨hlt, h1⟩ := List.getElem?_eq_some_iff.1 hi
    obtain ⟨hlt', h2⟩ := List.getElem?_eq_some_iff.1 hr
    have hi24 : i < 24 := by simpa using hlt
    exact ⟨⟨i, hi24⟩, by simpa using h1.symm, by simpa using h2.symm⟩
  · rintro ⟨n, h1, h2⟩
    refine ⟨n.val, ?_, ?_⟩
    · rw [h1]
      simp
    · rw [h2]
      simp

theorem entries_sorted (s : State) : s.entries.Pairwise fun x y => x.1 < y.1 := by
  have hnumbers : (s.entries.map Prod.fst).Pairwise (· < ·) := by
    unfold State.entries
    rw [List.map_fst_zip (by simp)]
    decide
  exact (List.pairwise_map.1 hnumbers).imp fun h => h

/-! ### Pass 3: the order of the relations -/

theorem axisRelations_record (a : Axis) (r : AxisRec) : RecordChecks (axisRelations a r) 2 a.idx.val where
  kind := by simp [axisRelations]
  index := by simp [axisRelations]
  fields := by simp [axisRelations]

theorem channelRelations_record (c : Channel) (r : ChannelRec) : RecordChecks (channelRelations c r) 3 c.val where
  kind := by simp [channelRelations]
  index := by simp [channelRelations]
  fields := by simp [channelRelations]

theorem flowRelations_record (r : FlowRec) : RecordChecks [⟨decide (r.cold ≤ r.capacity), 4, 0, 2⟩] 4 0 where
  kind := by simp
  index := by simp
  fields := by simp

theorem profileRelations_record (s : State) (p : Profile) (r : ProfileRec) :
    RecordChecks (profileRelations s p r) 5 p.idx.val := by
  cases p with
  | lift | tilt | shutter =>
    exact ⟨by simp [profileRelations, Profile.idx], by simp [profileRelations, Profile.idx], by simp [profileRelations]⟩

theorem policyRelations_record (s : State) (r : PolicyRec) : RecordChecks (policyRelations s r) 7 0 where
  kind := by simp [policyRelations]
  index := by simp [policyRelations]
  fields := by simp [policyRelations]

theorem interlockRelations_record (n : Nat) (r : InterlockRec) : RecordChecks (interlockRelations n r) 8 n :=
  termChecks_record (by simp) (by simp) _

theorem lampsRelations_record (r : LampsRec) : RecordChecks (lampsRelations r) 9 0 where
  kind := by simp [lampsRelations]
  index := by simp [lampsRelations]
  fields := by simp [lampsRelations]

theorem lockRelations_sorted (s : State) : (lockRelations s).Pairwise LockCheck.before := by
  have haxes : Axis.all.Pairwise fun a b => a.idx.val < b.idx.val := by decide
  have hchannels : allChannels.Pairwise fun c d => c.val < d.val := by decide
  have hprofiles : Profile.all.Pairwise fun p q => p.idx.val < q.idx.val := by decide
  obtain ⟨h2, k2⟩ := sorted_records (fun a : Axis => RecordChecks.ofRec (axisRelations_record a) (s.axisRec? a))
    (haxes.filter fun a => s.fitted a.group)
  obtain ⟨h3, k3⟩ := sorted_records (fun c : Channel => RecordChecks.ofRec (channelRelations_record c) (s.chanRec? c))
    (hchannels.filter fun c => s.fitted (channelGroup c))
  have h4 := RecordChecks.ofRec flowRelations_record s.fitment.flow
  obtain ⟨h5, k5⟩ := sorted_records (fun p : Profile => RecordChecks.ofRec (profileRelations_record s p) (s.profile? p))
    (hprofiles.filter fun p => if p = Profile.shutter then s.fitted .kerb || s.fitted .road else s.fitted .lift)
  have h7 := RecordChecks.ofRec (policyRelations_record s) s.fitment.policy
  obtain ⟨h8, k8⟩ := sorted_records
    (fun x : Nat × Option InterlockRec => RecordChecks.ofRec (interlockRelations_record x.1) x.2) (entries_sorted s)
  have h9 := RecordChecks.ofRec lampsRelations_record s.fitment.lamps
  have hfirst : sortedBelow ((Axis.all.filter fun a => s.fitted a.group).flatMap fun a => ofRec (axisRelations a) (s.axisRec? a)) 3 :=
    ⟨h2, fun c hc => by rw [k2 c hc]; decide⟩
  have hall := (((((hfirst.append (m := 4) h3 k3 (by decide)).append (m := 5) h4.sorted h4.kind (by decide)).append (m := 7) h5 k5
    (by decide)).append (m := 8) h7.sorted h7.kind (by decide)).append (m := 9) h8 k8 (by decide)).append (m := 10) h9.sorted
    h9.kind (by decide)
  exact hall.1

/-! ### Pass 3: what each relation says -/

/-- The value lies outside the soft limits of the axis's record. -/
def State.outside (s : State) (a : Axis) (x : Int) : Prop :=
  ∃ r, s.axisRec? a = some r ∧ (x < r.softLower ∨ r.softUpper < x)

theorem State.outside_iff {s : State} {a : Axis} {r : AxisRec} (hr : s.axisRec? a = some r) (x : Int) :
    s.outside a x ↔ x < r.softLower ∨ r.softUpper < x := by
  simp [State.outside, hr]

theorem within_false {lim : Int × Int} {x : Int} : within lim x = false ↔ x < lim.1 ∨ lim.2 < x := by
  simp only [within, Bool.and_eq_false_iff, decide_eq_false_iff_not, not_le]

theorem axisRelations_fails {s : State} {a : Axis} {r : AxisRec} (hr : s.axisRec? a = some r) {k i f : Nat} :
    failsAt (axisRelations a r) k i f ↔ k = 2 ∧ i = a.idx.val ∧
      (f = 5 ∧ s.outside a r.home ∨ f = 7 ∧ r.softUpper ≤ r.softLower ∨ f = 11 ∧ (a = .sk ∨ a = .sr) ∧ s.outside a r.openPos) := by
  have hopen : (!(decide (a = .sk) || decide (a = .sr)) || within (r.softLower, r.softUpper) r.openPos) = false ↔
      (a = .sk ∨ a = .sr) ∧ s.outside a r.openPos := by
    rw [State.outside_iff hr, Bool.or_eq_false_iff, within_false]
    simp only [Bool.not_eq_false', Bool.or_eq_true, decide_eq_true_eq]
  have hhome : within (r.softLower, r.softUpper) r.home = false ↔ s.outside a r.home := by
    rw [State.outside_iff hr, within_false]
  unfold axisRelations
  simp only [failsAt_cons, failsAt_nil, or_false, hopen, hhome, decide_eq_false_iff_not, not_lt]
  constructor
  · rintro (⟨h, rfl, rfl, rfl⟩ | ⟨h, rfl, rfl, rfl⟩ | ⟨h, rfl, rfl, rfl⟩)
    · exact ⟨rfl, rfl, .inl ⟨rfl, h⟩⟩
    · exact ⟨rfl, rfl, .inr (.inl ⟨rfl, h⟩)⟩
    · exact ⟨rfl, rfl, .inr (.inr ⟨rfl, h⟩)⟩
  · rintro ⟨rfl, rfl, ⟨rfl, h⟩ | ⟨rfl, h⟩ | ⟨rfl, h⟩⟩
    · exact .inl ⟨h, rfl, rfl, rfl⟩
    · exact .inr (.inl ⟨h, rfl, rfl, rfl⟩)
    · exact .inr (.inr ⟨h, rfl, rfl, rfl⟩)

theorem channelRelations_fails {c : Channel} {r : ChannelRec} {k i f : Nat} :
    failsAt (channelRelations c r) k i f ↔ k = 3 ∧ i = c.val ∧
      (f = 4 ∧ c.val < 10 ∧ r.hi ≤ r.lo ∨ f = 8 ∧ r.shortThr ≤ r.openThr) := by
  unfold channelRelations
  simp only [failsAt_cons, failsAt_nil, or_false, Bool.or_eq_false_iff, decide_eq_false_iff_not, not_lt, not_le]
  constructor
  · rintro (⟨h, rfl, rfl, rfl⟩ | ⟨h, rfl, rfl, rfl⟩)
    · exact ⟨rfl, rfl, .inl ⟨rfl, h⟩⟩
    · exact ⟨rfl, rfl, .inr ⟨rfl, h⟩⟩
  · rintro ⟨rfl, rfl, ⟨rfl, h⟩ | ⟨rfl, h⟩⟩
    · exact .inl ⟨h, rfl, rfl, rfl⟩
    · exact .inr ⟨h, rfl, rfl, rfl⟩

theorem flowRelations_fails {r : FlowRec} {k i f : Nat} :
    failsAt [⟨decide (r.cold ≤ r.capacity), 4, 0, 2⟩] k i f ↔ k = 4 ∧ i = 0 ∧ f = 2 ∧ r.capacity < r.cold := by
  simp only [failsAt_cons, failsAt_nil, or_false, decide_eq_false_iff_not, not_le]
  constructor
  · rintro ⟨h, rfl, rfl, rfl⟩
    exact ⟨rfl, rfl, rfl, h⟩
  · rintro ⟨rfl, rfl, rfl, h⟩
    exact ⟨h, rfl, rfl, rfl⟩

/-- Table 10-5: the limits of the lift are those of its two cylinders. -/
theorem liftLimits_outside {s : State} {k r : AxisRec} (hk : s.axisRec? .lk = some k) (hr : s.axisRec? .lr = some r) (x : Int) :
    within s.liftLimits x = false ↔ s.outside .lk x ∨ s.outside .lr x := by
  rw [within_false, State.outside_iff hk, State.outside_iff hr]
  simp only [State.liftLimits, State.softLimits, hk, hr, Option.map_some, Option.getD_some]
  omega

theorem profileRelations_fails {s : State} (haxes : s.fitted .lift = true → ∀ a : Axis, a.group = .lift → s.axisRec? a ≠ none)
    {p : Profile} {r : ProfileRec} (hneeds : s.needsProfile p) {k i f : Nat} :
    failsAt (profileRelations s p r) k i f ↔ k = 5 ∧ i = p.idx.val ∧
      (f = 3 ∧ r.normal < r.creep ∨ f = 4 ∧ r.fast < r.normal ∨ f = 5 ∧ r.creep < r.fMin ∨
        f = 17 ∧ p = .lift ∧ r.skewStop ≤ r.skewWarn ∨ f = 18 ∧ p = .lift ∧ (s.outside .lk r.bed ∨ s.outside .lr r.bed) ∨
        f = 19 ∧ p = .tilt ∧ s.outside .tl r.level) := by
  have hlift (h : s.fitted .lift = true) (x : Int) :
      (within s.liftLimits x = false ↔ s.outside .lk x ∨ s.outside .lr x) ∧
        (within (s.softLimits .tl) x = false ↔ s.outside .tl x) := by
    obtain ⟨k, hk⟩ := Option.ne_none_iff_exists'.1 (haxes h .lk rfl)
    obtain ⟨r, hr⟩ := Option.ne_none_iff_exists'.1 (haxes h .lr rfl)
    obtain ⟨t, ht⟩ := Option.ne_none_iff_exists'.1 (haxes h .tl rfl)
    refine ⟨liftLimits_outside hk hr x, ?_⟩
    rw [State.outside_iff ht, within_false, State.softLimits, ht]
    rfl
  unfold profileRelations
  cases p with
  | lift =>
    simp only [failsAt_append, failsAt_cons, failsAt_nil, or_false, decide_eq_false_iff_not, not_le, not_lt,
      (hlift hneeds r.bed).1, Profile.idx]
    grind
  | tilt =>
    simp only [failsAt_append, failsAt_cons, failsAt_nil, or_false, decide_eq_false_iff_not, not_le,
      (hlift hneeds r.level).2, Profile.idx]
    grind
  | shutter =>
    simp only [failsAt_append, failsAt_cons, failsAt_nil, or_false, decide_eq_false_iff_not, not_le, Profile.idx]
    grind

/-- Table 10-5: an unfitted group has no stop slots. -/
theorem policyRelations_fails {s : State} {r : PolicyRec} {k i f : Nat} :
    failsAt (policyRelations s r) k i f ↔ k = 7 ∧ i = 0 ∧ ∃ (n : Fin 6) (g : Group), f = 9 + n.val ∧ g.idx.val = n.val / 2 ∧
      s.fitted g = false ∧ r.slots[n].input ≠ none := by
  unfold policyRelations
  simp only [failsAt_cons, failsAt_nil, or_false, Bool.or_eq_false_iff, Option.isNone_eq_false_iff, Option.isSome_iff_ne_none]
  constructor
  · rintro (⟨h, rfl, rfl, rfl⟩ | ⟨h, rfl, rfl, rfl⟩ | ⟨h, rfl, rfl, rfl⟩ | ⟨h, rfl, rfl, rfl⟩ | ⟨h, rfl, rfl, rfl⟩ |
      ⟨h, rfl, rfl, rfl⟩)
    · exact ⟨rfl, rfl, 0, .lift, rfl, rfl, h⟩
    · exact ⟨rfl, rfl, 1, .lift, rfl, rfl, h⟩
    · exact ⟨rfl, rfl, 2, .kerb, rfl, rfl, h⟩
    · exact ⟨rfl, rfl, 3, .kerb, rfl, rfl, h⟩
    · exact ⟨rfl, rfl, 4, .road, rfl, rfl, h⟩
    · exact ⟨rfl, rfl, 5, .road, rfl, rfl, h⟩
  · rintro ⟨rfl, rfl, n, g, rfl, hg, h⟩
    obtain ⟨n, hn⟩ := n
    have hhalf : n = 2 * g.idx.val ∨ n = 2 * g.idx.val + 1 := by
      dsimp only at hg
      omega
    cases g with
    | lift =>
      obtain rfl | rfl := hhalf
      · exact .inl ⟨h, rfl, rfl, rfl⟩
      · exact .inr (.inl ⟨h, rfl, rfl, rfl⟩)
    | kerb =>
      obtain rfl | rfl := hhalf
      · exact .inr (.inr (.inl ⟨h, rfl, rfl, rfl⟩))
      · exact .inr (.inr (.inr (.inl ⟨h, rfl, rfl, rfl⟩)))
    | road =>
      obtain rfl | rfl := hhalf
      · exact .inr (.inr (.inr (.inr (.inl ⟨h, rfl, rfl, rfl⟩))))
      · exact .inr (.inr (.inr (.inr (.inr ⟨h, rfl, rfl, rfl⟩))))

theorem itemSuits_false {t : Term} : t.itemSuits = false ↔ ¬ t.suits := by
  unfold Term.itemSuits Term.suits
  cases t.kind <;> cases t.item <;> simp

theorem interlockRelations_fails {entry : Nat} {r : InterlockRec} {k i f : Nat} :
    failsAt (interlockRelations entry r) k i f ↔ k = 8 ∧ i = entry ∧ ∃ (j : Nat) (x : Term), r.terms[j]? = some x ∧
      (f = 7 + 5 * j ∧ ¬ x.suits ∨ f = 9 + 5 * j ∧ x.kind = .axisIn ∧ x.upper < x.value) := by
  have hupper (x : Term) : (decide (x.kind ≠ .axisIn) || decide (x.value ≤ x.upper)) = false ↔
      x.kind = .axisIn ∧ x.upper < x.value := by
    rw [Bool.or_eq_false_iff]
    simp
  unfold interlockRelations
  rw [termChecks_fails]
  simp only [List.mem_cons, List.not_mem_nil, or_false, exists_eq_or_imp, exists_eq_left, itemSuits_false, hupper]
  simp only [and_comm]

theorem lampsRelations_fails {r : LampsRec} {k i f : Nat} :
    failsAt (lampsRelations r) k i f ↔ k = 9 ∧ i = 0 ∧ ∃ p : LampPair, f = 4 + p.idx.val ∧
      r.discrete[p.idx] = true ∧ r.modes[p.idx] ≠ .single := by
  unfold lampsRelations
  simp only [failsAt_cons, failsAt_nil, or_false, Bool.or_eq_false_iff, Bool.not_eq_false', decide_eq_false_iff_not]
  constructor
  · rintro (⟨h, rfl, rfl, rfl⟩ | ⟨h, rfl, rfl, rfl⟩ | ⟨h, rfl, rfl, rfl⟩)
    · exact ⟨rfl, rfl, .rear, rfl, h⟩
    · exact ⟨rfl, rfl, .side, rfl, h⟩
    · exact ⟨rfl, rfl, .flag, rfl, h⟩
  · rintro ⟨rfl, rfl, p, rfl, h⟩
    cases p with
    | rear => exact .inl ⟨h, rfl, rfl, rfl⟩
    | side => exact .inr (.inl ⟨h, rfl, rfl, rfl⟩)
    | flag => exact .inr (.inr ⟨h, rfl, rfl, rfl⟩)

theorem mem_neededProfiles {s : State} {p : Profile} :
    (p ∈ Profile.all.filter fun p => if p = Profile.shutter then s.fitted .kerb || s.fitted .road else s.fitted .lift) ↔
      s.needsProfile p := by
  rw [List.mem_filter]
  cases p <;> simp [mem_profiles, State.needsProfile]

/-- R175, Table 10-5. -/
theorem lockRelations_fails {s : State} (hplaces : ∀ k i, ¬ s.wantsPlace k i) {k i f : Nat} :
    failsAt (lockRelations s) k i f ↔ s.breaksRelation k i f := by
  have haxes (h : s.fitted .lift = true) (a : Axis) (ha : a.group = .lift) : s.axisRec? a ≠ none := fun hnone =>
    hplaces 2 a.idx.val (.inl ⟨rfl, a, rfl, by rw [ha]; exact h, hnone⟩)
  unfold lockRelations
  simp only [failsAt_append, failsAt_flatMap, failsAt_ofRec, flowRelations_fails, policyRelations_fails, lampsRelations_fails,
    channelRelations_fails, interlockRelations_fails, mem_neededProfiles]
  simp only [List.mem_filter, mem_axes, mem_allChannels, true_and, mem_entries]
  unfold State.breaksRelation
  dsimp only
  simp only [or_assoc]
  refine or_congr ?_ (or_congr ?_ (or_congr ?_ (or_congr ?_ (or_congr ?_ (or_congr ?_ ?_)))))
  · constructor
    · rintro ⟨a, hfitted, r, hr, h⟩
      obtain ⟨hk, hi, hf⟩ := (axisRelations_fails hr).1 h
      exact ⟨hk, a, r, hi, hfitted, hr, hf⟩
    · rintro ⟨hk, a, r, hi, hfitted, hr, hf⟩
      exact ⟨a, hfitted, r, hr, (axisRelations_fails hr).2 ⟨hk, hi, hf⟩⟩
  · constructor
    · rintro ⟨c, hfitted, r, hr, hk, hi, h⟩
      exact ⟨hk, c, r, hi, hfitted, hr, h⟩
    · rintro ⟨hk, c, r, hi, hfitted, hr, h⟩
      exact ⟨c, hfitted, r, hr, hk, hi, h⟩
  · constructor
    · rintro ⟨r, hr, hk, hi, hf, h⟩
      exact ⟨hk, hi, hf, r, hr, h⟩
    · rintro ⟨hk, hi, hf, r, hr, h⟩
      exact ⟨r, hr, hk, hi, hf, h⟩
  · constructor
    · rintro ⟨p, hneeds, r, hr, h⟩
      obtain ⟨hk, hi, hf⟩ := (profileRelations_fails haxes hneeds).1 h
      exact ⟨hk, p, r, hi, hneeds, hr, hf⟩
    · rintro ⟨hk, p, r, hi, hneeds, hr, hf⟩
      exact ⟨p, hneeds, r, hr, (profileRelations_fails haxes hneeds).2 ⟨hk, hi, hf⟩⟩
  · constructor
    · rintro ⟨r, hr, hk, hi, n, g, h⟩
      exact ⟨hk, hi, r, n, g, hr, h⟩
    · rintro ⟨hk, hi, r, n, g, hr, h⟩
      exact ⟨r, hr, hk, hi, n, g, h⟩
  · constructor
    · rintro ⟨x, ⟨n, hn, hx⟩, r, hr, hk, hi, j, t, ht, h⟩
      exact ⟨hk, n, r, j, t, hi.trans hn, hx ▸ hr, ht, h⟩
    · rintro ⟨hk, n, r, j, t, hi, hr, ht, h⟩
      exact ⟨(n.val + 1, s.fitment.interlocks[n]), ⟨n, rfl, rfl⟩, r, hr, hk, hi, j, t, ht, h⟩
  · constructor
    · rintro ⟨r, hr, hk, hi, p, h⟩
      exact ⟨hk, hi, r, p, hr, h⟩
    · rintro ⟨hk, hi, r, p, hr, h⟩
      exact ⟨r, hr, hk, hi, p, h⟩

/-! ### Pass 4 -/

theorem itemFitted_false {s : State} {t : Term} :
    s.itemFitted t = false ↔ (∃ a, t.item = .axis a ∧ s.fitted a.group = false) ∨ ∃ g, t.item = .group g ∧ s.fitted g = false := by
  unfold State.itemFitted
  cases t.item <;> simp

theorem lockItems_fails {s : State} {k i f : Nat} : failsAt (lockItems s) k i f ↔ k = 8 ∧ s.namesUnfitted i f := by
  unfold lockItems State.namesUnfitted
  simp only [failsAt_flatMap, failsAt_ofRec, termChecks_fails, mem_entries, List.mem_singleton, exists_eq_left, itemFitted_false]
  constructor
  · rintro ⟨x, ⟨n, hn, hx⟩, r, hr, hk, hi, j, t, ht, h, hf⟩
    exact ⟨hk, n, r, j, t, hi.trans hn, hx ▸ hr, ht, hf, h⟩
  · rintro ⟨hk, n, r, j, t, hi, hr, ht, hf, h⟩
    exact ⟨(n.val + 1, s.fitment.interlocks[n]), ⟨n, rfl, rfl⟩, r, hr, hk, hi, j, t, ht, h, hf⟩

theorem lockItems_sorted (s : State) : (lockItems s).Pairwise LockCheck.before :=
  (sorted_records (fun x : Nat × Option InterlockRec =>
    RecordChecks.ofRec (fun r : InterlockRec => termChecks_record (entry := x.1) (f := fun t => [(s.itemFitted t, 7)]) (by simp)
      (by simp) r.terms) x.2) (entries_sorted s)).1

/-! ### The four passes -/

theorem lockFailure_eq (s : State) :
    lockFailure? s =
      ((lockEquipment s.fitment).find? fun c => !c.ok).or (((lockPresence s).find? fun c => !c.ok).or
        (((lockRelations s).find? fun c => !c.ok).or ((lockItems s).find? fun c => !c.ok))) := by
  unfold lockFailure?
  simp only [List.find?_append, Option.or_assoc]

/-- R175, pass 1. -/
theorem lockEquipment_find (f : Fitment) :
    (lockEquipment f).find? (fun c => !c.ok) =
      if f.equipment = none then some ⟨false, 1, 0, 0⟩
      else if f.equipment = some ⟨false, false, false⟩ then some ⟨false, 1, 0, 1⟩ else none := by
  unfold lockEquipment
  cases f.equipment with
  | none => rfl
  | some e =>
    obtain ⟨a, b, c⟩ := e
    cases a <;> cases b <;> cases c <;> rfl

section Passes

variable {s : State} {k i f : Nat}

theorem lockFails_one : s.lockFails 1 k i f ↔ k = 1 ∧ i = 0 ∧
    (f = 0 ∧ s.fitment.equipment = none ∨ f = 1 ∧ s.fitment.equipment = some ⟨false, false, false⟩) := by
  simp [State.lockFails]

theorem lockFails_two : s.lockFails 2 k i f ↔ failsAt (lockPresence s) k i f := by
  rw [lockPresence_fails]
  simp [State.lockFails]

theorem lockFails_three (hplaces : (lockPresence s).find? (fun c => !c.ok) = none) :
    s.lockFails 3 k i f ↔ failsAt (lockRelations s) k i f := by
  rw [lockRelations_fails fun k i h => failsAt_of_find_none hplaces k i 0 (lockPresence_fails.2 ⟨rfl, h⟩)]
  simp [State.lockFails]

theorem lockFails_four : s.lockFails 4 k i f ↔ failsAt (lockItems s) k i f := by
  rw [lockItems_fails]
  simp [State.lockFails]

theorem lockFails_range {q : Nat} (h : s.lockFails q k i f) : q = 1 ∨ q = 2 ∨ q = 3 ∨ q = 4 := by
  obtain ⟨hq, -⟩ | ⟨hq, -⟩ | ⟨hq, -⟩ | ⟨hq, -⟩ := h
  · exact .inl hq
  · exact .inr (.inl hq)
  · exact .inr (.inr (.inl hq))
  · exact .inr (.inr (.inr hq))

/-- R175: the first failure of a pass, with no failure before it. -/
theorem lockFailsFirst_of_pass {q : Nat} (hfails : s.lockFails q k i f)
    (hpass : ∀ k' i' f', s.lockFails q k' i' f' → notAfter k i f k' i' f')
    (hearlier : ∀ q' k' i' f', q' < q → ¬ s.lockFails q' k' i' f') : s.lockFailsFirst q k i f := by
  refine ⟨hfails, fun q' k' i' f' h' => ?_⟩
  obtain hlt | rfl | hgt := Nat.lt_trichotomy q q'
  · exact .inl hlt
  · exact .inr ⟨rfl, hpass k' i' f' h'⟩
  · exact absurd h' (hearlier q' k' i' f' hgt)

/-- R175, pass 1. -/
theorem lockEquipment_first {c : LockCheck} (h : (lockEquipment s.fitment).find? (fun c => !c.ok) = some c) :
    s.lockFailsFirst 1 c.kind c.index c.field := by
  have hnone : ∀ q' k' i' f', q' < 1 → ¬ s.lockFails q' k' i' f' := fun q' k' i' f' hlt h' => by
    obtain rfl | rfl | rfl | rfl := lockFails_range h' <;> omega
  rw [lockEquipment_find] at h
  split at h
  next habsent =>
    obtain rfl : ⟨false, 1, 0, 0⟩ = c := by simpa using h
    refine lockFailsFirst_of_pass (lockFails_one.2 ⟨rfl, rfl, .inl ⟨rfl, habsent⟩⟩) (fun k' i' f' h' => ?_) hnone
    obtain ⟨rfl, rfl, -⟩ := lockFails_one.1 h'
    exact .inr ⟨rfl, .inr ⟨rfl, Nat.zero_le _⟩⟩
  next hpresent =>
    split at h
    next hunfitted =>
      obtain rfl : ⟨false, 1, 0, 1⟩ = c := by simpa using h
      refine lockFailsFirst_of_pass (lockFails_one.2 ⟨rfl, rfl, .inr ⟨rfl, hunfitted⟩⟩) (fun k' i' f' h' => ?_) hnone
      obtain ⟨rfl, rfl, ⟨-, habsent⟩ | ⟨rfl, -⟩⟩ := lockFails_one.1 h'
      · exact absurd habsent hpresent
      · exact .inr ⟨rfl, .inr ⟨rfl, Nat.le_refl _⟩⟩
    · cases h

theorem lockFails_one_none (h : (lockEquipment s.fitment).find? (fun c => !c.ok) = none) : ¬ s.lockFails 1 k i f := by
  rw [lockEquipment_find] at h
  intro hfails
  obtain ⟨-, -, ⟨-, habsent⟩ | ⟨-, hunfitted⟩⟩ := lockFails_one.1 hfails
  · rw [if_pos habsent] at h
    cases h
  · rw [hunfitted, if_neg (by simp), if_pos rfl] at h
    cases h

end Passes

/-- R175: what the checks find first is the first failure. -/
theorem lockFailure_first {s : State} {c : LockCheck} (h : lockFailure? s = some c) :
    ∃ q, s.lockFailsFirst q c.kind c.index c.field := by
  rw [lockFailure_eq] at h
  cases h1 : (lockEquipment s.fitment).find? (fun c => !c.ok) with
  | some d =>
    obtain rfl : d = c := by simpa [h1] using h
    exact ⟨1, lockEquipment_first h1⟩
  | none =>
  rw [h1, Option.none_or] at h
  cases h2 : (lockPresence s).find? (fun c => !c.ok) with
  | some d =>
    obtain rfl : d = c := by simpa [h2] using h
    obtain ⟨hfails, hfirst⟩ := find_first (lockPresence_sorted s) h2
    refine ⟨2, lockFailsFirst_of_pass (lockFails_two.2 hfails) (fun k i f h' => hfirst k i f (lockFails_two.1 h')) ?_⟩
    intro q k i f hlt h'
    obtain rfl | rfl | rfl | rfl := lockFails_range h'
    · exact lockFails_one_none h1 h'
    all_goals omega
  | none =>
  rw [h2, Option.none_or] at h
  cases h3 : (lockRelations s).find? (fun c => !c.ok) with
  | some d =>
    obtain rfl : d = c := by simpa [h3] using h
    obtain ⟨hfails, hfirst⟩ := find_first (lockRelations_sorted s) h3
    refine ⟨3, lockFailsFirst_of_pass ((lockFails_three h2).2 hfails) (fun k i f h' => hfirst k i f ((lockFails_three h2).1 h')) ?_⟩
    intro q k i f hlt h'
    obtain rfl | rfl | rfl | rfl := lockFails_range h'
    · exact lockFails_one_none h1 h'
    · exact failsAt_of_find_none h2 k i f (lockFails_two.1 h')
    all_goals omega
  | none =>
  rw [h3, Option.none_or] at h
  obtain ⟨hfails, hfirst⟩ := find_first (lockItems_sorted s) h
  refine ⟨4, lockFailsFirst_of_pass (lockFails_four.2 hfails) (fun k i f h' => hfirst k i f (lockFails_four.1 h')) ?_⟩
  intro q k i f hlt h'
  obtain rfl | rfl | rfl | rfl := lockFails_range h'
  · exact lockFails_one_none h1 h'
  · exact failsAt_of_find_none h2 k i f (lockFails_two.1 h')
  · exact failsAt_of_find_none h3 k i f ((lockFails_three h2).1 h')
  · omega

theorem lockFailure_none {s : State} (h : lockFailure? s = none) (q k i f : Nat) : ¬ s.lockFails q k i f := by
  rw [lockFailure_eq] at h
  simp only [Option.or_eq_none_iff] at h
  obtain ⟨h1, h2, h3, h4⟩ := h
  intro h'
  obtain rfl | rfl | rfl | rfl := lockFails_range h'
  · exact lockFails_one_none h1 h'
  · exact failsAt_of_find_none h2 k i f (lockFails_two.1 h')
  · exact failsAt_of_find_none h3 k i f ((lockFails_three h2).1 h')
  · exact failsAt_of_find_none h4 k i f (lockFails_four.1 h')

/-- R175: there is at most one first failure. -/
theorem lockFailsFirst_unique {s : State} {q k i f q' k' i' f' : Nat} (h : s.lockFailsFirst q k i f)
    (h' : s.lockFailsFirst q' k' i' f') : k = k' ∧ i = i' ∧ f = f' := by
  have hle := h.2 q' k' i' f' h'.1
  have hge := h'.2 q k i f h.1
  omega

theorem lockFailure_of_first {s : State} {q k i f : Nat} (h : s.lockFailsFirst q k i f) :
    ∃ c, lockFailure? s = some c ∧ c.kind = k ∧ c.index = i ∧ c.field = f := by
  cases hfound : lockFailure? s with
  | none => exact absurd h.1 (lockFailure_none hfound q k i f)
  | some c =>
    obtain ⟨q', hfirst⟩ := lockFailure_first hfound
    exact ⟨c, rfl, lockFailsFirst_unique hfirst h⟩

theorem lockFailure_of_passed {s : State} (h : ∀ q k i f, ¬ s.lockFails q k i f) : lockFailure? s = none := by
  cases hfound : lockFailure? s with
  | none => rfl
  | some c =>
    obtain ⟨q, hfails, -⟩ := lockFailure_first hfound
    exact absurd hfails (h q _ _ _)

/-! ### The snaps of a lock -/

/-- R77, R78: a referenced axis on its switch is further from its home value than the home window. -/
def State.mismatch (s : State) (a : Axis) (r : AxisRec) : Prop :=
  s.axisRec? a = some r ∧ (s.tracker a).home = true ∧ (s.tracker a).referenced = true ∧
    r.homeWindow < ((s.tracker a).pos - r.home).natAbs

theorem referenceMismatch_inhibit (a : Axis) : inhibitOf .referenceMismatch (.axis a) = Inhibits.ofGroup a.group := rfl

/-- The states differ in the Fault Table, the beacons and the notices alone. -/
structure State.sameButFaults (s t : State) : Prop where
  seq : t.seq = s.seq
  flow : t.flow = s.flow
  drive : t.drive = s.drive
  supply : t.supply = s.supply
  fitment : t.fitment = s.fitment
  vehicle : t.vehicle = s.vehicle
  operator : t.operator = s.operator
  outgoing : t.link.outgoing = s.link.outgoing
  trackers : t.trackers = s.trackers

/-- R77: the entry of a mismatch, with no active order to meet its inhibit. -/
theorem raiseMismatch_rest {a : Axis} {s : State} (hidle : s.noActive) (hsound : s.faults.sound)
    (hroom : s.faults.entries.length < 16) :
    (raiseFaultOnce .referenceMismatch (.axis a) s).faults =
        (s.faults.raise .referenceMismatch (.axis a) s.supply.time).latch .referenceMismatch (.axis a) ∧
      s.sameButFaults (raiseFaultOnce .referenceMismatch (.axis a) s) := by
  have hpumped : (raiseOnce .referenceMismatch (.axis a) s).faults.flags.pumped = s.faults.flags.pumped := by
    rw [raiseOnce_faults, FaultTable.latch_flags]
    exact (FaultTable.raise_ofGroup _ hsound hroom rfl (referenceMismatch_inhibit a)).1
  have hidle' : (raiseOnce .referenceMismatch (.axis a) s).noActive := fun g =>
    (State.active_congr (by simp) g).trans (hidle g)
  have hset : (raiseOnce .referenceMismatch (.axis a) s).faults.flags.pumped = true ∨ s.faults.flags.pumped = false := by
    rw [hpumped]
    cases s.faults.flags.pumped <;> simp
  obtain ⟨h1, h2, h3, h4, h5, -, h7⟩ := reportFlags_rest_of_noActive hidle' hset
  refine ⟨h1.trans (raiseOnce_faults ..), ⟨h3.trans (by simp), h2.trans (by simp), h5.trans (by simp), by simp, by simp, by simp,
    by simp, ?_, h4.trans (by simp)⟩⟩
  exact (congrArg Link.outgoing h7).trans (raise_outgoing ..)

/-- What the snaps of these axes leave. -/
structure State.Snapped (s t : State) (as : List Axis) : Prop where
  seq : t.seq = s.seq
  flow : t.flow = s.flow
  drive : t.drive = s.drive
  supply : t.supply = s.supply
  fitment : t.fitment = s.fitment
  vehicle : t.vehicle = s.vehicle
  operator : t.operator = s.operator
  outgoing : t.link.outgoing = s.link.outgoing
  sound : t.faults.sound
  room : t.faults.entries.length ≤ s.faults.entries.length + as.length
  snapped : ∀ a ∈ as, ∀ r, s.axisRec? a = some r → (s.tracker a).home = true →
    t.tracker a = (s.tracker a).snapped r (s.groupIdle a.group)
  kept : ∀ a, a ∉ as ∨ s.axisRec? a = none ∨ (s.tracker a).home = false → t.tracker a = s.tracker a
  entries : ∀ a ∈ as, ∀ r, s.mismatch a r → t.faults.holdsLatched .referenceMismatch (.axis a)
  faults : (∀ a ∈ as, ∀ r, ¬ s.mismatch a r) → t.faults = s.faults

theorem State.Snapped.refl {s : State} (hsound : s.faults.sound) : s.Snapped s [] where
  seq := rfl
  flow := rfl
  drive := rfl
  supply := rfl
  fitment := rfl
  vehicle := rfl
  operator := rfl
  outgoing := rfl
  sound := hsound
  room := Nat.le_refl _
  snapped a ha := by cases ha
  kept _ _ := rfl
  entries a ha := by cases ha
  faults _ := rfl

section Snap

variable {s t : State} {as : List Axis} {a : Axis} (h : s.Snapped t as) (hfresh : a ∉ as)

include h

/-- R78: an axis that is not snapped. -/
theorem State.Snapped.skip (hno : s.axisRec? a = none ∨ (s.tracker a).home = false) : s.Snapped t (as ++ [a]) :=
  { h with
    room := by
      have := h.room
      simp only [List.length_append, List.length_singleton]
      omega
    snapped := fun b hb r hr hhome => by
      obtain hin | hin := List.mem_append.1 hb
      · exact h.snapped b hin r hr hhome
      · obtain rfl := List.mem_singleton.1 hin
        simp [hr, hhome] at hno
    kept := fun b hb => by
      refine h.kept b ?_
      obtain hout | hskip := hb
      · exact .inl fun hin => hout (List.mem_append_left _ hin)
      · exact .inr hskip
    entries := fun b hb r hmis => by
      obtain hin | hin := List.mem_append.1 hb
      · exact h.entries b hin r hmis
      · obtain rfl := List.mem_singleton.1 hin
        obtain ⟨hr, hhome, -⟩ := hmis
        simp [hr, hhome] at hno
    faults := fun hnone => h.faults fun b hb => hnone b (List.mem_append_left _ hb) }

include hfresh

/-- R77, R78: an axis that is snapped, after its entry, if it has one. -/
theorem State.Snapped.take {u : State} {r : AxisRec} (hr : s.axisRec? a = some r) (hhome : (s.tracker a).home = true)
    (hrest : t.sameButFaults u) (hsound : u.faults.sound)
    (hroom : u.faults.entries.length ≤ t.faults.entries.length + 1)
    (hkept : ∀ x, t.faults.holdsLatched .referenceMismatch x → u.faults.holdsLatched .referenceMismatch x)
    (hentry : s.mismatch a r → u.faults.holdsLatched .referenceMismatch (.axis a)) (hfaults : ¬ s.mismatch a r → u.faults = t.faults) :
    s.Snapped (u.modTracker a (Tracker.snapped r (u.groupIdle a.group))) (as ++ [a]) where
  seq := hrest.seq.trans h.seq
  flow := hrest.flow.trans h.flow
  drive := hrest.drive.trans h.drive
  supply := hrest.supply.trans h.supply
  fitment := hrest.fitment.trans h.fitment
  vehicle := hrest.vehicle.trans h.vehicle
  operator := hrest.operator.trans h.operator
  outgoing := hrest.outgoing.trans h.outgoing
  sound := hsound
  room := by
    have := h.room
    simp only [List.length_append, List.length_singleton, State.modTracker_faults]
    omega
  snapped b hb q hq hon := by
    have hidle (g : Group) : u.groupIdle g = s.groupIdle g := by
      simp only [State.groupIdle, State.active?, State.oldestQueued?, hrest.seq, h.seq]
    by_cases hab : b = a
    · subst hab
      obtain rfl : r = q := by simpa [hr] using hq
      have hold : u.tracker b = s.tracker b := by
        rw [State.tracker, hrest.trackers]
        exact h.kept b (.inl hfresh)
      rw [State.modTracker_tracker_self, hold, hidle]
    · obtain hin | hin := List.mem_append.1 hb
      · rw [State.modTracker_tracker_ne _ (Ne.symm hab), State.tracker, hrest.trackers]
        exact h.snapped b hin q hq hon
      · exact absurd (List.mem_singleton.1 hin) hab
  kept b hb := by
    have hab : b ≠ a := by
      rintro rfl
      simp [hr, hhome] at hb
    rw [State.modTracker_tracker_ne _ (Ne.symm hab), State.tracker, hrest.trackers]
    exact h.kept b (hb.imp_left fun hout hin => hout (List.mem_append_left _ hin))
  entries b hb q hmis := by
    obtain hin | hin := List.mem_append.1 hb
    · exact hkept _ (h.entries b hin q hmis)
    · obtain rfl := List.mem_singleton.1 hin
      obtain rfl : r = q := by simpa [hr] using hmis.1
      exact hentry hmis
  faults hnone :=
    (hfaults (hnone a (List.mem_append_right _ (List.mem_singleton_self a)) r)).trans
      (h.faults fun b hb => hnone b (List.mem_append_left _ hb))

/-- R78: one axis more. -/
theorem State.Snapped.step (hidle : s.noActive) (hroom : s.faults.entries.length + as.length < 16) :
    s.Snapped (snapIfActive a t) (as ++ [a]) := by
  have htracker : t.tracker a = s.tracker a := h.kept a (.inl hfresh)
  have hrec : t.axisRec? a = s.axisRec? a := by rw [State.axisRec?, h.fitment]; rfl
  unfold snapIfActive
  rw [htracker]
  cases hhome : (s.tracker a).home with
  | false => exact h.skip (.inr hhome)
  | true =>
    rw [if_pos rfl]
    cases hr : s.axisRec? a with
    | none =>
      have hnone : snap a t = t := by
        unfold snap
        rw [hrec, hr]
      rw [hnone]
      exact h.skip (.inl hr)
    | some r =>
      have hfar : ((s.tracker a).referenced = true ∧ (r.homeWindow : Int) < |(s.tracker a).pos - r.home|) ↔ s.mismatch a r := by
        simp only [State.mismatch, hr, hhome, true_and]
        rw [Int.abs_eq_natAbs, Int.ofNat_lt]
      rw [snap_eq (hrec.trans hr), htracker]
      by_cases hmis : s.mismatch a r
      · have hlen : t.faults.entries.length < 16 := Nat.lt_of_le_of_lt h.room hroom
        have hidle' : t.noActive := fun g => (State.active_congr (by rw [h.seq]) g).trans (hidle g)
        obtain ⟨hfaults, hrest⟩ := raiseMismatch_rest (a := a) hidle' h.sound hlen
        rw [if_pos (hfar.2 hmis)]
        refine h.take hfresh hr hhome hrest ?_ ?_ (fun x hx => ?_) (fun _ => ?_) fun hno => absurd hmis hno
        · exact raiseFaultOnce_sound _ _ h.sound
        · rw [hfaults, FaultTable.latch_length]
          exact FaultTable.raise_length_le _ _ _ hlen
        · rw [hfaults]
          exact hx.raiseOnce _ _ hlen
        · rw [hfaults]
          exact FaultTable.raiseOnce_latched _ _ _ hlen
      · rw [if_neg fun hno => hmis (hfar.1 hno)]
        exact h.take hfresh hr hhome ⟨rfl, rfl, rfl, rfl, rfl, rfl, rfl, rfl, rfl⟩ h.sound (Nat.le_succ _) (fun _ hx => hx)
          (fun hno => absurd hno hmis) fun _ => rfl

end Snap

/-- R78: every axis on its switch is snapped. -/
theorem snapAll_snapped {s : State} (hidle : s.noActive) (hsound : s.faults.sound) (hroom : s.faults.entries.length + 5 ≤ 16) :
    s.Snapped (snapAll s) Axis.all := by
  have hstep {t : State} {as : List Axis} {a : Axis} (h : s.Snapped t as) (hfresh : a ∉ as) (hlen : as.length < 5) :=
    h.step hfresh hidle (by omega)
  have h1 := hstep (a := .lk) (.refl hsound) (by decide) (by decide)
  have h2 := hstep (a := .lr) h1 (by decide) (by decide)
  have h3 := hstep (a := .tl) h2 (by decide) (by decide)
  have h4 := hstep (a := .sk) h3 (by decide) (by decide)
  exact hstep (a := .sr) h4 (by decide) (by decide)

/-- R165: a LATCHED mismatch in a sound table sets its group's flag. -/
theorem FaultTable.sound.group_of_mismatch {t : FaultTable} (hsound : t.sound) {a : Axis}
    (h : t.holdsLatched .referenceMismatch (.axis a)) : t.flags.group a.group = true := by
  obtain ⟨e, hmem, hcode, hsubject, -⟩ := h
  have hinhibit : e.inhibit.group a.group = true := by
    have : e.inhibit = Inhibits.ofGroup a.group := by
      simp [Entry.inhibit, hcode, hsubject, FaultCode.isStop, referenceMismatch_inhibit]
    rw [this, Inhibits.ofGroup_group]
    simp
  obtain ⟨-, -, hflags⟩ := hsound
  rw [hflags, flagsOf_group, Bool.or_eq_true, List.any_eq_true]
  exact .inr ⟨e, hmem, hinhibit⟩

/-! ### FIT_LOCK -/

/-- R176: the fitment LOCKED and the capacity in force C_cold. -/
def State.lockedCold (s : State) (r : FlowRec) : State :=
  { s with fitment := { s.fitment with locked := true }, flow := { s.flow with capacity := r.cold, cold := true } }

theorem fitLockRequest_passed {s : State} {r : FlowRec} (hopen : s.fitment.locked = false) (hpass : lockFailure? s = none)
    (hr : s.fitment.flow = some r) : fitLockRequest s = (snapAll (s.lockedCold r), .ok) := by
  have hcold : coldCapacity (s.modFitment fun f => { f with locked := true }) = s.lockedCold r := by
    unfold coldCapacity State.flowField
    rw [show (s.modFitment fun f => { f with locked := true }).fitment.flow = some r from hr]
    rfl
  unfold fitLockRequest
  rw [hopen, hpass, if_neg (by simp)]
  dsimp only
  rw [hcold]

theorem snapAll_of_off {s : State} (h : ∀ a, (s.tracker a).home = false) : snapAll s = s := by
  have hone (a : Axis) : snapIfActive a s = s := if_neg (by simp [h a])
  simp [snapAll, Axis.all, hone]

/-- Settles O25. -/
theorem lockChecksThenLocks : Obligations.LockChecksThenLocks := by
  intro tag s h
  have hrefused {k i f : Nat} (hopen : s.fitment.locked = false) (hfail : ∃ q, s.lockFailsFirst q k i f) :
      ∃ t, exec (.fitLock tag) s = .next t ∧
        t.quiet = (s.refusedReply 0x0D tag 3 (BitVec.ofNat 8 k) (BitVec.ofNat 8 i) (BitVec.ofNat 8 f)).quiet := by
    obtain ⟨q, hfirst⟩ := hfail
    obtain ⟨c, hc, rfl, rfl, rfl⟩ := lockFailure_of_first hfirst
    refine request_refused .fitLock tag fitLockRequest h (w := .field) ?_
    unfold fitLockRequest
    rw [hopen, hc]
    rfl
  have hflow (hpass : ∀ q k i f, ¬ s.lockFails q k i f) : ∃ r, s.fitment.flow = some r := by
    refine Option.ne_none_iff_exists'.1 fun hnone => hpass 2 4 0 0 ?_
    exact .inr (.inl ⟨rfl, rfl, .inr (.inr (.inl ⟨rfl, rfl, hnone⟩))⟩)
  refine ⟨fun hlocked => ?_, fun q k i f hopen hfirst => hrefused hopen ⟨q, hfirst⟩, fun hopen hnone => ?_,
    fun hopen hunfitted => ?_, fun hopen hpass hoff => ?_, fun hopen hpass hidle hsound hroom => ?_⟩
  · exact request_refused .fitLock tag fitLockRequest h (w := .locked) (if_pos hlocked)
  · refine hrefused (k := 1) (i := 0) (f := 0) hopen ⟨1, lockEquipment_first (c := ⟨false, 1, 0, 0⟩) ?_⟩
    rw [lockEquipment_find, if_pos hnone]
  · refine hrefused (k := 1) (i := 0) (f := 1) hopen ⟨1, lockEquipment_first (c := ⟨false, 1, 0, 1⟩) ?_⟩
    rw [lockEquipment_find, hunfitted]
    rfl
  · obtain ⟨r, hr⟩ := hflow hpass
    have heq := fitLockRequest_passed hopen (lockFailure_of_passed hpass) hr
    rw [snapAll_of_off (by exact hoff)] at heq
    obtain ⟨t, he, hq⟩ := request_ok .fitLock tag fitLockRequest h heq
    exact ⟨t, r, hr, he, hq⟩
  · intro mismatch
    obtain ⟨r, hr⟩ := hflow hpass
    have hsnapped := snapAll_snapped (s := s.lockedCold r) hidle hsound hroom
    obtain ⟨t, he, ht, hout⟩ := request_effect .fitLock tag fitLockRequest h
      (fitLockRequest_passed hopen (lockFailure_of_passed hpass) hr) hsnapped.outgoing
    refine ⟨t, r, hr, he, ht.fitment.trans hsnapped.fitment, ht.flow.trans hsnapped.flow, fun a x hx hhome => ?_, fun a hno => ?_,
      fun a x hmis => ?_, fun hno => ?_, hout, ?_, ht.drive.trans hsnapped.drive, ht.vehicle.trans hsnapped.vehicle,
      ht.operator.trans hsnapped.operator⟩
    · rw [ht.tracker]
      exact hsnapped.snapped a (mem_axes a) x hx hhome
    · rw [ht.tracker]
      exact hsnapped.kept a (.inr hno)
    · have hentry := hsnapped.entries a (mem_axes a) x hmis
      rw [ht.faults]
      exact ⟨hentry, hsnapped.sound.group_of_mismatch hentry⟩
    · rw [ht.faults]
      exact hsnapped.faults fun a _ x => hno a x
    · exact ht.records.trans (records_congr (by rw [hsnapped.seq]; rfl))

end Sys2Proof.Machine
end


section
/-! PROOFS. What SUBMIT makes of its order, and where it places it (O27). -/

namespace Sys2Proof.Machine

/-! ### The plan of an order -/

theorem coded_speed {b : Byte} {c : SpeedClass} (h : coded SpeedClass.all b = some c) : c = .creep ↔ b = 0 := by
  unfold coded at h
  obtain ⟨hlt, -⟩ := List.getElem?_eq_some_iff.1 h
  have hlt' : b.toNat < 3 := hlt
  obtain rfl | rfl | rfl : b = 0 ∨ b = 1 ∨ b = 2 := by bv_omega
  all_goals
    obtain rfl := Option.some.inj h
    decide

/-- Table 1-1: a LIFT kind. -/
def OrderKind.isLift : OrderKind → Bool
  | .raiseTo | .lowerTo | .tiltTo | .deploy | .stow | .home => true
  | .openShutter | .closeShutter => false

section Request

variable {r : SubmitReq} {k : OrderKind} (hkind : r.kind? = some k)

include hkind

theorem group_of_lift (hlift : k.isLift = true) : r.group = .lift := by
  unfold SubmitReq.group
  rw [hkind]
  cases k with
  | raiseTo | lowerTo | tiltTo | deploy | stow | home => rfl
  | openShutter | closeShutter => cases hlift

theorem group_of_shutter (hshutter : k.isLift = false) : ∃ d : Side, r.group = d.group := by
  unfold SubmitReq.group
  rw [hkind]
  by_cases hside : r.side = 2
  · refine ⟨.road, ?_⟩
    cases k with
    | raiseTo | lowerTo | tiltTo | deploy | stow | home => cases hshutter
    | openShutter | closeShutter => exact if_pos hside
  · refine ⟨.kerb, ?_⟩
    cases k with
    | raiseTo | lowerTo | tiltTo | deploy | stow | home => cases hshutter
    | openShutter | closeShutter => exact if_neg hside

end Request

theorem Side.group_inj {d e : Side} (h : d.group = e.group) : d = e := by
  cases d with
  | kerb => cases e with
    | kerb => rfl
    | road => cases h
  | road => cases e with
    | kerb => cases h
    | road => rfl

theorem plan_shutter (s : State) (d : Side) (k : OrderKind) (level : Bool) (x : Int) :
    s.plan d.group k level x = s.shutterPlan k d := by
  cases d <;> rfl

/-- R13: the speed class of an order that is not HOME nor a CLOSE of an unreferenced shutter. -/
theorem speedTaken_asked {s : State} {g : Group} {k : OrderKind} (hhome : k ≠ .home)
    (hclose : k = .closeShutter → ∀ a ∈ g.axes, (s.tracker a).referenced = true) (asked : SpeedClass) :
    s.speedTaken g k asked = asked := by
  cases k with
  | home => exact absurd rfl hhome
  | closeShutter => exact if_pos (List.all_eq_true.2 (hclose rfl))
  | raiseTo | lowerTo | tiltTo | deploy | stow | openShutter => rfl

theorem speedTaken_creep {s : State} {g : Group} {k : OrderKind}
    (h : k = .home ∨ k = .closeShutter ∧ ¬ ∀ a ∈ g.axes, (s.tracker a).referenced = true) (asked : SpeedClass) :
    s.speedTaken g k asked = .creep := by
  obtain rfl | ⟨rfl, hno⟩ := h
  · rfl
  · exact if_neg fun hall => hno (List.all_eq_true.1 hall)

/-- R3, R13: what a new order carries of its request. -/
theorem newOrder_fields (s : State) (r : SubmitReq) (k : OrderKind) (b : Binding) (n : Nat) {asked : SpeedClass}
    (hasked : coded SpeedClass.all r.speed = some asked) :
    let plan := s.plan r.group k (decide (k = .tiltTo) && r.form == 2) r.target.toInt
    (s.newOrder r k b n).target = plan.target ∧ (s.newOrder r k b n).phases = plan.phases ∧
      (s.newOrder r k b n).level = (decide (k = .tiltTo) && r.form == 2) ∧
      (s.newOrder r k b n).speed = s.speedTaken r.group k asked ∧
      (s.newOrder r k b n).clamped = (plan.clamped || decide (s.speedTaken r.group k asked ≠ asked)) := by
  unfold State.newOrder
  rw [hasked]
  exact ⟨rfl, rfl, rfl, rfl, rfl⟩

/-- R2, R3, R13, Tables 1-1 and 1-2. -/
theorem newOrder_plans {s : State} {r : SubmitReq} {k : OrderKind} (hkind : r.kind? = some k) {asked : SpeedClass}
    (hasked : coded SpeedClass.all r.speed = some asked) (b : Binding) (n : Nat) : s.plansOrder r k (s.newOrder r k b n) := by
  obtain ⟨htarget, hphases, hlevel, hspeed, hclamped⟩ := newOrder_fields s r k b n hasked
  have hslow : decide (SpeedClass.creep ≠ asked) = decide (r.speed ≠ 0) := by
    rw [decide_eq_decide, ne_comm, Ne, coded_speed hasked]
  have hlift (h : k.isLift = true) (l : Bool) : s.plan r.group k l r.target.toInt = s.liftPlan k l r.target.toInt := by
    rw [group_of_lift hkind h]
    rfl
  unfold State.plansOrder
  dsimp only
  refine ⟨?_, fun hcreep => ?_, fun hhome hclose => ?_⟩
  · have hmoves (hhome : k ≠ .home) (hclose : k ≠ .closeShutter) :
        (s.newOrder r k b n).clamped =
          (s.plan r.group k (decide (k = .tiltTo) && r.form == 2) r.target.toInt).clamped := by
      rw [hclamped, speedTaken_asked hhome (fun h => absurd h hclose)]
      simp
    cases k with
    | raiseTo | lowerTo =>
      rw [htarget, hphases, hlevel, hmoves (by decide) (by decide), hlift rfl]
      exact ⟨rfl, rfl, rfl, rfl⟩
    | tiltTo =>
      rw [htarget, hphases, hlevel, hmoves (by decide) (by decide), hlift rfl]
      refine ⟨fun hform => ?_, fun hform => ?_⟩
      · rw [hform]
        exact ⟨rfl, rfl, rfl, rfl⟩
      · rw [hform]
        exact ⟨rfl, rfl, rfl, _, rfl⟩
    | deploy =>
      rw [htarget, hphases, hlevel, hmoves (by decide) (by decide), hlift rfl]
      refine ⟨rfl, rfl, fun q hq => ?_⟩
      unfold State.liftPlan
      rw [hq]
      exact ⟨rfl, rfl⟩
    | stow =>
      rw [htarget, hphases, hlevel, hmoves (by decide) (by decide), hlift rfl]
      refine ⟨rfl, rfl, fun q hq => ?_⟩
      unfold State.liftPlan
      rw [hq]
      exact ⟨rfl, rfl⟩
    | home =>
      rw [htarget, hphases, hlevel, hclamped, hlift rfl, speedTaken_creep (.inl rfl), hslow]
      exact ⟨rfl, rfl, Bool.false_or _, rfl⟩
    | openShutter =>
      obtain ⟨d, hd⟩ := group_of_shutter hkind rfl
      rw [htarget, hphases, hlevel, hmoves (by decide) (by decide), hd, plan_shutter]
      refine ⟨rfl, rfl, fun e q he hq => ?_⟩
      obtain rfl := Side.group_inj he
      unfold State.shutterPlan State.softLimits
      rw [hq]
      exact ⟨rfl, rfl⟩
    | closeShutter =>
      obtain ⟨d, hd⟩ := group_of_shutter hkind rfl
      rw [htarget, hphases, hlevel, hclamped, hd, plan_shutter]
      refine ⟨rfl, rfl, fun href => ?_, fun href => ?_, fun e he => ?_⟩
      · rw [speedTaken_asked (by decide) (fun _ => href)]
        simp [State.shutterPlan]
      · rw [speedTaken_creep (.inr ⟨rfl, href⟩), hslow]
        exact Bool.false_or _
      · obtain rfl := Side.group_inj he
        rfl
  · rw [hspeed]
    exact speedTaken_creep hcreep asked
  · rw [hspeed, speedTaken_asked hhome hclose]
    exact hasked

/-- The plan of an order is all that Tables 1-1 and 1-2 speak of. -/
theorem State.plansOrder_congr {s : State} {r : SubmitReq} {k : OrderKind} {o y : Order} (h : y.plan = o.plan)
    (ho : s.plansOrder r k o) : s.plansOrder r k y := by
  have htarget : y.target = o.target := (congrArg Order.target h :)
  have hlevel : y.level = o.level := (congrArg Order.level h :)
  have hclamped : y.clamped = o.clamped := (congrArg Order.clamped h :)
  have hphases : y.phases = o.phases := (congrArg Order.phases h :)
  have hspeed : y.speed = o.speed := (congrArg Order.speed h :)
  unfold State.plansOrder
  rw [htarget, hlevel, hclamped, hphases, hspeed]
  exact ho

/-- R2: every order has a first phase. -/
theorem newOrder_phase {s : State} {r : SubmitReq} {k : OrderKind} (hkind : r.kind? = some k) (b : Binding) (n : Nat) :
    (s.newOrder r k b n).phase? ≠ none := by
  have hlength : 0 < (s.newOrder r k b n).phases.length := by
    have hphases : (s.newOrder r k b n).phases =
        (s.plan r.group k (decide (k = .tiltTo) && r.form == 2) r.target.toInt).phases := rfl
    rw [hphases]
    cases hlift : k.isLift with
    | true =>
      rw [group_of_lift hkind hlift]
      cases k with
      | raiseTo | lowerTo | deploy | stow | home => exact Nat.succ_pos _
      | tiltTo =>
        change 0 < (s.liftPlan .tiltTo _ _).phases.length
        unfold State.liftPlan
        dsimp only
        split <;> exact Nat.succ_pos _
      | openShutter | closeShutter => cases hlift
    | false =>
      obtain ⟨d, hd⟩ := group_of_shutter hkind hlift
      rw [hd, plan_shutter]
      cases k with
      | raiseTo | lowerTo | tiltTo | deploy | stow | home => cases hlift
      | openShutter | closeShutter => exact Nat.succ_pos _
  exact fun hnone => by
    have hout := List.getElem?_eq_none_iff.1 hnone
    exact absurd hlength (Nat.not_lt.2 hout)

/-- R3: the target that the first phase start gives a TILT_TO's phase. -/
def State.tiltTarget (u : State) (o : Order) (p : Phase) : Int :=
  if o.level then clampTo (u.softLimits .tl).1 (u.softLimits .tl).2 u.levelTarget else p.target

theorem fixTilt_tilt {u : State} {o : Order} {p : Phase} (hkind : o.kind = .tiltTo) (hphases : o.phases = [p]) :
    (u.fixTilt o).phases =
        [{ p with
           target := u.tiltTarget o p
           cls := some (if (u.tracker .tl).pos < u.tiltTarget o p then .tiltOut else .tiltIn) }] ∧
      (u.fixTilt o).clamped = (o.clamped || (o.level && decide (u.tiltTarget o p ≠ u.levelTarget))) ∧
      (u.fixTilt o).uncompensated = (o.uncompensated || (o.level && !u.vehicle.fresh)) := by
  unfold State.fixTilt
  rw [if_pos hkind, hphases]
  exact ⟨rfl, rfl, rfl⟩

/-- R3, R106: the tilt phase that the first phase start fixes. -/
theorem fixTilt_fixes {s u : State} {r : SubmitReq} (hkind : r.kind? = some .tiltTo) {asked : SpeedClass}
    (hasked : coded SpeedClass.all r.speed = some asked) (hform : r.form = 1 ∨ r.form = 2) (b : Binding) (n : Nat)
    (hfit : u.fitment = s.fitment) (hvehicle : u.vehicle = s.vehicle) (hpos : (u.tracker .tl).pos = (s.tracker .tl).pos) :
    s.fixesTilt r (u.fixTilt (s.newOrder r .tiltTo b n)) := by
  obtain ⟨hone, htwo⟩ := (newOrder_plans (s := s) hkind hasked b n).1
  intro q hq
  dsimp only
  have hraw : u.levelTarget = q.level + (if s.vehicle.fresh then s.vehicle.pitch else 0) * q.tiltPerTenth := by
    unfold State.levelTarget
    rw [State.profile?, hfit, ← State.profile?, hq, hvehicle]
  have hlimits : u.softLimits .tl = s.softLimits .tl := by
    simp only [State.softLimits, State.axisRec?, hfit]
  have huncompensated : (s.newOrder r .tiltTo b n).uncompensated = false := rfl
  obtain hform | hform := hform
  · obtain ⟨-, hlevel, hclamped, hphases⟩ := hone hform
    obtain ⟨hfixed, hcut, hblind⟩ := fixTilt_tilt (u := u) rfl hphases
    have hnot : r.form ≠ 2 := by rw [hform]; decide
    rw [hfixed, hcut, hblind]
    simp only [if_neg hnot, decide_eq_false hnot]
    simp [State.tiltTarget, hlevel, hclamped, huncompensated, hpos]
  · obtain ⟨-, hlevel, hclamped, z, hphases⟩ := htwo hform
    obtain ⟨hfixed, hcut, hblind⟩ := fixTilt_tilt (u := u) rfl hphases
    rw [hfixed, hcut, hblind]
    simp [State.tiltTarget, hlevel, hclamped, huncompensated, hform, hpos, hraw, hlimits, hvehicle]

/-! ### What SUBMIT checked -/

theorem speed_of_checks {r : SubmitReq} (h : firstBad r.checks = none) : ∃ asked, coded SpeedClass.all r.speed = some asked :=
  Option.isSome_iff_exists.1 (firstBad_eq_none.1 h _ (by simp [SubmitReq.checks]))

theorem form_of_checks {r : SubmitReq} (h : firstBad r.checks = none) (hkind : r.kind? = some .tiltTo) :
    r.form = 1 ∨ r.form = 2 := by
  have hform : r.formOk = true := firstBad_eq_none.1 h _ (by simp [SubmitReq.checks])
  unfold SubmitReq.formOk at hform
  rw [hkind] at hform
  simpa using hform

/-! ### The room and the number of an order -/

/-- R7: the ENDED record that ended first. -/
theorem firstEnded_least {os : List Order} {p : Order} (h : firstEnded os = some p) :
    ∀ x ∈ os, x.state = .ended → p.endRank ≤ x.endRank := by
  induction os generalizing p with
  | nil => exact fun x hx => absurd hx List.not_mem_nil
  | cons o rest ih =>
    intro x hx hended
    unfold firstEnded at h
    cases hrest : firstEnded rest with
    | none =>
      rw [hrest] at h
      have hnone := firstEnded_eq_none hrest
      obtain rfl | hx := List.mem_cons.1 hx
      · obtain rfl : x = p := by simpa [hended] using h
        exact le_refl _
      · exact absurd hended (hnone x hx)
    | some q =>
      rw [hrest] at h
      have hq := ih hrest
      by_cases hfirst : o.state = .ended ∧ o.endRank ≤ q.endRank
      · obtain rfl : o = p := by simpa [hfirst] using h
        obtain rfl | hx := List.mem_cons.1 hx
        · exact le_refl _
        · exact hfirst.2.trans (hq x hx hended)
      · obtain rfl : q = p := by simpa [hfirst] using h
        obtain rfl | hx := List.mem_cons.1 hx
        · exact (not_le.1 fun hle => hfirst ⟨hended, hle⟩).le
        · exact hq x hx hended

/-- R6: a number that no record carries is taken as it is. -/
theorem freeNumber_of_not_mem {taken : List Nat} {n : Nat} (h : n ∉ taken) (k : Nat) : freeNumber taken (k + 1) n = n := by
  unfold freeNumber
  exact if_neg (by simpa using h)

/-- The state with these records. -/
def State.withOrders (s : State) (os : List Order) : State := { s with seq := { s.seq with orders := os } }

theorem makeRoom_of_room {s : State} (h : s.seq.orders.length < 8) : makeRoom s = s.withOrders s.seq.orders := if_pos h

/-- R7: a full table gives up the ENDED record that ended first. -/
theorem makeRoom_of_full {s : State} {e : Order} (hfull : 8 ≤ s.seq.orders.length) (hmem : e ∈ s.seq.orders)
    (hended : e.state = .ended)
    (hfirst : ∀ x ∈ s.seq.orders, x.state = .ended → x.number ≠ e.number → e.endRank < x.endRank) :
    makeRoom s = s.withOrders (s.seq.orders.filter fun x => x.number != e.number) := by
  have hroom : ¬ s.seq.orders.length < Config.maxOrders := Nat.not_lt.2 hfull
  unfold makeRoom
  rw [if_neg hroom]
  cases hp : firstEnded s.seq.orders with
  | none => exact absurd hended (firstEnded_eq_none hp e hmem)
  | some p =>
    obtain ⟨hpmem, hpended⟩ := firstEnded_mem hp
    have hnumber : p.number = e.number := by
      by_contra hne
      exact absurd (firstEnded_least hp e hmem hended) (Nat.not_le.2 (hfirst p hpmem hpended hne))
    dsimp only
    rw [hnumber]
    rfl

/-! ### Placing an order -/

/-- R5 to R7: the state in which the new order stands behind the records kept. -/
def State.placed (s : State) (r : SubmitReq) (k : OrderKind) (b : Binding) (kept : List Order) : State :=
  placeOrder (s.newOrder r k b s.seq.nextNumber) (s.withOrders kept)

theorem placed_order {s : State} {kept : List Order} (hfree : ∀ o ∈ kept, o.number ≠ s.seq.nextNumber) (r : SubmitReq)
    (k : OrderKind) (b : Binding) :
    (s.placed r k b kept).order? s.seq.nextNumber = some (s.newOrder r k b s.seq.nextNumber) := by
  have hnone : kept.find? (fun o => o.number == s.seq.nextNumber) = none :=
    List.find?_eq_none.2 fun o ho => by simpa using hfree o ho
  have hnumber : (s.newOrder r k b s.seq.nextNumber).number = s.seq.nextNumber := rfl
  change (kept ++ [s.newOrder r k b s.seq.nextNumber]).find? (fun o => o.number == s.seq.nextNumber) = _
  rw [List.find?_append, hnone, Option.none_or, List.find?_cons_of_pos (by simp [hnumber])]

theorem placed_numbers (s : State) (r : SubmitReq) (k : OrderKind) (b : Binding) (kept : List Order) :
    (s.placed r k b kept).numbers = kept.map (·.number) ++ [s.seq.nextNumber] := List.map_append

theorem placed_frame (s : State) (r : SubmitReq) (k : OrderKind) (b : Binding) (kept : List Order) :
    (s.placed r k b kept).supply = s.supply ∧ (s.placed r k b kept).fitment = s.fitment ∧
      (s.placed r k b kept).link = s.link ∧ (s.placed r k b kept).vehicle = s.vehicle ∧ (s.placed r k b kept).flow = s.flow ∧
      (s.placed r k b kept).drive = s.drive ∧ (s.placed r k b kept).operator = s.operator ∧
      (s.placed r k b kept).beacon = s.beacon ∧ (s.placed r k b kept).faults = s.faults :=
  ⟨rfl, rfl, rfl, rfl, rfl, rfl, rfl, rfl, rfl⟩

/-- R6, R7: what taking an order makes of the state and of its reply, with the room made and a free number. -/
theorem takeOrder_done {s v : State} {r : SubmitReq} {k : OrderKind} {b : Binding} {kept : List Order} {y : Order}
    (hroom : makeRoom s = s.withOrders kept) (hfree : ∀ o ∈ kept, o.number ≠ s.seq.nextNumber)
    (hv : (if (s.withOrders kept).groupIdle r.group then ceaseIdle r.group (s.placed r k b kept) else s.placed r k b kept) = v)
    (hy : (advanceGroup r.group v).order? s.seq.nextNumber = some y) :
    takeOrder r k b s =
      (advanceGroup r.group v, .done (b16 s.seq.nextNumber ++ bFlag y.clamped ++ bCode OrderState.all y.state)) := by
  have hn : freeNumber ((s.withOrders kept).seq.orders.map (·.number)) ((s.withOrders kept).seq.orders.length + 1)
      (s.withOrders kept).seq.nextNumber = s.seq.nextNumber := by
    refine freeNumber_of_not_mem (fun hmem => ?_) _
    obtain ⟨o, ho, hnumber⟩ := List.mem_map.1 hmem
    exact hfree o ho hnumber
  have hplaced : placeOrder ((s.withOrders kept).newOrder r k b s.seq.nextNumber) (s.withOrders kept) = s.placed r k b kept := rfl
  unfold takeOrder
  rw [hroom]
  dsimp only
  rw [hn, hplaced, hv, hy]

theorem submitRequest_eq {s : State} {r : SubmitReq} {k : OrderKind} {b : Binding} (hchecks : firstBad r.checks = none)
    (hkind : r.kind? = some k) (hbinding : r.binding? = some b) (htaken : s.submitRefusal? r.group k b = none) :
    submitRequest r s = takeOrder r k b s := by
  unfold submitRequest
  rw [hchecks, hkind, hbinding]
  dsimp only
  rw [htaken]

/-! ### An order that waits -/

/-- R14: a group with an active order, and one whose QUEUED records a proving test holds back, starts none. -/
theorem advanceGroup_of_waits {g : Group} {s : State}
    (h : (s.active? g).isSome = true ∨ s.proving = true ∧ (s.oldestQueued? g).isSome = true) : advanceGroup g s = s := by
  unfold advanceGroup startQueued
  cases hactive : s.active? g with
  | some x => simp
  | none =>
    obtain hsome | ⟨hproving, hqueued⟩ := h
    · simp [hactive] at hsome
    · obtain ⟨q, hq⟩ := Option.isSome_iff_exists.1 hqueued
      simp [hq, hproving]

theorem active_isSome_of_subset {s t : State} {g : Group} (hkept : ∀ x ∈ s.seq.orders, x.state ≠ .ended → x ∈ t.seq.orders)
    (h : (s.active? g).isSome = true) : (t.active? g).isSome = true := by
  obtain ⟨x, hx⟩ := Option.isSome_iff_exists.1 h
  obtain ⟨hmem, rfl, hstate⟩ := State.mem_of_active hx
  obtain ⟨y, hy⟩ := State.exists_active (hkept x hmem (by rintro hended; simp [hended, OrderState.isActive] at hstate)) hstate
  rw [hy]
  rfl

theorem oldestQueued_isSome_of_subset {s t : State} {g : Group}
    (hkept : ∀ x ∈ s.seq.orders, x.state ≠ .ended → x ∈ t.seq.orders) (h : (s.oldestQueued? g).isSome = true) :
    (t.oldestQueued? g).isSome = true := by
  obtain ⟨x, hx⟩ := Option.isSome_iff_exists.1 h
  obtain ⟨hmem, hgroup, hstate⟩ := State.mem_of_oldestQueued hx
  exact List.find?_isSome.2 ⟨x, hkept x hmem (by simp [hstate]), by simp [hgroup, hstate]⟩

theorem not_groupIdle_of_waits {s : State} {g : Group}
    (h : (s.active? g).isSome = true ∨ s.proving = true ∧ (s.oldestQueued? g).isSome = true) : s.groupIdle g = false := by
  unfold State.groupIdle
  obtain h | ⟨-, h⟩ := h
  · obtain ⟨x, hx⟩ := Option.isSome_iff_exists.1 h
    simp [hx]
  · obtain ⟨x, hx⟩ := Option.isSome_iff_exists.1 h
    simp [hx]

/-- R5, R14: an order of a group that is not idle takes its place and waits. -/
theorem takeOrder_waits {s : State} {r : SubmitReq} {k : OrderKind} {b : Binding} {kept : List Order}
    (hroom : makeRoom s = s.withOrders kept) (hfree : ∀ o ∈ kept, o.number ≠ s.seq.nextNumber)
    (hkept : ∀ x ∈ s.seq.orders, x.state ≠ .ended → x ∈ kept)
    (hwaits : (s.active? r.group).isSome = true ∨ s.proving = true ∧ (s.oldestQueued? r.group).isSome = true) :
    takeOrder r k b s =
      (s.placed r k b kept,
        .done (b16 s.seq.nextNumber ++ bFlag (s.newOrder r k b s.seq.nextNumber).clamped ++ [0])) := by
  have hwaits' {t : State} (hmore : ∀ x ∈ s.seq.orders, x.state ≠ .ended → x ∈ t.seq.orders) (hprove : t.proving = s.proving) :
      (t.active? r.group).isSome = true ∨ t.proving = true ∧ (t.oldestQueued? r.group).isSome = true :=
    hwaits.imp (active_isSome_of_subset hmore) fun ⟨hproving, hqueued⟩ =>
      ⟨hprove.trans hproving, oldestQueued_isSome_of_subset hmore hqueued⟩
  have hidle : (s.withOrders kept).groupIdle r.group = false := not_groupIdle_of_waits (hwaits' hkept rfl)
  have hstays : advanceGroup r.group (s.placed r k b kept) = s.placed r k b kept :=
    advanceGroup_of_waits (hwaits' (fun x hx hstate => List.mem_append_left _ (hkept x hx hstate)) rfl)
  have hdone := takeOrder_done (v := s.placed r k b kept) hroom hfree (by rw [hidle]; rfl)
    (by rw [hstays]; exact placed_order hfree r k b)
  rw [hstays] at hdone
  exact hdone

/-! ### What the starts leave of the frames to send -/

section Outgoing

variable (o : Order) (p : Phase) (s : State)

theorem reportCompletion_outgoing : (reportCompletion o s).link.outgoing = s.link.outgoing := by
  simp [reportCompletion]

theorem markEnded_outgoing (n : Nat) (res : OrderResult) (why : Option Reason) :
    (markEnded n res why s).link.outgoing = s.link.outgoing := by
  cases ho : s.order? n with
  | none => simp only [markEnded, ho]
  | some o =>
    have hlink : (s.stopped o).link = s.link := by
      unfold State.stopped
      split <;> simp [stopTimers]
    have hended : (s.reachesEnd n o res why).link.outgoing = s.link.outgoing := by
      rw [← hlink]
      simp [State.reachesEnd, State.noticeOrder, Link.outgoing]
    rw [markEnded_eq ho]
    split
    · exact (reportCompletion_outgoing o _).trans hended
    · exact hended

theorem enterMoving_outgoing : (enterMoving o p s).link.outgoing = s.link.outgoing := by
  unfold enterMoving
  dsimp only
  (repeat' split) <;> simp [markEnded_outgoing]

theorem gateInterlock_outgoing : (gateInterlock o p s).link.outgoing = s.link.outgoing := by
  have hflow : (gateFlow o p s).link.outgoing = s.link.outgoing := by
    unfold gateFlow
    dsimp only
    split <;> simp [enterMoving_outgoing]
  unfold gateInterlock gateBinding
  (repeat' split) <;> simp [hflow]

theorem phaseStart_outgoing (n : Nat) : (phaseStart n s).link.outgoing = s.link.outgoing := by
  unfold phaseStart
  dsimp only
  (repeat' split) <;> simp [markEnded_outgoing, enterMoving_outgoing, gateInterlock_outgoing]

theorem startQueued_outgoing (g : Group) (k : Nat) : ∀ s : State, (startQueued g k s).link.outgoing = s.link.outgoing := by
  induction k with
  | zero => exact fun s => rfl
  | succ k ih =>
    intro s
    unfold startQueued
    (repeat' split) <;> simp [ih, phaseStart_outgoing]

end Outgoing

/-! ### Parked positions -/

/-- R80: a group whose order goes on records no parked position. -/
theorem startQueued_trackers (g : Group) (k : Nat) : ∀ s : State, (startQueued g k s).active? g ≠ none →
    (startQueued g k s).trackers = s.trackers := by
  induction k with
  | zero => exact fun s _ => rfl
  | succ k ih =>
    intro s
    unfold startQueued
    split
    · exact fun _ => rfl
    next hfree =>
      split
      · exact fun hactive => absurd (by simpa [State.active?] using hfree) hactive
      · split
        · exact fun _ => rfl
        · exact fun hactive => (ih _ hactive).trans (by simp)

theorem forgetParked_tracker (b : Axis) (as : List Axis) : ∀ s : State,
    (as.foldl (fun s a => s.modTracker a fun t => { t with parked := none }) s).tracker b =
      if b ∈ as then { s.tracker b with parked := none } else s.tracker b := by
  induction as with
  | nil => intro s; rfl
  | cons a as ih =>
    intro s
    rw [List.foldl_cons, ih]
    by_cases hab : b = a
    · subst hab
      rw [State.modTracker_tracker_self]
      simp
    · rw [State.modTracker_tracker_ne _ (Ne.symm hab)]
      simp [hab]

/-- R81: a group that ceases to be idle forgets the parked positions of its axes. -/
theorem ceaseIdle_tracker (g : Group) (b : Axis) (s : State) :
    (ceaseIdle g s).tracker b = if b ∈ g.axes then { s.tracker b with parked := none } else s.tracker b :=
  forgetParked_tracker b g.axes s

/-! ### The order of an idle group -/

/-- R47: a new order, which is not its own group's other order, is seen by no term of its own. -/
theorem placed_sees (s : State) (r : SubmitReq) (k : OrderKind) (b : Binding) :
    (ceaseIdle r.group (s.placed r k b s.seq.orders)).SeesAs s s.seq.nextNumber where
  fitment := by simp [placed_frame]
  vehicle := by simp [placed_frame]
  operator := by simp [placed_frame]
  health l := by simp [State.lamp, placed_frame]
  referenced a := by
    rw [ceaseIdle_tracker]
    split <;> rfl
  pos a := by
    rw [ceaseIdle_tracker]
    split <;> rfl
  proven := by simp [placed_frame]
  chan c := by simp [State.chan, placed_frame]
  flags := by simp [placed_frame]
  admits g x := by simp [placed_frame]
  others g := by
    have hnew : (s.newOrder r k b s.seq.nextNumber).number = s.seq.nextNumber := rfl
    simp [State.idleBut, State.placed, placeOrder, State.withOrders, hnew]

theorem State.Matches.numbers {t u : State} (h : t.Matches u) : t.numbers = u.numbers := by
  have hrecords (s : State) : s.numbers = s.records.map (·.number) := by
    rw [State.numbers, State.records, List.map_map]
    rfl
  rw [hrecords, hrecords, h.records]

/-- What stands at the end of an event of what a phase start made of a record. -/
theorem State.Matches.startsPhase {t u v : State} (h : t.Matches u) {y z : Order} (hsame : z.unmarked = y.unmarked)
    {p : Phase} (hstarts : v.startsPhase u p y) : v.startsPhase t p z := by
  rw [(h.serves z.group).startsPhase, ← State.startsPhase_unmarked, hsame, State.startsPhase_unmarked]
  exact hstarts

theorem State.fixesTilt_congr {s : State} {r : SubmitReq} {o y : Order} (h : y.plan = o.plan) (ho : s.fixesTilt r o) :
    s.fixesTilt r y := by
  have hclamped : y.clamped = o.clamped := (congrArg Order.clamped h :)
  have hphases : y.phases = o.phases := (congrArg Order.phases h :)
  have huncompensated : y.uncompensated = o.uncompensated := (congrArg Order.uncompensated h :)
  unfold State.fixesTilt
  rw [hclamped, hphases, huncompensated]
  exact ho

/-- R3: what an order has of its request from its taking on. -/
def State.asksFor (s : State) (r : SubmitReq) (k : OrderKind) (b : Binding) (y : Order) : Prop :=
  y.group = r.group ∧ y.kind = k ∧ y.binding = b ∧ y.index = 0 ∧ y.movingTime = 0 ∧ y.startedEdge = false ∧
    y.submittedAt = s.supply.time ∧ y.limit = if r.limit = 0 then none else some r.limit.toNat

section Taken

variable {s : State} {r : SubmitReq} {k : OrderKind} {b : Binding}

theorem State.asksFor_congr {o y : Order} (h : y.plan = o.plan) (ho : s.asksFor r k b o) : s.asksFor r k b y := by
  obtain ⟨h1, h2, h3, h4, h5, h6, h7, h8⟩ := ho
  exact ⟨(congrArg Order.group h :).trans h1, (congrArg Order.kind h :).trans h2, (congrArg Order.binding h :).trans h3,
    (congrArg Order.index h :).trans h4, (congrArg Order.movingTime h :).trans h5, (congrArg Order.startedEdge h :).trans h6,
    (congrArg Order.submittedAt h :).trans h7, (congrArg Order.limit h :).trans h8⟩

theorem newOrder_asksFor (s : State) (r : SubmitReq) (k : OrderKind) (b : Binding) (n : Nat) :
    s.asksFor r k b (s.newOrder r k b n) := ⟨rfl, rfl, rfl, rfl, rfl, rfl, rfl, rfl⟩

theorem fixTilt_asksFor (u : State) {o : Order} (h : s.asksFor r k b o) : s.asksFor r k b (u.fixTilt o) := by
  obtain ⟨hgroup, hkind, hbinding, hindex, -, hedge, htime, -, -, hsubmitted, hlimit⟩ := u.fixTilt_keeps o
  obtain ⟨h1, h2, h3, h4, h5, h6, h7, h8⟩ := h
  exact ⟨hgroup.trans h1, hkind.trans h2, hbinding.trans h3, hindex.trans h4, htime.trans h5, hedge.trans h6,
    hsubmitted.trans h7, hlimit.trans h8⟩

/-- R5, R81: the state in which the order of an idle group has its place. -/
def State.joined (s : State) (r : SubmitReq) (k : OrderKind) (b : Binding) : State :=
  ceaseIdle r.group (s.placed r k b s.seq.orders)

theorem joined_seq : (s.joined r k b).seq = (s.placed r k b s.seq.orders).seq := by
  simp [State.joined]

theorem joined_numbers : (s.joined r k b).numbers = s.numbers ++ [s.seq.nextNumber] := by
  unfold State.numbers
  rw [joined_seq]
  exact placed_numbers s r k b s.seq.orders

section Idle

variable (hidle : s.groupIdle r.group = true)

include hidle

theorem joined_active : (s.joined r k b).active? r.group = none := by
  have hnone : s.active? r.group = none := by
    simp only [State.groupIdle, Bool.and_eq_true, Option.isNone_iff_eq_none] at hidle
    exact hidle.1
  have horders : (s.joined r k b).seq.orders = s.seq.orders ++ [s.newOrder r k b s.seq.nextNumber] := congrArg _ joined_seq
  have hqueued : (s.newOrder r k b s.seq.nextNumber).state = .queued := rfl
  unfold State.active? at hnone ⊢
  rw [horders, List.find?_append, hnone]
  simp [hqueued, OrderState.isActive]

theorem joined_oldestQueued : (s.joined r k b).oldestQueued? r.group = some (s.newOrder r k b s.seq.nextNumber) := by
  have hnone : s.oldestQueued? r.group = none := by
    simp only [State.groupIdle, Bool.and_eq_true, Option.isNone_iff_eq_none] at hidle
    exact hidle.2
  have horders : (s.joined r k b).seq.orders = s.seq.orders ++ [s.newOrder r k b s.seq.nextNumber] := congrArg _ joined_seq
  have hqueued : (s.newOrder r k b s.seq.nextNumber).state = .queued := rfl
  have hgroup : (s.newOrder r k b s.seq.nextNumber).group = r.group := rfl
  unfold State.oldestQueued? at hnone ⊢
  rw [horders, List.find?_append, hnone]
  simp [hqueued, hgroup]

end Idle

variable (hfree : ∀ o ∈ s.seq.orders, o.number ≠ s.seq.nextNumber)

include hfree

theorem joined_order : (s.joined r k b).order? s.seq.nextNumber = some (s.newOrder r k b s.seq.nextNumber) :=
  (State.order_congr (congrArg _ joined_seq) _).trans (placed_order hfree r k b)

theorem joined_count : (s.joined r k b).numbers.count s.seq.nextNumber = 1 := by
  have hnone : s.seq.nextNumber ∉ s.numbers := fun hmem => by
    obtain ⟨o, ho, hnumber⟩ := List.mem_map.1 hmem
    exact hfree o ho hnumber
  rw [joined_numbers, List.count_append, List.count_eq_zero.2 hnone, List.count_singleton_self]

/-- R5, R6: a SUBMIT for an idle group with room, by what the starts leave of its order. -/
theorem submit_joins {tag : Byte} {y : Order} (h : s.answers) (htaken : submitRequest r s = takeOrder r k b s)
    (hidle : s.groupIdle r.group = true) (hroom : s.seq.orders.length < 8)
    (hy : (advanceGroup r.group (s.joined r k b)).order? s.seq.nextNumber = some y) :
    ∃ t z, exec (.submit tag r) s = .next t ∧ t.Matches (advanceGroup r.group (s.joined r k b)) ∧
      t.order? s.seq.nextNumber = some z ∧ z.unmarked = y.unmarked ∧
      t.numbers = s.numbers ++ [s.seq.nextNumber] ∧
      t.link.outgoing =
        (s.doneReply 0x10 tag (b16 s.seq.nextNumber ++ bFlag z.clamped ++ bCode OrderState.all z.state)).link.outgoing := by
  have hdone := takeOrder_done (r := r) (k := k) (b := b) (v := s.joined r k b) (makeRoom_of_room hroom) hfree
    (if_pos (by exact hidle)) hy
  have hout : (advanceGroup r.group (s.joined r k b)).link.outgoing = s.link.outgoing := by
    refine (startQueued_outgoing _ _ _).trans ?_
    simp [State.joined, placed_frame]
  obtain ⟨t, he, ht, hsent⟩ := request_effect .submit tag (submitRequest r) h (htaken.trans hdone) hout
  obtain ⟨z, hz, hsame⟩ := ht.order hy
  have hclamped : z.clamped = y.clamped := (congrArg Order.clamped hsame :)
  have hstate : z.state = y.state := (congrArg Order.state hsame :)
  have hnumbers : t.numbers = s.numbers ++ [s.seq.nextNumber] :=
    (ht.numbers.trans (advanceGroup_keeps (G := True) r.group _).numbers).trans joined_numbers
  exact ⟨t, z, he, ht, hz, hsame, hnumbers, by rw [hclamped, hstate]; exact hsent⟩

/-- R14, R15, R81: the first phase start of the order of an idle group. -/
theorem joined_starts {p : Phase} (h : s.answers) (hidle : s.groupIdle r.group = true) (hproving : s.proving = false)
    (hwaiting : claimed s.seq.nextNumber s.flow.waiting = false) (hgranted : claimed s.seq.nextNumber s.flow.granted = false)
    (hp : ((s.joined r k b).fixTilt (s.newOrder r k b s.seq.nextNumber)).phase? = some p) :
    ∃ y, (advanceGroup r.group (s.joined r k b)).order? s.seq.nextNumber = some y ∧
      ((s.joined r k b).fixTilt (s.newOrder r k b s.seq.nextNumber)).Begins y ∧
      s.startsPhase (advanceGroup r.group (s.joined r k b)) p y ∧
      (y.state ≠ .ended → ∀ a ∈ r.group.axes, ((advanceGroup r.group (s.joined r k b)).tracker a).parked = none) := by
  have hflow : (s.joined r k b).flow = s.flow := by simp [State.joined, placed_frame]
  have hprove : (s.joined r k b).proving = s.proving := by
    simp [State.proving, State.joined, placed_frame]
  have hrun : (s.joined r k b).supply.mode = .run := by
    simpa [State.joined, placed_frame] using h.1
  have hnumber : ((s.joined r k b).fixTilt (s.newOrder r k b s.seq.nextNumber)).number = s.seq.nextNumber :=
    (fixTilt_same _ _).1
  obtain ⟨y, hy, hb, hstarts⟩ := advanceGroup_starts hrun (hprove.trans hproving) (joined_active hidle)
    (joined_oldestQueued hidle) (joined_count hfree) hp
  rw [hnumber] at hy
  have hsees := placed_sees s r k b
  refine ⟨y, hy, hb, (hsees.startsPhase _ _ (hb.number.trans hnumber)).1 (hstarts (by rw [hflow]; exact ⟨hwaiting, hgranted⟩)),
    fun hstate a ha => ?_⟩
  have hgroup : y.group = r.group := hb.group.trans (fixTilt_same _ _).2.1
  obtain hended | hactive := OrderState.begun_cases hb.state
  · exact absurd hended hstate
  · obtain ⟨x, hx⟩ := State.exists_active (State.mem_of_order hy).1 hactive
    rw [hgroup] at hx
    have htrackers := startQueued_trackers r.group _ (s.joined r k b) (by exact ne_of_eq_of_ne hx (Option.some_ne_none x))
    have htracker : (advanceGroup r.group (s.joined r k b)).tracker a = (s.joined r k b).tracker a :=
      congrArg (fun x : Vector Tracker 5 => x[a.idx]) htrackers
    rw [htracker, State.joined, ceaseIdle_tracker, if_pos ha]

end Taken

section Submit

variable {s : State} {r : SubmitReq} {k : OrderKind} {b : Binding}

/-- R7: with room, and in a full table with an ENDED record, the records kept hold every one that is not ENDED. -/
theorem makeRoom_keeps {kept : List Order}
    (hkept : s.seq.orders.length < 8 ∧ kept = s.seq.orders ∨
      8 ≤ s.seq.orders.length ∧ (s.seq.orders.map (·.number)).Nodup ∧
        ∃ e ∈ s.seq.orders, e.state = .ended ∧
          (∀ x ∈ s.seq.orders, x.state = .ended → x.number ≠ e.number → e.endRank < x.endRank) ∧
          kept = s.seq.orders.filter fun x => x.number != e.number) :
    makeRoom s = s.withOrders kept ∧ ∀ x ∈ s.seq.orders, x.state ≠ .ended → x ∈ kept := by
  obtain ⟨hroom, rfl⟩ | ⟨hfull, hnodup, e, hmem, hended, hfirst, rfl⟩ := hkept
  · exact ⟨makeRoom_of_room hroom, fun x hx _ => hx⟩
  · refine ⟨makeRoom_of_full hfull hmem hended hfirst, fun x hx hstate => List.mem_filter.2 ⟨hx, ?_⟩⟩
    have hne : x.number ≠ e.number := fun hnumber => hstate (State.eq_of_number hnodup hx hmem hnumber ▸ hended)
    simpa using hne

/-- R5, R14: a SUBMIT for a group that is at work. -/
theorem submit_waits {tag : Byte} {kept : List Order} (h : s.answers) (htaken : submitRequest r s = takeOrder r k b s)
    (hroom : makeRoom s = s.withOrders kept) (hmore : ∀ x ∈ s.seq.orders, x.state ≠ .ended → x ∈ kept)
    (hfree : ∀ o ∈ kept, o.number ≠ s.seq.nextNumber)
    (hwaits : (s.active? r.group).isSome = true ∨ s.proving = true ∧ (s.oldestQueued? r.group).isSome = true) :
    ∃ t, exec (.submit tag r) s = .next t ∧
      t.quiet =
        ({ s with
           free := s.free + 1
           seq := { s.seq with
                    orders := kept ++ [s.newOrder r k b s.seq.nextNumber]
                    nextNumber := if s.seq.nextNumber = 65535 then 1 else s.seq.nextNumber + 1 } }.doneReply 0x10 tag
          (b16 s.seq.nextNumber ++ bFlag (s.newOrder r k b s.seq.nextNumber).clamped ++ [0])).quiet :=
  request_done .submit tag (submitRequest r) h (htaken.trans (takeOrder_waits hroom hfree hmore hwaits))

/-- R14: under a proving test the order of an idle group waits too. -/
theorem joined_waits (hidle : s.groupIdle r.group = true) (hproving : s.proving = true) :
    advanceGroup r.group (s.joined r k b) = s.joined r k b := by
  have hprove : (s.joined r k b).proving = s.proving := by
    simp [State.proving, State.joined, placed_frame]
  exact advanceGroup_of_waits (.inr ⟨hprove.trans hproving, by rw [joined_oldestQueued hidle]; rfl⟩)

/-- R3, R106: what the first phase start leaves of the order's plan. -/
theorem joined_plans {asked : SpeedClass} (hkind : r.kind? = some k) (hasked : coded SpeedClass.all r.speed = some asked)
    (hform : k = .tiltTo → r.form = 1 ∨ r.form = 2) (n : Nat) :
    (k ≠ .tiltTo → s.plansOrder r k ((s.joined r k b).fixTilt (s.newOrder r k b n))) ∧
      (k = .tiltTo → s.fixesTilt r ((s.joined r k b).fixTilt (s.newOrder r k b n))) := by
  have hsees := placed_sees s r k b
  refine ⟨fun hne => ?_, ?_⟩
  · rw [State.fixTilt_of_kind (by exact hne)]
    exact newOrder_plans hkind hasked b n
  · rintro rfl
    exact fixTilt_fixes hkind hasked (hform rfl) b n hsees.fitment hsees.vehicle (hsees.pos .tl)

end Submit

/-- Settles O27. -/
theorem submitJoinsTheQueue : Obligations.SubmitJoinsTheQueue := by
  intro tag r k b s h hchecks hkind hbinding hrefusal
  have htaken := submitRequest_eq hchecks hkind hbinding hrefusal
  obtain ⟨asked, hasked⟩ := speed_of_checks hchecks
  have hplans := newOrder_plans (s := s) hkind hasked b s.seq.nextNumber
  refine ⟨fun kept hwaits hkept hfree => ?_, fun hidle hroom hfree hwaiting hgranted => ?_⟩
  · obtain ⟨hmade, hmore⟩ := makeRoom_keeps hkept
    have hwaits' := hwaits.imp_right fun ⟨hproving, hqueued⟩ => And.intro (decide_eq_true hproving) hqueued
    obtain ⟨t, he, ht⟩ := submit_waits (tag := tag) h htaken hmade hmore hfree hwaits'
    exact ⟨t, s.newOrder r k b s.seq.nextNumber, he, ht, rfl, rfl, rfl, rfl, rfl, rfl, rfl, rfl, rfl, rfl, rfl, rfl, rfl, rfl,
      rfl, rfl, rfl, rfl, rfl, rfl, hplans⟩
  · have hnew := newOrder_asksFor s r k b s.seq.nextNumber
    by_cases hproving : s.drive.prove.overall = .running
    · have hstays := joined_waits (k := k) (b := b) hidle (decide_eq_true hproving)
      obtain ⟨t, z, he, ht, hz, hsame, hnumbers, hout⟩ := submit_joins (tag := tag) hfree h htaken hidle hroom
        (by rw [hstays]; exact joined_order hfree)
      have hplan : z.plan = (s.newOrder r k b s.seq.nextNumber).plan := (congrArg Order.plan hsame :)
      obtain ⟨hgroup, hk, hb, hindex, htime, hedge, hsubmitted, hlimit⟩ := State.asksFor_congr hplan hnew
      have hstate : z.state = .queued := (congrArg Order.state hsame :)
      have hphase : z.phase? = (s.newOrder r k b s.seq.nextNumber).phase? := (congrArg Order.phase? hplan :)
      obtain ⟨p, hp⟩ := Option.ne_none_iff_exists'.1 (newOrder_phase (s := s) hkind b s.seq.nextNumber)
      refine ⟨t, z, p, he, hz, hnumbers, hgroup, hk, hb, hindex, hphase.trans hp, htime, hedge, hsubmitted, hlimit,
        fun _ => hstate, fun hno => absurd hproving hno, fun _ => State.plansOrder_congr hplan hplans,
        fun _ hno => absurd hproving hno, fun _ a ha => ?_, hout⟩
      rw [ht.tracker, hstays, State.joined, ceaseIdle_tracker, if_pos ha]
    · obtain ⟨p, hp⟩ := fixTilt_phase (newOrder_phase (s := s) hkind b s.seq.nextNumber) (s.joined r k b)
      obtain ⟨y, hy, hb, hstarts, hparked⟩ := joined_starts hfree h hidle (decide_eq_false hproving) hwaiting hgranted hp
      obtain ⟨t, z, he, ht, hz, hsame, hnumbers, hout⟩ := submit_joins (tag := tag) hfree h htaken hidle hroom hy
      have hsamePlan : z.plan = y.plan := (congrArg Order.plan hsame :)
      have hplan := hsamePlan.trans hb.plan
      obtain ⟨hgroup, hk, hb', hindex, htime, hedge, hsubmitted, hlimit⟩ :=
        State.asksFor_congr hplan (fixTilt_asksFor (s.joined r k b) hnew)
      have hstate : z.state = y.state := (congrArg Order.state hsame :)
      have hphase : z.phase? = y.phase? := (congrArg Order.phase? hsame :)
      obtain ⟨hother, htilt⟩ := joined_plans (s := s) (b := b) hkind hasked
        (fun htilt => form_of_checks hchecks (htilt ▸ hkind)) s.seq.nextNumber
      exact ⟨t, z, p, he, hz, hnumbers, hgroup, hk, hb', hindex, hphase.trans (hb.phase.trans hp), htime, hedge, hsubmitted,
        hlimit, fun hno => absurd hno hproving, fun _ => ht.startsPhase hsame hstarts,
        fun hcase => State.plansOrder_congr hplan (hother (hcase.resolve_right hproving)),
        fun htilto _ => State.fixesTilt_congr hplan (htilt htilto),
        fun hended a ha => by rw [ht.tracker]; exact hparked (hstate ▸ hended) a ha, hout⟩

end Sys2Proof.Machine
end
